-- ==== Sys2Proof/Word.lean ====
section
/-! DEFINITION. The plain words of the part: bytes, the two ports, the two arms of a bay, and the
numbers by which slots, bays and pages are named. -/

namespace Sys2Proof

/-- One byte on a port or in a log entry. -/
abbrev Byte := BitVec 8

/-- The two ports (00_scope.md, outside connections). -/
inductive Port where
  | office
  | gate
  deriving DecidableEq, Repr

/-- The two loading arms of a bay. -/
inductive Arm where
  | A
  | B
  deriving DecidableEq, Repr

/-- A slot of the dispatch table: value `i` is slot number `i + 1` of R1. -/
abbrev SlotNo := Fin 16

/-- A bay record: value `i` is bay number `i + 1` of R60. -/
abbrev BayNo := Fin 12

/-- A page of the store, 0 to 63 (R145). -/
abbrev PageNo := Fin 64

end Sys2Proof
end

