-- ==== Sys2Proof/Config.lean ====
section
/-! DEFINITION. What the part fixes once: windows of the elapsed-time counter (in microseconds),
capacities, and the one free value of the model. -/

namespace Sys2Proof.Config

/-- One second of the elapsed-time counter (R183). -/
def second : Nat := 1000000

/-- The port byte gap, 20 ms (R167, R183). -/
def byteGap : Nat := 20000

/-- The answer window, 400 microseconds (R67, R183). -/
def answerWindow : Nat := 400

/-- The time of one word on the rack link, 32 bit times of 4 microseconds (R56). -/
def wordTime : Nat := 128

/-- The reclaim collection window, 500 ms (R159, R183). -/
def collectionWindow : Nat := 500000

/-- The erase suspension bound, 20 ms (R162, R183). -/
def suspensionBound : Nat := 20000

/-- The stop deadline, 30 s (R88, R183). -/
def stopTime : Nat := 30 * second

/-- Seconds in a day: the current day is terminal time div 86,400 (R180). -/
def daySeconds : Nat := 86400

/-- The last terminal time (R180, R181). -/
def lastTime : Nat := 4294967295

/-- Numbers of 32 bits wrap here (R149). -/
def wrap32 : Nat := 4294967296

/-- Requester entries are admitted while fewer than 16 are queued (R151). -/
def requesterQueue : Nat := 16

/-- The append queue holds at most 24 entries (R151). -/
def queueCapacity : Nat := 24

/-- A requester entry leaves at least 64 slots of free space (R151). -/
def reserve : Nat := 64

/-- The slots of a page (R145). -/
def pageSlots : Nat := 32

/-- The hours table has 128 entries (R104). -/
def driverEntries : Nat := 128

/-- The factor drawn from an empty correction table. R36 says that a table read for an increment is
always valid, so the spec gives no such factor: it is a free value, which nothing constrains
(log entry 9). -/
opaque emptyTableFactor : Int → Nat

end Sys2Proof.Config
end

