-- ==== Sys2Proof/Syntax.lean ====
section
/-! DEFINITION. The commands of the part: one constructor for each row of spec/opcode_table.json.
A request carries the port it arrives on, its tag and the fields of its body as R194 and section
11.3 lay them out; an enumeration keeps its byte, because a value outside its list is for the
owner's field check (R194). An event carries what only the outside can supply. -/

namespace Sys2Proof

/-- One compartment of a BOOK body (section 11.3). -/
structure BookComp where
  index : Nat
  product : Nat
  planned : Nat
  capacity : Nat
  last : Nat
  purge : Nat
  deriving DecidableEq, Repr

/-- The body of BOOK; driver 0 means none. -/
structure BookBody where
  ref : Nat
  driver : Nat
  vehicle : Nat
  driving : Nat
  duty : Nat
  comps : List BookComp
  deriving DecidableEq, Repr

/-- One planned change of an AMEND. -/
structure PlanChange where
  index : Nat
  planned : Nat
  deriving DecidableEq, Repr

/-- The body of AMEND: driving and duty both 0 is no trip part, driver 65,535 no driver part, an
empty list no planned-change part. -/
structure AmendBody where
  ref : Nat
  driving : Nat
  duty : Nat
  driver : Nat
  changes : List PlanChange
  deriving DecidableEq, Repr

/-- One point of a correction table: a temperature in tenths of a degree and a factor (R27). -/
structure CorrPoint where
  temp : Int
  factor : Nat
  deriving DecidableEq, Repr

/-- The fields of a PRODUCT_DEFINE after its state. -/
structure ProductData where
  name : Vector Byte 8
  un : Nat
  cls : Nat
  division : Nat
  packing : Nat
  flash : Nat
  points : List CorrPoint
  deriving DecidableEq, Repr

/-- The body of PRODUCT_DEFINE; the data are absent when the state is UNDEFINED. -/
structure ProductBody where
  code : Nat
  state : Nat
  data : Option ProductData
  deriving DecidableEq, Repr

/-- The body of SETTINGS_WRITE; `polled` is the mask with bit b for bay b. -/
structure SettingsBody where
  daily : Nat
  rolling : Nat
  shift : Nat
  validity : Nat
  allowance : Nat
  flowing : Nat
  permit : Nat
  settle : Nat
  polled : Nat
  deriving DecidableEq, Repr

/-- One day entry of a declaration, and one slot of a driver's day ring (R105, R113). -/
structure DayEntry where
  day : Nat
  driving : Nat
  duty : Nat
  deriving DecidableEq, Repr

/-- A declaration (R113). -/
structure Declaration where
  restEnd : Nat
  days : List DayEntry
  deriving DecidableEq, Repr

/-- The body of ARRIVE. -/
structure ArriveBody where
  ref : Nat
  driver : Nat
  declaration : Option Declaration
  deriving DecidableEq, Repr

/-- A word received on the rack link (R56): `clean` says that its sync is present and each of its
30 bit times carries a correct transition; the value and check bits are as received. -/
structure RxWord where
  clean : Bool
  value : BitVec 24
  check : BitVec 6
  deriving DecidableEq, Repr

/-- Whose settle interval or stop deadline expires: a compartment's or an orphan's (R95, R102). -/
inductive DeadlineOf where
  | compartment (slot : SlotNo) (index : Nat)
  | orphan (bay : BayNo) (arm : Arm)
  deriving DecidableEq, Repr

/-- Where a loss of power falls: between two events, or inside an event that writes both the marker
area and retained memory, after the one and before the other (R187). Such events are a first paper issue
(R125), the verify failure and the completion of an erase (R163, R164), each before or after the mark of the
page that the engine takes next in the same event (R161), and the end of the start-up scan (R191), which has
read the 32 bytes given. -/
inductive EventCut where
  | betweenEvents
  | inPaperIssue
  | inEraseFailure (nextMarked : Bool)
  | inEraseCompletion (nextMarked : Bool)
  | inScan (slot : List Byte)
  deriving DecidableEq, Repr

/-- The commands, one for each row of spec/opcode_table.json. -/
inductive Instr where
  | book (p : Port) (tag : Nat) (b : BookBody)
  | amend (p : Port) (tag : Nat) (b : AmendBody)
  | cancel (p : Port) (tag ref : Nat)
  | detach (p : Port) (tag ref : Nat)
  | override (p : Port) (tag ref set supervisor : Nat)
  | deliveryRead (p : Port) (tag ref : Nat)
  | driverRegister (p : Port) (tag driver day : Nat)
  | driverRemove (p : Port) (tag driver : Nat)
  | driverRead (p : Port) (tag driver : Nat)
  | productDefine (p : Port) (tag : Nat) (b : ProductBody)
  | productState (p : Port) (tag code state : Nat)
  | productRead (p : Port) (tag code : Nat)
  | settingsWrite (p : Port) (tag : Nat) (b : SettingsBody)
  | settingsRead (p : Port) (tag : Nat)
  | timeSet (p : Port) (tag value : Nat)
  | shutdownClear (p : Port) (tag : Nat)
  | logRead (p : Port) (tag number count : Nat)
  | logAck (p : Port) (tag number : Nat)
  | reclaim (p : Port) (tag page : Nat)
  | bayRead (p : Port) (tag bay : Nat)
  | restart (p : Port) (tag kind : Nat)
  | status (p : Port) (tag : Nat)
  | arrive (p : Port) (tag : Nat) (b : ArriveBody)
  | hoursQuery (p : Port) (tag driver : Nat)
  | release (p : Port) (tag ref driver : Nat)
  | paperRead (p : Port) (tag ref : Nat)
  | frameReceived (p : Port) (content : List Byte)
  | portByteGapExpiry (p : Port)
  | frameSent (p : Port)
  | exchangeStart
  | answerReceived (words : List RxWord)
  | answerWindowExpiry
  | allStopBroadcast
  | permitWindowExpiry (slot : SlotNo) (index : Nat)
  | flowingLimitExpiry (slot : SlotNo) (index : Nat)
  | settleIntervalExpiry (target : DeadlineOf)
  | stopDeadlineExpiry (target : DeadlineOf)
  | shutdownInputAsserted
  | shutdownInputDeasserted
  | terminalTimeAdvance
  | writeComplete
  | collectionWindowExpiry
  | eraseSuspend
  | eraseComplete
  | eraseVerifyFailure
  | resetAsserted
  | resetDeasserted
  | powerLoss (cut : EventCut)
  | powerReturn (backupFailed : Bool)
  | startUpEraseEnd (verified : Bool)
  | startUpScanEnd (slot : List Byte)
  | portByteReceived (p : Port) (byte : Byte) (stopBit : Bool)
  deriving DecidableEq, Repr

end Sys2Proof
end

