-- ==== Sys2Proof/Machine/State.lean ====
section
/-! DEFINITION. The state of the part as plain data, its faults and refusals, and the state right
after reset. -/

namespace Sys2Proof.Machine

/-! ### Deliveries and compartments (R1 to R5) -/

/-- The states of a delivery (R2). -/
inductive DelState where
  | booked
  | arrived
  | atBay
  | loaded
  | held
  | releasing
  | cancelling
  | expiring
  deriving DecidableEq, Repr

/-- The states of a compartment (R3). -/
inductive CompState where
  | planned
  | permitted
  | flowing
  | stopping
  | done
  | void
  | interrupted
  deriving DecidableEq, Repr

/-- The compartment flags (R3). -/
structure Flags where
  limited : Bool
  overplan : Bool
  capacity : Bool
  time : Bool
  shutdown : Bool
  gap : Bool
  regression : Bool
  tempClamped : Bool
  unclosed : Bool
  fault : Bool
  deriving DecidableEq, Repr

/-- No flag set. -/
def Flags.none : Flags :=
  ⟨false, false, false, false, false, false, false, false, false, false⟩

/-- A set of holds: the hold set, the raised set, and the override set, which never names
`endorsement` or `logFull` (R2, R132). -/
structure HoldSet where
  provisional : Bool
  quantity : Bool
  daily : Bool
  rolling : Bool
  shift : Bool
  endorsement : Bool
  logFull : Bool
  deriving DecidableEq, Repr

/-- The empty set of holds. -/
def HoldSet.empty : HoldSet := ⟨false, false, false, false, false, false, false⟩

/-- The accumulator set of a compartment or an orphan (R40): last cumulative L, net accumulator A,
gross total G, temperature sum S, and the flags. -/
structure Acc where
  L : Nat
  A : Nat
  G : Nat
  S : Int
  flags : Flags
  deriving DecidableEq, Repr

/-- The set that BOOK creates (R40). -/
def Acc.zero : Acc := ⟨0, 0, 0, 0, Flags.none⟩

/-- The kinds of a compartment's deadline (R88). -/
inductive DeadlineKind where
  | permitWindow
  | flowingLimit
  | settleInterval
  | stopDeadline
  deriving DecidableEq, Repr

/-- A running deadline: its kind and the elapsed time at which it expires (R183). -/
structure Deadline where
  kind : DeadlineKind
  expires : Nat
  deriving DecidableEq, Repr

/-- The arm field of a compartment: bay and arm (R3). -/
structure ArmRef where
  bay : BayNo
  arm : Arm
  deriving DecidableEq, Repr

/-- A compartment record (R3). -/
structure Compartment where
  index : Nat
  product : Nat
  planned : Nat
  capacity : Nat
  last : Nat
  purge : Bool
  state : CompState
  arm : Option ArmRef
  acc : Acc
  deadline : Option Deadline
  deriving DecidableEq, Repr

/-- The packing groups (R27). -/
inductive Packing where
  | none
  | one
  | two
  | three
  deriving DecidableEq, Repr

/-- The flash groups (R27). -/
inductive Flash where
  | low
  | high
  deriving DecidableEq, Repr

/-- One line of a consignment paper (R124). -/
structure PaperLine where
  product : Nat
  name : Vector Byte 8
  un : Nat
  cls : Nat
  division : Nat
  packing : Packing
  comps : List Nat
  net : Nat
  gross : Nat
  average : Option Int
  deriving DecidableEq, Repr

/-- A consignment paper (R124). -/
structure Paper where
  number : Nat
  version : Nat
  issued : Nat
  provisional : Bool
  lines : List PaperLine
  deriving DecidableEq, Repr

/-- A delivery record (R2). -/
structure Delivery where
  ref : Nat
  driver : Option Nat
  vehicle : Nat
  driving : Nat
  duty : Nat
  comps : List Compartment
  bay : Option BayNo
  state : DelState
  holds : HoldSet
  overrides : HoldSet
  supervisor : Option Nat
  paper : Option Paper
  deadline : Nat
  arrival : Option Nat
  claim : Option Nat
  deriving DecidableEq, Repr

/-! ### The rack link (R57 to R68) -/

/-- The kinds of a bay request (R57). -/
inductive BayRequest where
  | claim
  | start
  | finish
  | fault
  deriving DecidableEq, Repr

/-- The deny reasons (R80). -/
inductive DenyReason where
  | unknownDelivery
  | owned
  | bayBound
  | deliveryBound
  | notArrived
  | hours
  | noCompartment
  | notPlanned
  | armBusy
  | shutdown
  | productDisabled
  | crossover
  | switchLoad
  | active
  deriving DecidableEq, Repr

/-- A message that an outbox can hold (R63). The verdict names the request answered, the arm for a
START, and the deny reason, absent for a GRANT (R57, R59). -/
inductive Message where
  | permit (arm : Arm) (index product target capacity : Nat)
  | stop (arm : Arm)
  | verdict (request : BayRequest) (arm : Option Arm) (deny : Option DenyReason)
  | dismiss
  deriving DecidableEq, Repr

/-- The states of an orphan (R62). -/
inductive OrphanState where
  | interrupted
  | stopping
  deriving DecidableEq, Repr

/-- An orphan record (R62). -/
structure Orphan where
  ref : Nat
  index : Nat
  product : Nat
  planned : Nat
  capacity : Nat
  state : OrphanState
  deadline : Option Deadline
  acc : Acc
  deriving DecidableEq, Repr

/-- An arm record (R61). -/
inductive ArmRecord where
  | free
  | compartment (slot : SlotNo) (index : Nat)
  | orphan (o : Orphan)
  deriving DecidableEq, Repr

/-- The link states (R60). -/
inductive Link where
  | online
  | suspect
  | silent
  deriving DecidableEq, Repr

/-- A bay record (R60). Its presence is read from the polled-bays setting (R78). `withdrawn` is the slot of
the CANCELLING delivery whose CANCEL unbound the bay, until the bay has taken its DISMISS or the slot is
freed. It is a record of the model's own, which no meaning reads (log entry 44). -/
structure BayRecord where
  link : Link
  missed : Nat
  bound : Option SlotNo
  withdrawn : Option SlotNo
  armA : ArmRecord
  armB : ArmRecord
  outbox : List Message
  checkErrors : Nat
  missedTotal : Nat
  deriving DecidableEq, Repr

/-- A visit (R68): the bay, the exchanges that have ended, and whether the bay left the polled set
during the exchange in progress (R66). -/
structure Visit where
  bay : BayNo
  exchanges : Nat
  dropped : Bool
  deriving DecidableEq, Repr

/-- An exchange in progress (R67): the outbox message sent, or none for a POLL, and the end of the
answer window. -/
structure Exchange where
  sent : Option Message
  windowEnd : Nat
  deriving DecidableEq, Repr

/-- The rack link controller's line (R66 to R68, R76). -/
structure Rack where
  /-- the bays of this ring round not yet visited -/
  roundLeft : List BayNo
  visit : Option Visit
  exchange : Option Exchange
  /-- an ALL_STOP is owed for a latch event -/
  latchStop : Bool
  /-- an ALL_STOP is owed at the start of the round -/
  roundStop : Bool
  /-- the words last put on the line: the model's own observation (log entry 30) -/
  out : List (BitVec 30)
  deriving DecidableEq, Repr

/-- The shutdown latch's set of causes (R99). -/
structure Latch where
  input : Bool
  stopFailed : Bool
  coldStart : Bool
  store : Bool
  deriving DecidableEq, Repr

/-- The latch's causes (R99). -/
inductive Cause where
  | input
  | stopFailed
  | coldStart
  | store
  deriving DecidableEq, Repr

/-! ### Products, drivers, settings -/

/-- The states of a product entry (R26). -/
inductive ProductState where
  | undefined
  | enabled
  | disabled
  deriving DecidableEq, Repr

/-- A product entry (R26, R27). -/
structure Product where
  state : ProductState
  name : Vector Byte 8
  un : Nat
  cls : Nat
  division : Nat
  packing : Packing
  flash : Flash
  points : List CorrPoint
  deriving DecidableEq, Repr

/-- The empty contents of an UNDEFINED entry: a name of eight spaces, numbers 0, NONE, LOW and no
point (R26). -/
def Product.undefined : Product :=
  ⟨.undefined, Vector.replicate 8 0x20#8, 0, 0, 0, .none, .low, []⟩

/-- A driver entry in use (R105). -/
structure Driver where
  number : Nat
  expiry : Nat
  shiftStart : Option Nat
  ring : Vector DayEntry 14
  bound : Option SlotNo
  deriving DecidableEq, Repr

/-- The settings (R184); `polled` is indexed by bay. -/
structure Settings where
  daily : Nat
  rolling : Nat
  shift : Nat
  validity : Nat
  allowance : Nat
  flowing : Nat
  permit : Nat
  settle : Nat
  polled : Vector Bool 12
  deriving DecidableEq, Repr

/-- The cold defaults (R184). -/
def Settings.cold : Settings :=
  ⟨540, 5400, 780, 720, 100, 1800, 300, 3, Vector.replicate 12 true⟩

/-! ### The log store (R145 to R162) -/

/-- The two kinds of start (R188). -/
inductive StartKind where
  | warm
  | cold
  deriving DecidableEq, Repr

/-- The store status (R192). -/
inductive StoreStatus where
  | ready
  | degraded
  | failed
  deriving DecidableEq, Repr

/-- An arm's condition as an entry carries it (R71, R196). -/
inductive ArmCond where
  | free
  | compartment (index : Nat)
  | orphan (ref index : Nat)
  deriving DecidableEq, Repr

/-- What an entry carries beside its header, by kind (R148, R196). -/
inductive Payload where
  | book (slot : SlotNo) (vehicle driving duty count deadline : Nat)
  | arrive (vehicle shiftStart : Nat) (declared : Bool)
  | declaration (shiftStart : Nat) (clamped : Bool) (given kept altered d0 r : Nat)
  | claim (bay : BayNo) (daily rolling shift : Int)
  | deny (bay : BayNo) (arm : Arm) (index : Nat) (reason : DenyReason) (armProduct product last : Nat)
  | compartment (bay : BayNo) (arm : Arm) (index product : Nat) (state : CompState) (net gross : Nat)
      (average : Option Int) (flags : Flags)
  | paper (number version : Nat) (provisional : Bool) (lines net gross : Nat)
  | hold (new previous : HoldSet) (daily rolling shift : Int)
  | override (new previous : HoldSet) (supervisor : Nat)
  | release (number version : Nat) (provisional : Bool) (overrides : HoldSet)
      (driving duty net gross : Nat)
  | cancel (state : DelState) (bay : Option BayNo)
  | expire (deadline vehicle : Nat)
  | amend (trip : Option (Nat × Nat)) (driver : Option Nat) (changes : List PlanChange)
  | detach (state : DelState) (bay : BayNo) (paper interrupted : Nat)
  | lateQuantity (bay : BayNo) (arm : Arm) (index product net gross : Nat) (average : Option Int)
      (flags : Flags)
  | unpermitted (bay : BayNo) (arm : Arm) (cumulative : Nat) (temp : Int) (valveOpen : Bool)
  | baySilent (bay : BayNo) (a b : ArmCond)
  | bayBack (bay : BayNo) (missedTotal : Nat)
  | bayFault (bay : BayNo) (code : Nat) (a b : ArmCond)
  | shutdown (added : Cause) (set : Latch) (moved : Nat)
  | shutdownClear (cleared : Latch)
  | timeSet (value : Nat) (step : Option Nat)
  | pageBad (page : PageNo) (good : Nat)
  | startUp (kind : StartKind) (status : StoreStatus) (latch : Latch)
      (erased bad voided dropped : Nat)
  deriving DecidableEq, Repr

/-- A log entry (R148). The lost count is absent until the entry's write begins (R152); the entry
check follows from the other fields (R196). -/
structure Entry where
  seq : Nat
  lost : Option Nat
  time : Nat
  ref : Nat
  driver : Nat
  payload : Payload
  deriving DecidableEq, Repr

/-- The states of a page (R145). -/
inductive PageState where
  | free
  | filling
  | full
  | reclaiming
  | bad
  deriving DecidableEq, Repr

/-- What the start-up scan finds in the slot of a write that a start cut short: nothing, a torn
entry, or the whole entry (R191, R196). -/
inductive CutWrite where
  | blank
  | torn
  | whole
  deriving DecidableEq, Repr

/-- A used slot of a page (R145). -/
inductive PageSlot where
  | entry (e : Entry)
  | void
  deriving DecidableEq, Repr

/-- A page: its state, which the marker area records, and its used slots from slot 0 upward; the
slots after them are empty (R145, R150). -/
structure Page where
  state : PageState
  used : List PageSlot
  deriving DecidableEq, Repr

/-- The states of the reclaim engine (R159). -/
inductive EngineState where
  | idle
  | collecting
  | erasing
  | suspended
  deriving DecidableEq, Repr

/-- The reclaim engine (R159): its state, its set (once ERASING or SUSPENDED in the order of taking,
the page being erased first), the end of the collection window, and the end of the 20 ms within
which an erase must be suspended once an entry asked for it (R162). -/
structure Engine where
  state : EngineState
  set : List PageNo
  window : Option Nat
  suspendBy : Option Nat
  deriving DecidableEq, Repr

/-- The log store (R145 to R165). -/
structure LogStore where
  pages : Vector Page 64
  exportMark : Nat
  paperCounter : Nat
  queue : List Entry
  lostCount : Nat
  nextNumber : Nat
  lastWritten : Nat
  /-- whether a write has ever completed in this store (R149, R157; log entry 25) -/
  everWritten : Bool
  /-- a write of the front entry is in progress (R154) -/
  writing : Bool
  /-- the entry whose write a start cut short, until the scan decides it (R165, R191) -/
  cutWrite : Option Entry
  status : StoreStatus
  engine : Engine
  deriving DecidableEq, Repr

/-! ### The ports (R166 to R173) -/

/-- Reasons of a RETRY (R171). -/
inductive RetryReason where
  | owned
  | queueFull
  | deferLimit
  | logBusy
  | reclaimBusy
  | pageBusy
  | starting
  deriving DecidableEq, Repr

/-- Reasons of a REFUSED other than HELD, whose body is longer (section 11.3). -/
inductive RefuseReason where
  | unknownRequest
  | wrongPort
  | badField
  | noDelivery
  | duplicate
  | tableFull
  | wrongState
  | unknownDriver
  | driverMismatch
  | driverBusy
  | needDeclaration
  | productUnusable
  | inUse
  | notLoaded
  | logFull
  | noTime
  | backwards
  | gone
  | notWritten
  | shutdownActive
  | storeFailed
  | tagInUse
  deriving DecidableEq, Repr

/-- The outcomes of a page asked for with RECLAIM (R161, R163, R164). -/
inductive PageOutcome where
  | erased
  | eraseFailed
  | bad
  | notFull
  | notExported
  | notOldest
  deriving DecidableEq, Repr

/-- A readout (R48 to R50). -/
structure Readout where
  net : Nat
  gross : Nat
  average : Option Int
  deriving DecidableEq, Repr

/-- The three margins of a projection; SHIFT's is absent when there is no shift start (R117, R120). -/
structure Margins where
  daily : Int
  rolling : Int
  shift : Option Int
  deriving DecidableEq, Repr

/-- A compartment as a response carries it (R23); AMEND's DONE takes no readout (log entry 27). -/
structure CompView where
  index : Nat
  product : Nat
  planned : Nat
  capacity : Nat
  last : Nat
  purge : Bool
  state : CompState
  arm : Option ArmRef
  flags : Flags
  readout : Option Readout
  deriving DecidableEq, Repr

/-- A delivery as a response carries it (R23). -/
structure DeliveryView where
  slot : SlotNo
  state : DelState
  driver : Option Nat
  vehicle : Nat
  driving : Nat
  duty : Nat
  bay : Option BayNo
  deadline : Nat
  arrival : Option Nat
  claim : Option Nat
  holds : HoldSet
  overrides : HoldSet
  supervisor : Option Nat
  owned : Bool
  /-- number, version and provisional mark (R23, R129) -/
  paper : Option (Nat × Nat × Bool)
  comps : List CompView
  deriving DecidableEq, Repr

/-- DRIVER_READ's body (R111). -/
structure DriverView where
  number : Nat
  expiry : Nat
  shiftStart : Option Nat
  ring : List (DayEntry × Bool)
  bound : Option (SlotNo × Nat)
  owned : Bool
  /-- D0, R and S, when terminal time is set -/
  figures : Option (Nat × Nat × Option Nat)
  deriving DecidableEq, Repr

/-- One arm of a bay as BAY_READ carries it (R77). -/
inductive ArmView where
  | free
  | compartment (slot : SlotNo) (ref index : Nat) (state : CompState)
  | orphan (o : Orphan) (readout : Readout)
  deriving DecidableEq, Repr

/-- One message of an outbox as BAY_READ carries it: its kind, and its arm where it has one. -/
inductive MessageView where
  | permit (arm : Arm)
  | stop (arm : Arm)
  | verdict (arm : Option Arm)
  | dismiss
  deriving DecidableEq, Repr

/-- BAY_READ's body for one bay (R77). -/
structure BayView where
  polled : Bool
  link : Link
  missed : Nat
  bound : Option (SlotNo × Nat)
  armA : ArmView
  availableA : Bool
  armB : ArmView
  availableB : Bool
  outbox : List MessageView
  checkErrors : Nat
  missedTotal : Nat
  deriving DecidableEq, Repr

/-- One line of BAY_READ's summary (R77). -/
structure BaySummary where
  polled : Bool
  link : Link
  bound : Option Nat
  armA : ArmCond
  armB : ArmCond
  deriving DecidableEq, Repr

/-- One line of PRODUCT_READ's summary (R35). -/
structure ProductSummary where
  state : ProductState
  flash : Flash
  un : Nat
  inUse : Nat
  deriving DecidableEq, Repr

/-- One port's figures in STATUS (R178). -/
structure PortFigures where
  errors : Nat
  waiting : Nat
  records : Nat
  tags : List Nat
  deriving DecidableEq, Repr

/-- STATUS's body (R178). -/
structure StatusView where
  lastStart : StartKind
  store : StoreStatus
  time : Option Nat
  day : Option Nat
  latch : Latch
  input : Bool
  freeSlots : Nat
  /-- the number of deliveries in each state, in the order of R2 -/
  inState : List Nat
  freeDrivers : Nat
  freeSpace : Nat
  queued : Nat
  lost : Nat
  lastWritten : Nat
  exportMark : Nat
  engine : EngineState
  setSize : Nat
  paperCounter : Nat
  bays : List (Bool × Link)
  office : PortFigures
  gate : PortFigures
  deriving DecidableEq, Repr

/-- PAPER_READ's body (R131). -/
structure PaperView where
  ref : Nat
  driver : Option Nat
  vehicle : Nat
  state : DelState
  holds : HoldSet
  paper : Paper
  deriving DecidableEq, Repr

/-- The body of a DONE, as the owning rule lists it (R171). -/
inductive DoneBody where
  | booked (slot : SlotNo) (deadline : Nat)
  | amended (v : DeliveryView)
  | detached (state : DelState) (paper : Option (Nat × Nat))
  | delivery (v : DeliveryView)
  | registered (v : DriverView) (created : Bool)
  | removed
  | driver (v : DriverView)
  | product (code : Nat) (entry : Product)
  | productState (state : ProductState) (inUse : Nat)
  | productRead (code : Nat) (entry : Product) (compartments orphans : Nat)
  | productSummary (all : List ProductSummary)
  | settingsWritten (stored : Settings) (marks : List Bool)
  | settings (stored : Settings)
  | timeSet (time day : Nat)
  | cleared (causes : Latch)
  | log (first : Nat) (entries : List Entry) (lastWritten mark : Nat)
  | acked (mark lastWritten : Nat)
  | bay (v : BayView)
  | baySummary (all : List BaySummary)
  | restart (kind : StartKind)
  | status (v : StatusView)
  | arrived (arrival shiftStart d0 r s : Nat) (margins : Margins)
  | hours (d0 r : Nat) (s : Option Nat) (bound : Option (Nat × DelState)) (margins : Margins)
      (expiry : Nat) (endorsed : Bool)
  | paper (v : PaperView)
  deriving DecidableEq, Repr

/-- The body of an outgoing frame; its constructor gives the frame's kind (R166, R194). -/
inductive FrameBody where
  | done (b : DoneBody)
  | deferredEntry (seq : Nat)
  | deferredPage (page : PageNo)
  | retry (r : RetryReason)
  | refused (r : RefuseReason)
  | refusedHeld (holds raised : HoldSet) (margins : Margins) (number version : Nat)
  | replyDone
  | replyOverride (set : HoldSet) (supervisor : Nat)
  | replyReleased (ref : Nat) (driver : Option Nat) (vehicle : Nat) (overrides : HoldSet) (seq : Nat)
      (paper : Option Paper)
  | replyPage (outcome : PageOutcome) (page : PageNo)
  deriving DecidableEq, Repr

/-- A frame of an outgoing list: the tag and code of the request it answers, and its body (R166). -/
structure OutFrame where
  tag : Nat
  code : Nat
  body : FrameBody
  deriving DecidableEq, Repr

/-- A request's body as the port has received it: the fields of a known request, an unknown code,
or a length that the request's layout does not allow (R170, R194). -/
inductive ReqBody where
  | book (b : BookBody)
  | amend (b : AmendBody)
  | cancel (ref : Nat)
  | detach (ref : Nat)
  | override (ref set supervisor : Nat)
  | deliveryRead (ref : Nat)
  | driverRegister (driver day : Nat)
  | driverRemove (driver : Nat)
  | driverRead (driver : Nat)
  | productDefine (b : ProductBody)
  | productState (code state : Nat)
  | productRead (code : Nat)
  | settingsWrite (b : SettingsBody)
  | settingsRead
  | timeSet (value : Nat)
  | shutdownClear
  | logRead (number count : Nat)
  | logAck (number : Nat)
  | reclaim (page : Nat)
  | bayRead (bay : Nat)
  | restart (kind : Nat)
  | status
  | arrive (b : ArriveBody)
  | hoursQuery (driver : Nat)
  | release (ref driver : Nat)
  | paperRead (ref : Nat)
  | unknown
  | badLength
  deriving DecidableEq, Repr

/-- A request that has arrived (R167). -/
structure Request where
  tag : Nat
  code : Nat
  body : ReqBody
  deriving DecidableEq, Repr

/-- What stands in an input queue: a waiting request, or the refusal record of one that found the
queue full (R168). -/
inductive QueueItem where
  | request (r : Request)
  | refusal (tag code : Nat)
  deriving DecidableEq, Repr

/-- What a deferred request waits for: an entry of a delivery, or the outcome of a page (R172). -/
inductive DeferredObject where
  | delivery (ref awaited : Nat)
  | page (page : PageNo)
  deriving DecidableEq, Repr

/-- An entry of a deferred table (R172). -/
structure Deferred where
  tag : Nat
  code : Nat
  object : DeferredObject
  deriving DecidableEq, Repr

/-- A frame in progress: the bytes received after the start byte, and the end of the byte gap
(R167). -/
structure RxFrame where
  bytes : List Byte
  gapEnd : Nat
  deriving DecidableEq, Repr

/-- A port controller (R166 to R173). -/
structure PortState where
  /-- none while the receiver is hunting -/
  receiver : Option RxFrame
  /-- tag and code of the request in service -/
  inService : Option (Nat × Nat)
  queue : List QueueItem
  outgoing : List OutFrame
  deferred : List Deferred
  errors : Nat
  /-- the bytes of the frame last sent whole: the model's own observation (log entry 30) -/
  sent : List Byte
  deriving DecidableEq, Repr

/-! ### The whole state -/

/-- Where the part stands between power-up and the opening of the ports (R188 to R193): step 1 while
the reset input is asserted, the erases of step 2, the scan of step 3. -/
inductive Phase where
  | unpowered
  | step1
  | step2
  | step3
  | running
  deriving DecidableEq, Repr

/-- The state of the part. -/
structure State where
  /-- the commands that wait, first in, first out: the model's own -/
  pending : List Instr
  phase : Phase
  resetInput : Bool
  shutdownInput : Bool
  checkWordValid : Bool
  lastStart : StartKind
  /-- pages erased, and made BAD, in step 2 of the start in progress (R190) -/
  startErased : Nat
  startBad : Nat
  /-- the elapsed-time counter in microseconds (R183) -/
  elapsed : Nat
  /-- terminal time, or none for UNSET (R180) -/
  time : Option Nat
  settings : Settings
  dispatch : Vector (Option Delivery) 16
  bays : Vector BayRecord 12
  rack : Rack
  latch : Latch
  products : Vector Product 16
  /-- the entries of the hours table that are in use (R104) -/
  drivers : List Driver
  log : LogStore
  office : PortState
  gate : PortState
  deriving DecidableEq, Repr

/-- Why the part would stop with a fault. The spec names no event that stops the part: every damaged
input is counted and discarded and every failure is a state (R69, R164, R167, R192), so there is no
such reason. Nobody raises one; safe. -/
inductive Fault where
  deriving DecidableEq, Repr

/-- Why a command has no meaning. -/
inductive Refusal where
  /-- Raised by exec for a command that is not modelled yet; safe, since nothing can be proved of what
  it does. No arm of exec raises it now. -/
  | notModelled (mnemonic : String)
  deriving DecidableEq, Repr

/-- A bay record after a cold start (R60). -/
def BayRecord.cold : BayRecord := ⟨.silent, 3, none, none, .free, .free, [], 0, 0⟩

/-- A line on which nothing is in progress (R79). -/
def Rack.quiet : Rack := ⟨[], none, none, false, false, []⟩

/-- The reclaim engine after a start (R165). -/
def Engine.idle : Engine := ⟨.idle, [], none, none⟩

/-- A port controller after a start (R175). -/
def PortState.started : PortState := ⟨none, none, [], [], [], 0, []⟩

/-- A page with no used slot. -/
def Page.free : Page := ⟨.free, []⟩

/-- The store whose marker area has never been written, as start-up step 2 takes it: every page FREE,
then page 0 FILLING, export mark and paper counter 0 (R145, R149, R150). -/
def LogStore.new : LogStore :=
  ⟨(Vector.replicate 64 Page.free).set 0 ⟨.filling, []⟩, 0, 0, [], 0, 1, 0, false, false, none,
    .ready, Engine.idle⟩

/-- The part at its first power-up, right after a cold start has begun and step 2 has read the marker
area: the values of R189 for a cold start, the scan of step 3 in progress (log entries 1 to 3). -/
def State.reset : State where
  pending := []
  phase := .step3
  resetInput := false
  shutdownInput := false
  checkWordValid := true
  lastStart := .cold
  startErased := 0
  startBad := 0
  elapsed := 0
  time := none
  settings := Settings.cold
  dispatch := Vector.replicate 16 none
  bays := Vector.replicate 12 BayRecord.cold
  rack := Rack.quiet
  latch := ⟨false, false, true, false⟩
  products := Vector.replicate 16 Product.undefined
  drivers := []
  log := LogStore.new
  office := PortState.started
  gate := PortState.started

end Sys2Proof.Machine
end

