-- ==== Sys2Proof/Machine/Flags.lean ====
section
/-! DEFINITION. The sets of names that the part keeps as bits: holds and overrides, compartment flags
and latch causes, with the masks by which chapter 11 carries them. -/

namespace Sys2Proof.Machine

/-- A bit of a mask (section 11.1). -/
def bit (b : Bool) (i : Nat) : Nat := if b then 2 ^ i else 0

/-- The mask of a set of holds (section 11.1). -/
def HoldSet.mask (h : HoldSet) : Nat :=
  bit h.provisional 0 + bit h.quantity 1 + bit h.daily 2 + bit h.rolling 3 + bit h.shift 4
    + bit h.endorsement 5 + bit h.logFull 6

/-- The override set that a mask names; none if it names anything else than PROVISIONAL, QUANTITY,
DAILY, ROLLING and SHIFT (R140, R194). -/
def HoldSet.ofOverrideMask (m : Nat) : Option HoldSet :=
  if m < 32 then
    some ⟨m.testBit 0, m.testBit 1, m.testBit 2, m.testBit 3, m.testBit 4, false, false⟩
  else none

/-- The members of `a` that `b` does not name (R119, R133). -/
def HoldSet.without (a b : HoldSet) : HoldSet :=
  ⟨a.provisional && !b.provisional, a.quantity && !b.quantity, a.daily && !b.daily,
    a.rolling && !b.rolling, a.shift && !b.shift, a.endorsement && !b.endorsement,
    a.logFull && !b.logFull⟩

/-- The mask of the compartment flags (section 11.1). -/
def Flags.mask (f : Flags) : Nat :=
  bit f.limited 0 + bit f.overplan 1 + bit f.capacity 2 + bit f.time 3 + bit f.shutdown 4
    + bit f.gap 5 + bit f.regression 6 + bit f.tempClamped 7 + bit f.unclosed 8 + bit f.fault 9

/-- The flags that raise the QUANTITY hold (R132). -/
def Flags.doubtful (f : Flags) : Bool := f.limited || f.regression || f.unclosed

/-- The latch with no cause (R99). -/
def Latch.clear : Latch := ⟨false, false, false, false⟩

/-- The latch is set while its set of causes is not empty (R99). -/
def Latch.isSet (l : Latch) : Bool := l.input || l.stopFailed || l.coldStart || l.store

/-- Whether a cause is in the set. -/
def Latch.has (l : Latch) : Cause → Bool
  | .input => l.input
  | .stopFailed => l.stopFailed
  | .coldStart => l.coldStart
  | .store => l.store

/-- The set with a cause added (R99). -/
def Latch.add (l : Latch) : Cause → Latch
  | .input => { l with input := true }
  | .stopFailed => { l with stopFailed := true }
  | .coldStart => { l with coldStart := true }
  | .store => { l with store := true }

/-- The mask of the latch causes (section 11.1). -/
def Latch.mask (l : Latch) : Nat :=
  bit l.input 0 + bit l.stopFailed 1 + bit l.coldStart 2 + bit l.store 3

/-- The bit number of a cause (section 11.1). -/
def Cause.number : Cause → Nat
  | .input => 0
  | .stopFailed => 1
  | .coldStart => 2
  | .store => 3

end Sys2Proof.Machine
end

