-- ==== Sys2Proof/Machine/Quantity.lean ====
section
/-! DEFINITION. Net quantity arithmetic: the stages by which a report becomes net, gross and
temperature totals, and the readouts (R40 to R51). -/

namespace Sys2Proof.Machine

/-- Bounds of the totals (R46). -/
def boundA : Nat := 281474976710655
def boundG : Nat := 4294967295
def boundS : Int := 140737488355327

/-- Stage 2: the reported temperature clamped to -500..700 (R44). -/
def clampTemp (t : Int) : Int := max (-500) (min 700 t)

/-- The factor on the segment from `p` to `q`, its term rounded toward zero (R45, case 3). -/
def interpolate (p q : CorrPoint) (t : Int) : Nat :=
  ((p.factor : Int) + (((q.factor : Int) - p.factor) * (t - p.temp)).tdiv (q.temp - p.temp)).toNat

/-- The factor at or above the point `p`, the points after it being `rest` (R45, cases 2 and 3). -/
def factorFrom (p : CorrPoint) : List CorrPoint → Int → Nat
  | [], _ => p.factor
  | q :: rest, t => if t < q.temp then interpolate p q t else factorFrom q rest t

/-- Stage 3: the factor that a correction table gives at a temperature (R45). A table is never empty
when it is read (R36); what an empty one would give is a free value (log entry 9). -/
def factor : List CorrPoint → Int → Nat
  | [], t => Config.emptyTableFactor t
  | p :: rest, t => if t ≤ p.temp then p.factor else factorFrom p rest t

/-- What the quantity unit hands back of one increment (R47): the set, the gross increment, the
clamped temperature, and whether a regression was found. -/
structure Increment where
  acc : Acc
  dg : Nat
  temp : Int
  regression : Bool
  deriving DecidableEq, Repr

/-- Stages 4 to 6: `dg` at factor `f` and temperature `t`, each total saturating at its bound and
LIMITED set when a total reaches it (R46, log entry 19). -/
def accumulate (a : Acc) (dg f : Nat) (t : Int) : Acc :=
  let net := a.A + dg * f
  let gross := a.G + dg
  let sum := a.S + dg * t
  let reached := dg ≠ 0 ∧ (boundA ≤ net ∨ boundG ≤ gross ∨ sum ≤ -boundS ∨ boundS ≤ sum)
  { a with
    A := min boundA net
    G := min boundG gross
    S := max (-boundS) (min boundS sum)
    flags := { a.flags with limited := a.flags.limited || decide reached } }

/-- One increment: cumulative `c` and temperature `t` applied to a set by the correction table
`points` (R41 to R46). -/
def increment (points : List CorrPoint) (a : Acc) (c : Nat) (t : Int) : Increment :=
  let temp := clampTemp t
  let regression := decide (c < a.L)
  let dg := c - a.L
  let flags := { a.flags with
    regression := a.flags.regression || regression
    tempClamped := a.flags.tempClamped || decide (temp ≠ t) }
  let base := { a with L := max a.L c, flags := flags }
  { acc := if dg = 0 then base else accumulate base dg (factor points temp) temp
    dg := dg
    temp := temp
    regression := regression }

/-- The net readout before its limit (R48). -/
def Acc.rawNet (a : Acc) : Nat := (a.A + 327680) / 655360

/-- The gross readout before its limit (R49). -/
def Acc.rawGross (a : Acc) : Nat := (a.G + 5) / 10

/-- The net readout N (R48). -/
def Acc.net (a : Acc) : Nat := min 65535 a.rawNet

/-- The gross readout Gl (R49). -/
def Acc.gross (a : Acc) : Nat := min 65535 a.rawGross

/-- The average temperature, absent when G is 0 (R50). -/
def averageOf (s : Int) (g : Nat) : Option Int := if g = 0 then none else some (s.tdiv g)

def Acc.average (a : Acc) : Option Int := averageOf a.S a.G

/-- The set after its net readout, which sets LIMITED where it limits (R48). -/
def Acc.afterNet (a : Acc) : Acc :=
  { a with flags := { a.flags with limited := a.flags.limited || decide (65535 < a.rawNet) } }

/-- The set after its net and gross readouts (R48, R49). -/
def Acc.afterReadouts (a : Acc) : Acc :=
  { a with flags := { a.flags with
      limited := a.flags.limited || decide (65535 < a.rawNet) || decide (65535 < a.rawGross) } }

/-- The readouts of a set (R48 to R50). -/
def Acc.readout (a : Acc) : Readout := ⟨a.net, a.gross, a.average⟩

/-- The compartment after its readouts are taken (R51). -/
def Compartment.afterReadouts (c : Compartment) : Compartment :=
  { c with acc := c.acc.afterReadouts }

end Sys2Proof.Machine
end

