-- ==== Sys2Proof/Machine/Operands.lean ====
section
/-! DEFINITION. Operand forms: the fields of request bodies read from a frame's bytes (section 11.3),
the frame check (R194), and the words and answers of the rack link (R56 to R58, R195). -/

namespace Sys2Proof.Machine

/-! ### Frames -/

/-- A number carried most significant byte first (section 11.1). -/
def number (bs : List Byte) : Nat := bs.foldl (fun n b => 256 * n + b.toNat) 0

/-- The number in `len` bytes from offset `off`. -/
def field (bs : List Byte) (off len : Nat) : Nat := number ((bs.drop off).take len)

/-- A signed number of two bytes (section 11.1). -/
def signed16 (n : Nat) : Int := if 32768 ≤ n then (n : Int) - 65536 else n

/-- One bit into the 16-bit frame check register, which divides by 1021h (R194). -/
def crcBit (reg : Nat) (b : Bool) : Nat :=
  let shifted := 2 * reg % 65536
  if (32768 ≤ reg) != b then shifted ^^^ 0x1021 else shifted

/-- One byte into the register, most significant bit first (R194). -/
def crcByte (reg : Nat) (byte : Byte) : Nat :=
  [7, 6, 5, 4, 3, 2, 1, 0].foldl (fun r i => crcBit r (byte.toNat.testBit i)) reg

/-- The frame check and entry check: a register that begins at FFFFh (R194, R196). -/
def crc16 (bs : List Byte) : Nat := bs.foldl crcByte 0xFFFF

/-- The start byte of a frame (R194). -/
def startByte : Byte := 0xC3#8

/-- The codes of section 11.3. -/
def knownCode (code : Nat) : Bool := (1 ≤ code && code ≤ 0x16) || (0x20 ≤ code && code ≤ 0x23)

/-- Whether a known code belongs to a port: 01h to 15h to the office port, 20h to 23h to the gate
port, 16h to both (section 11.3). -/
def belongsTo (p : Port) (code : Nat) : Bool :=
  code == 0x16 || match p with
    | .office => code ≤ 0x15
    | .gate => 0x20 ≤ code

/-- The fields of a short name, 8 bytes from offset `off`. -/
def nameAt (bs : List Byte) (off : Nat) : Vector Byte 8 :=
  Vector.ofFn fun i => bs.getD (off + i.val) 0

/-- The compartments of a BOOK body. -/
def bookComps (bs : List Byte) (count : Nat) : List BookComp :=
  (List.range count).map fun i =>
    let at_ := 13 + 8 * i
    ⟨field bs at_ 1, field bs (at_ + 1) 1, field bs (at_ + 2) 2, field bs (at_ + 4) 2,
      field bs (at_ + 6) 1, field bs (at_ + 7) 1⟩

/-- The planned changes of an AMEND body. -/
def amendChanges (bs : List Byte) (count : Nat) : List PlanChange :=
  (List.range count).map fun i => ⟨field bs (11 + 3 * i) 1, field bs (12 + 3 * i) 2⟩

/-- The points of a PRODUCT_DEFINE body. -/
def productPoints (bs : List Byte) (count : Nat) : List CorrPoint :=
  (List.range count).map fun i =>
    ⟨signed16 (field bs (17 + 5 * i) 2), field bs (19 + 5 * i) 3⟩

/-- The day entries of an ARRIVE body. -/
def arriveDays (bs : List Byte) (count : Nat) : List DayEntry :=
  (List.range count).map fun i =>
    ⟨field bs (11 + 6 * i) 2, field bs (13 + 6 * i) 2, field bs (15 + 6 * i) 2⟩

/-- A request body read by its code: its fields where its length is one the layout allows, else
`badLength`; an unlisted code is `unknown` (section 11.3). -/
def parseBody (code : Nat) (bs : List Byte) : ReqBody :=
  let n := bs.length
  let f := field bs
  match code with
  | 0x01 =>
    if 13 ≤ n ∧ n = 13 + 8 * f 12 1 then
      .book ⟨f 0 4, f 4 2, f 6 2, f 8 2, f 10 2, bookComps bs (f 12 1)⟩
    else .badLength
  | 0x02 =>
    if 11 ≤ n ∧ n = 11 + 3 * f 10 1 then
      .amend ⟨f 0 4, f 4 2, f 6 2, f 8 2, amendChanges bs (f 10 1)⟩
    else .badLength
  | 0x03 => if n = 4 then .cancel (f 0 4) else .badLength
  | 0x04 => if n = 4 then .detach (f 0 4) else .badLength
  | 0x05 => if n = 7 then .override (f 0 4) (f 4 1) (f 5 2) else .badLength
  | 0x06 => if n = 4 then .deliveryRead (f 0 4) else .badLength
  | 0x07 => if n = 4 then .driverRegister (f 0 2) (f 2 2) else .badLength
  | 0x08 => if n = 2 then .driverRemove (f 0 2) else .badLength
  | 0x09 => if n = 2 then .driverRead (f 0 2) else .badLength
  | 0x0A =>
    if 2 ≤ n ∧ f 1 1 = 0 then
      if n = 2 then .productDefine ⟨f 0 1, 0, none⟩ else .badLength
    else if 17 ≤ n ∧ n = 17 + 5 * f 16 1 then
      .productDefine ⟨f 0 1, f 1 1,
        some ⟨nameAt bs 2, f 10 2, f 12 1, f 13 1, f 14 1, f 15 1, productPoints bs (f 16 1)⟩⟩
    else .badLength
  | 0x0B => if n = 2 then .productState (f 0 1) (f 1 1) else .badLength
  | 0x0C => if n = 1 then .productRead (f 0 1) else .badLength
  | 0x0D =>
    if n = 17 then
      .settingsWrite ⟨f 0 2, f 2 2, f 4 2, f 6 2, f 8 2, f 10 2, f 12 2, f 14 1, f 15 2⟩
    else .badLength
  | 0x0E => if n = 0 then .settingsRead else .badLength
  | 0x0F => if n = 4 then .timeSet (f 0 4) else .badLength
  | 0x10 => if n = 0 then .shutdownClear else .badLength
  | 0x11 => if n = 5 then .logRead (f 0 4) (f 4 1) else .badLength
  | 0x12 => if n = 4 then .logAck (f 0 4) else .badLength
  | 0x13 => if n = 1 then .reclaim (f 0 1) else .badLength
  | 0x14 => if n = 1 then .bayRead (f 0 1) else .badLength
  | 0x15 => if n = 1 then .restart (f 0 1) else .badLength
  | 0x16 => if n = 0 then .status else .badLength
  | 0x20 =>
    if n = 6 then .arrive ⟨f 0 4, f 4 2, none⟩
    else if 11 ≤ n ∧ n = 11 + 6 * f 10 1 then
      .arrive ⟨f 0 4, f 4 2, some ⟨f 6 4, arriveDays bs (f 10 1)⟩⟩
    else .badLength
  | 0x21 => if n = 2 then .hoursQuery (f 0 2) else .badLength
  | 0x22 => if n = 6 then .release (f 0 4) (f 4 2) else .badLength
  | 0x23 => if n = 4 then .paperRead (f 0 4) else .badLength
  | _ => .unknown

/-- The request that the bytes of a complete frame spell, from its length to its last check byte:
none where the length or the check does not match or the kind is not REQUEST (R167, R194). -/
def parseFrame (content : List Byte) : Option Request :=
  let n := content.length
  let covered := content.take (n - 2)
  if 5 ≤ n ∧ field content 0 1 ≤ 242 ∧ field content 0 1 + 3 = n ∧ crc16 covered = field content (n - 2) 2
      ∧ field content 1 1 / 16 = 1 then
    let code := field content 2 1
    some ⟨field content 1 1 % 16, code, parseBody code (covered.drop 3)⟩
  else none

/-! ### Enumerations of request bodies -/

/-- A product state byte (section 11.1). -/
def productStateOf : Nat → Option ProductState
  | 0 => some .undefined
  | 1 => some .enabled
  | 2 => some .disabled
  | _ => none

/-- A packing group byte (section 11.1). -/
def packingOf : Nat → Option Packing
  | 0 => some .none
  | 1 => some .one
  | 2 => some .two
  | 3 => some .three
  | _ => none

/-- A flash group byte (section 11.1). -/
def flashOf : Nat → Option Flash
  | 0 => some .low
  | 1 => some .high
  | _ => none

/-- A RESTART kind byte (section 11.1). -/
def startKindOf : Nat → Option StartKind
  | 1 => some .warm
  | 2 => some .cold
  | _ => none

/-! ### The rack link -/

/-- An arm report (R58). -/
structure Report where
  arm : Arm
  cumulative : Nat
  temp : Int
  valveOpen : Bool
  settled : Bool
  deriving DecidableEq, Repr

/-- A valid answer (R57): the normal answer with its reports, or an attention answer. -/
inductive Answer where
  | status (reports : List Report)
  | claim (ref : Nat)
  | start (arm : Arm) (index product : Nat)
  | finish
  | fault (code : Nat)
  deriving DecidableEq, Repr

/-- One bit into the word check register, which divides by x^6 + x + 1 (R195). -/
def checkBit (reg : Nat) (b : Bool) : Nat :=
  let shifted := 2 * reg + b.toNat
  if 64 ≤ shifted then shifted ^^^ 67 else shifted

/-- The word check: the remainder of the 24 value bits, bit 23 first, followed by six zero bits
(R195). -/
def wordCheck (value : Nat) : Nat :=
  (List.range 30).foldl (fun r i => checkBit r (value.testBit (23 - i) && decide (i < 24))) 0

/-- A good word has its sync, correct transitions and a matching check (R56). -/
def goodWord (w : RxWord) : Bool := w.clean && w.check.toNat == wordCheck w.value.toNat

/-- The bits `hi` down to `lo` of a word's value. -/
def bits (w : RxWord) (hi lo : Nat) : Nat := w.value.toNat / 2 ^ lo % 2 ^ (hi - lo + 1)

/-- The arm that a bit names (section 11.1). -/
def armOf (b : Nat) : Arm := if b = 0 then .A else .B

/-- A temperature of 12 bits, two's complement (R195). -/
def signed12 (n : Nat) : Int := if 2048 ≤ n then (n : Int) - 4096 else n

/-- The arm report that two data words carry (R195). -/
def reportOf (w1 w2 : RxWord) : Report :=
  ⟨armOf (bits w1 23 23), bits w2 23 0, signed12 (bits w1 11 0), bits w1 22 22 == 1,
    bits w1 21 21 == 1⟩

/-- A FAULT code: any value but 1, 2 and 3 is OTHER (R195). -/
def faultCodeOf (n : Nat) : Nat := if n = 1 ∨ n = 2 ∨ n = 3 then n else 4

/-- The answer that a head word and its data words spell, by kind and permitted count (R57, R195). -/
def answerOf (head : RxWord) (data : List RxWord) : Option Answer :=
  match bits head 19 15, data with
  | 0x10, [] => some (.status [])
  | 0x10, [a, b] => some (.status [reportOf a b])
  | 0x10, [a, b, c, d] => some (.status [reportOf a b, reportOf c d])
  | 0x11, [a, b] => some (.claim (bits a 15 0 * 65536 + bits b 15 0))
  | 0x12, [] => some (.start (armOf (bits head 11 11)) (bits head 10 8) (bits head 4 0))
  | 0x13, [] => some .finish
  | 0x14, [] => some (.fault (faultCodeOf (bits head 2 0)))
  | _, _ => none

/-- The valid answer of bay `b`, or none for a check error (R69). The words after those that the head
word's count announces are not part of the answer (R67, log entry 16). -/
def decodeAnswer (b : BayNo) : List RxWord → Option Answer
  | [] => none
  | head :: rest =>
    let count := bits head 14 12
    let data := rest.take count
    if goodWord head && data.all goodWord && data.length == count && bits head 23 20 == b.val + 1 then
      answerOf head data
    else none

end Sys2Proof.Machine
end

