-- ==== Sys2Proof/Machine/Ops.lean ====
section
/-! DEFINITION. The named operations that the meanings share: reading and writing the tables,
ownership, the outboxes, the ring of pages, admission to the append queue, and the deferred tables. -/

namespace Sys2Proof.Machine

/-! ### Tables -/

/-- A table with every record changed alike. -/
def mapTable {α : Type} {n : Nat} (f : α → α) (v : Vector α n) : Vector α n :=
  ⟨⟨v.toArray.toList.map f⟩, by simp⟩

/-- The record in a slot, or none where it is FREE (R1). -/
def State.slot (s : State) (i : SlotNo) : Option Delivery := s.dispatch.get i

/-- Write a slot. -/
def State.setSlot (s : State) (i : SlotNo) (d : Option Delivery) : State :=
  { s with dispatch := s.dispatch.set i.val d i.isLt }

/-- Change the record in a slot, if there is one. -/
def State.updDelivery (s : State) (i : SlotNo) (f : Delivery → Delivery) : State :=
  match s.slot i with
  | none => s
  | some d => s.setSlot i (some (f d))

/-- The slot and record of a delivery reference (R1). -/
def State.find (s : State) (ref : Nat) : Option (SlotNo × Delivery) :=
  (List.finRange 16).findSome? fun i =>
    match s.slot i with
    | none => none
    | some d => if d.ref = ref then some (i, d) else none

/-- The lowest-numbered FREE slot (R1). -/
def State.freeSlot (s : State) : Option SlotNo :=
  (List.finRange 16).find? fun i => (s.slot i).isNone

/-- The number of FREE slots (R1). -/
def State.freeSlots (s : State) : Nat := (List.finRange 16).countP fun i => (s.slot i).isNone

/-- The compartment of an index (R3). -/
def Delivery.comp (d : Delivery) (index : Nat) : Option Compartment :=
  d.comps.find? fun c => c.index == index

/-- Change the compartment of an index. -/
def Delivery.updComp (d : Delivery) (index : Nat) (f : Compartment → Compartment) : Delivery :=
  { d with comps := d.comps.map fun c => if c.index = index then f c else c }

/-- The compartment of a slot and index. -/
def State.comp (s : State) (i : SlotNo) (index : Nat) : Option Compartment :=
  match s.slot i with
  | none => none
  | some d => d.comp index

/-- Change the compartment of a slot and index. -/
def State.updComp (s : State) (i : SlotNo) (index : Nat) (f : Compartment → Compartment) : State :=
  s.updDelivery i fun d => d.updComp index f

/-- A bay record (R60). -/
def State.bay (s : State) (b : BayNo) : BayRecord := s.bays.get b

/-- Write a bay record. -/
def State.setBay (s : State) (b : BayNo) (r : BayRecord) : State :=
  { s with bays := s.bays.set b.val r b.isLt }

/-- The record of an arm (R61). -/
def BayRecord.armRecord (r : BayRecord) : Arm → ArmRecord
  | .A => r.armA
  | .B => r.armB

/-- Write the record of an arm. -/
def BayRecord.setArmRecord (r : BayRecord) (a : Arm) (x : ArmRecord) : BayRecord :=
  match a with
  | .A => { r with armA := x }
  | .B => { r with armB := x }

/-- The arm record of a bay and arm. -/
def State.arm (s : State) (b : BayNo) (a : Arm) : ArmRecord := (s.bay b).armRecord a

/-- Write the arm record of a bay and arm. -/
def State.setArm (s : State) (b : BayNo) (a : Arm) (x : ArmRecord) : State :=
  s.setBay b ((s.bay b).setArmRecord a x)

/-- Change the orphan of a bay and arm, if there is one. -/
def State.updOrphan (s : State) (b : BayNo) (a : Arm) (f : Orphan → Orphan) : State :=
  match s.arm b a with
  | .orphan o => s.setArm b a (.orphan (f o))
  | _ => s

/-- Free the arm record that a compartment's arm field names (R5). -/
def State.freeArm (s : State) : Option ArmRef → State
  | none => s
  | some x => s.setArm x.bay x.arm .free

/-- A product entry; a code outside 1..16 is no entry and reads as UNDEFINED (R26, R37). -/
def State.product (s : State) (code : Nat) : Product :=
  if h : 1 ≤ code ∧ code ≤ 16 then s.products.get ⟨code - 1, by omega⟩ else Product.undefined

/-- Write a product entry. -/
def State.setProduct (s : State) (code : Nat) (e : Product) : State :=
  if h : 1 ≤ code ∧ code ≤ 16 then
    { s with products := s.products.set (code - 1) e (by omega) }
  else s

/-- The entry of a driver number (R104). -/
def State.driver (s : State) (n : Nat) : Option Driver := s.drivers.find? fun x => x.number == n

/-- Change the entry of a driver number. -/
def State.updDriver (s : State) (n : Nat) (f : Driver → Driver) : State :=
  { s with drivers := s.drivers.map fun x => if x.number = n then f x else x }

/-- A port controller (R179). -/
def State.port (s : State) : Port → PortState
  | .office => s.office
  | .gate => s.gate

/-- Write a port controller. -/
def State.setPort (s : State) (p : Port) (x : PortState) : State :=
  match p with
  | .office => { s with office := x }
  | .gate => { s with gate := x }

/-! ### Clocks -/

/-- Terminal time where an event needs one. Every reader's own rule keeps it from running while time
is UNSET (R180); 0 stands there for states that no run reaches (log entry 26). -/
def State.now (s : State) : Nat := s.time.getD 0

/-- The current day (R180). -/
def State.today (s : State) : Nat := s.now / Config.daySeconds

/-- Let the elapsed-time counter come to the expiry of a deadline (R183, log entry 4). -/
def State.reach (s : State) (t : Nat) : State := { s with elapsed := max s.elapsed t }

/-- A deadline of `length` microseconds from now (R183). -/
def State.deadlineIn (s : State) (kind : DeadlineKind) (length : Nat) : Deadline :=
  ⟨kind, s.elapsed + length⟩

/-- The stop deadline, the settle interval and the flowing limit started now (R90, R91). -/
def State.stopDeadline (s : State) : Deadline := s.deadlineIn .stopDeadline Config.stopTime

def State.settleDeadline (s : State) : Deadline :=
  s.deadlineIn .settleInterval (s.settings.settle * Config.second)

def State.flowingDeadline (s : State) : Deadline :=
  s.deadlineIn .flowingLimit (s.settings.flowing * Config.second)

def State.permitDeadline (s : State) : Deadline :=
  s.deadlineIn .permitWindow (s.settings.permit * Config.second)

/-! ### Ownership -/

/-- Whether an entry of a deferred table names a delivery (R10). -/
def PortState.names (x : PortState) (ref : Nat) : Bool :=
  x.deferred.any fun e =>
    match e.object with
    | .delivery r _ => r == ref
    | .page _ => false

/-- Whether the state itself makes the delivery owned (R10). -/
def DelState.owning : DelState → Bool
  | .releasing | .cancelling | .expiring => true
  | _ => false

/-- Whether a delivery is owned (R10). -/
def State.owned (s : State) (d : Delivery) : Bool :=
  d.state.owning || s.office.names d.ref || s.gate.names d.ref

/-- Whether a driver entry is owned: its bound delivery is RELEASING or CANCELLING (R10, R107). -/
def State.driverOwned (s : State) (x : Driver) : Bool :=
  match x.bound with
  | none => false
  | some i =>
    match s.slot i with
    | none => false
    | some d => d.state == .releasing || d.state == .cancelling

/-! ### Outboxes (R63 to R65) -/

/-- Whether a message is a STOP for an arm. -/
def Message.isStop (a : Arm) : Message → Bool
  | .stop x => x == a
  | _ => false

/-- Whether a message is a PERMIT for an arm. -/
def Message.isPermit (a : Arm) : Message → Bool
  | .permit x _ _ _ _ => x == a
  | _ => false

/-- Whether a message is a VERDICT. -/
def Message.isVerdict : Message → Bool
  | .verdict _ _ _ => true
  | _ => false

/-- Whether a message is a DISMISS. -/
def Message.isDismiss : Message → Bool
  | .dismiss => true
  | _ => false

/-- An outbox with a STOP queued: a waiting STOP serves, a PERMIT gives its place, else the back
(R64). -/
def withStop (a : Arm) (box : List Message) : List Message :=
  if box.any (Message.isStop a) then box
  else if box.any (Message.isPermit a) then
    box.map fun m => if m.isPermit a then .stop a else m
  else box ++ [.stop a]

/-- An outbox with a PERMIT queued at the back; a PERMIT for the arm that still waits gives its place,
so that an arm has at most one message waiting (R64, log entry 10). -/
def withPermit (a : Arm) (index product target capacity : Nat) (box : List Message) : List Message :=
  if box.any (Message.isPermit a) then
    box.map fun m => if m.isPermit a then .permit a index product target capacity else m
  else box ++ [.permit a index product target capacity]

/-- Whether a bay is POLLED (R78). -/
def State.polled (s : State) (b : BayNo) : Bool := s.settings.polled.get b

/-- Queue a message by a rule of the outbox, unless the bay is SILENT or NOT_POLLED (R65). -/
def State.enqueue (s : State) (b : BayNo) (rule : List Message → List Message) : State :=
  if s.polled b ∧ (s.bay b).link ≠ .silent then
    s.setBay b { s.bay b with outbox := rule (s.bay b).outbox }
  else s

/-- Queue a STOP for an arm (R64). -/
def State.queueStop (s : State) (b : BayNo) (a : Arm) : State := s.enqueue b (withStop a)

/-- Queue a DISMISS at the back (R63). -/
def State.queueDismiss (s : State) (b : BayNo) : State := s.enqueue b fun box => box ++ [.dismiss]

/-- Queue a VERDICT at the front (R63). -/
def State.queueVerdict (s : State) (b : BayNo) (request : BayRequest) (arm : Option Arm)
    (deny : Option DenyReason) : State :=
  s.enqueue b fun box => .verdict request arm deny :: box

/-- Whether an arm is available: its record is free and no STOP for it waits (R61). -/
def BayRecord.available (r : BayRecord) (a : Arm) : Bool :=
  r.armRecord a == .free && !r.outbox.any (Message.isStop a)

/-- Whether a bay holds references (R61). -/
def BayRecord.holdsReferences (r : BayRecord) : Bool := r.armA != .free || r.armB != .free

/-- An arm's condition as entries carry it (R71). -/
def ArmRecord.cond : ArmRecord → ArmCond
  | .free => .free
  | .compartment _ index => .compartment index
  | .orphan o => .orphan o.ref o.index

/-- The reference of a bay's bound delivery, or 0 (R71, R72). -/
def State.boundRef (s : State) (b : BayNo) : Nat :=
  match (s.bay b).bound with
  | none => 0
  | some i =>
    match s.slot i with
    | none => 0
    | some d => d.ref

/-! ### The ring of pages (R145 to R149) -/

/-- A number is at or before another in serial order (R149). -/
def atOrBefore (n m : Nat) : Bool :=
  (m + (Config.wrap32 - n % Config.wrap32)) % Config.wrap32 < 2147483648

/-- The next sequence number (R149). -/
def nextSeq (n : Nat) : Nat := (n + 1) % Config.wrap32

/-- A page of the store. -/
def LogStore.page (l : LogStore) (p : PageNo) : Page := l.pages.get p

/-- Write a page and, with it, its record in the marker area (R145, R150). -/
def LogStore.setPage (l : LogStore) (p : PageNo) (x : Page) : LogStore :=
  { l with pages := l.pages.set p.val x p.isLt }

/-- The pages in ring order, beginning with the one after `p` and ending with `p` (R146). -/
def ringAfter (p : PageNo) : List PageNo :=
  (List.range 64).map fun i => ⟨(p.val + 1 + i) % 64, by omega⟩

/-- The page that is FILLING: the write point (R146). -/
def LogStore.filling (l : LogStore) : Option PageNo :=
  (List.finRange 64).find? fun p => (l.page p).state == .filling

/-- The entries of a page, in slot order. -/
def Page.entries (x : Page) : List Entry :=
  x.used.filterMap fun u =>
    match u with
    | .entry e => some e
    | .void => none

/-- The last entry of a page. -/
def Page.lastEntry (x : Page) : Option Entry := x.entries.getLast?

/-- The entries in the store, page by page. -/
def LogStore.entries (l : LogStore) : List Entry :=
  (List.finRange 64).flatMap fun p => (l.page p).entries

/-- The page that holds the entry of a number. -/
def LogStore.pageOf (l : LogStore) (n : Nat) : Option PageNo :=
  (List.finRange 64).find? fun p => (l.page p).entries.any fun e => e.seq == n

/-- The tail: the FILLING page, or else the page that holds the last written entry (R146). R146 gives none where no
page is FILLING and no page holds the last written entry, as in a store whose pages are all BAD or hold void slots
alone: that such a store has no tail is the model's choice (log entry 43). -/
def LogStore.tail (l : LogStore) : Option PageNo :=
  match l.filling with
  | some p => some p
  | none => l.pageOf l.lastWritten

/-- Whether a page is FULL or RECLAIMING. -/
def PageState.holds : PageState → Bool
  | .full | .reclaiming => true
  | _ => false

/-- The head: the first page that is FULL or RECLAIMING after the tail, or else the tail (R146). That a store without
a tail has no head is the model's choice (log entry 43). -/
def LogStore.head (l : LogStore) : Option PageNo :=
  match l.tail with
  | none => none
  | some t =>
    match (ringAfter t).find? fun p => (l.page p).state.holds with
    | some p => some p
    | none => some t

/-- The page after `p` in ring order, BAD pages passed over (R146). -/
def LogStore.nextPage (l : LogStore) (p : PageNo) : Option PageNo :=
  (ringAfter p).find? fun q => (l.page q).state != .bad

/-- The next page after `p` becomes FILLING if it is FREE (R146). -/
def LogStore.fillNext (l : LogStore) (p : PageNo) : LogStore :=
  match l.nextPage p with
  | none => l
  | some q => if (l.page q).state = .free then l.setPage q ⟨.filling, (l.page q).used⟩ else l

/-- A page whose slot 31 is used becomes FULL and the next page FILLING if it is FREE (R146). -/
def LogStore.rollOver (l : LogStore) (p : PageNo) : LogStore :=
  if Config.pageSlots ≤ (l.page p).used.length then
    (l.setPage p ⟨.full, (l.page p).used⟩).fillNext p
  else l

/-- The empty slots of the FILLING page (R147). -/
def LogStore.emptySlots (l : LogStore) : Nat :=
  match l.filling with
  | none => 0
  | some p => Config.pageSlots - (l.page p).used.length

/-- The usable FREE pages: those met after the tail before a page that is FULL, FILLING or RECLAIMING
(R147). That a store without a tail has none is the model's choice (log entry 43). -/
def LogStore.usablePages (l : LogStore) : Nat :=
  match l.tail with
  | none => 0
  | some t =>
    ((ringAfter t).takeWhile fun p => (l.page p).state == .free || (l.page p).state == .bad).countP
      fun p => (l.page p).state == .free

/-- Free space (R147). -/
def LogStore.freeSpace (l : LogStore) : Nat :=
  l.emptySlots + Config.pageSlots * l.usablePages - l.queue.length

/-- The pages that are not BAD (R164, R192). -/
def LogStore.goodPages (l : LogStore) : Nat :=
  (List.finRange 64).countP fun p => (l.page p).state != .bad

/-! ### Admission (R151 to R154) -/

/-- The write of the front entry begins if the ports are open, no write and no erase is in progress;
the lost count is placed in the entry unless a start has made it be written again (R152, R154). -/
def LogStore.beginWrite (running : Bool) (l : LogStore) : LogStore :=
  match l.queue with
  | [] => l
  | e :: rest =>
    if running && !l.writing && l.engine.state != .erasing then
      match e.lost with
      | some _ => { l with writing := true }
      | none =>
        { l with
          writing := true
          queue := { e with lost := some l.lostCount } :: rest
          lostCount := 0 }
    else l

/-- Admit an entry: it takes the next number and joins the back of the queue, asks an erase in
progress for its suspension, and is written as soon as it may (R149, R151, R154, R162). -/
def LogStore.admitEntry (running : Bool) (elapsed time ref driver : Nat) (payload : Payload)
    (l : LogStore) : LogStore :=
  LogStore.beginWrite running
    { l with
      queue := l.queue ++ [⟨l.nextNumber, none, time, ref, driver, payload⟩]
      nextNumber := nextSeq l.nextNumber
      engine :=
        if l.engine.state = .erasing then
          { l.engine with
            suspendBy := some (l.engine.suspendBy.getD (elapsed + Config.suspensionBound)) }
        else l.engine }

/-- Admit an entry at the terminal time of the event (R151). -/
def State.admitEntry (s : State) (ref driver : Nat) (payload : Payload) : State :=
  { s with log := s.log.admitEntry (s.phase == .running) s.elapsed s.now ref driver payload }

/-- The admission test of an automatic entry (R151). -/
def LogStore.admitsAutomatic (l : LogStore) : Bool :=
  l.queue.length < Config.queueCapacity && 1 ≤ l.freeSpace

/-- The lost count one higher, up to 255 (R152). -/
def LogStore.lose (l : LogStore) : LogStore := { l with lostCount := min 255 (l.lostCount + 1) }

/-- Offer an automatic entry: admitted, or lost and counted (R151, R152). -/
def State.offer (s : State) (ref driver : Nat) (payload : Payload) : State :=
  if s.log.admitsAutomatic then s.admitEntry ref driver payload
  else { s with log := s.log.lose }

/-- The answer to a request whose requester entry is not admitted (R151). -/
def LogStore.requesterRefusal (l : LogStore) : Option FrameBody :=
  if Config.requesterQueue ≤ l.queue.length then some (.retry .logBusy)
  else if l.freeSpace < Config.reserve + 1 then some (.refused .logFull)
  else none

/-! ### Deferred tables (R172, R173) -/

/-- The deferral checks of a port (R172). -/
def PortState.deferralRefusal (x : PortState) (tag : Nat) : Option FrameBody :=
  if x.deferred.any fun e => e.tag == tag then some (.refused .tagInUse)
  else if 8 ≤ x.deferred.length then some (.retry .deferLimit)
  else none

/-- Enter a request in a port's deferred table (R172). -/
def State.defer (s : State) (p : Port) (e : Deferred) : State :=
  s.setPort p { s.port p with deferred := (s.port p).deferred ++ [e] }

/-- Whether an entry of a deferred table waits for the log entry of a number. -/
def Deferred.awaits (seq : Nat) (e : Deferred) : Bool :=
  match e.object with
  | .delivery _ k => k == seq
  | .page _ => false

/-- Whether an entry of a deferred table names a page. -/
def Deferred.namesPage (page : PageNo) (e : Deferred) : Bool :=
  match e.object with
  | .delivery _ _ => false
  | .page q => q == page

/-- A port after the replies to the entries that `done` picks, made in the order in which the
requests were accepted, and their removal (R173). -/
def PortState.reply (x : PortState) (done : Deferred → Bool) (body : FrameBody) : PortState :=
  { x with
    outgoing := x.outgoing ++ (x.deferred.filter done).map fun e => ⟨e.tag, e.code, body⟩
    deferred := x.deferred.filter fun e => !done e }

/-- The REPLY, on either port, to the request that awaits the entry of a number (R173). -/
def State.replyAwaited (s : State) (seq : Nat) (body : FrameBody) : State :=
  { s with
    office := s.office.reply (Deferred.awaits seq) body
    gate := s.gate.reply (Deferred.awaits seq) body }

/-- The REPLYs to every office RECLAIM that names a page (R173). -/
def State.replyPage (s : State) (page : PageNo) (outcome : PageOutcome) : State :=
  { s with office := s.office.reply (Deferred.namesPage page) (.replyPage outcome page) }

end Sys2Proof.Machine
end

