-- ==== Sys2Proof/Machine/Hours.lean ====
section
/-! DEFINITION. The hours table: the day ring, the merge of a declaration, the projection and the
commit (R104 to R121). -/

namespace Sys2Proof.Machine

/-- The slot of the ring for a day (R106). -/
def ringIndex (day : Nat) : Fin 14 := ⟨day % 14, by omega⟩

/-- A slot is valid on day `d` when its day lies in the window d - 13 to d (R106). -/
def validOn (d : Nat) (x : DayEntry) : Bool := d ≤ x.day + 13 && x.day ≤ d

/-- The slots of a ring in index order. -/
def Driver.slots (x : Driver) : List DayEntry := x.ring.toArray.toList

/-- The driving minutes of a day (R106). -/
def Driver.drivingOn (x : Driver) (day : Nat) : Nat :=
  if (x.ring.get (ringIndex day)).day = day then (x.ring.get (ringIndex day)).driving else 0

/-- The driving minutes over the window: R of a projection (R116). -/
def Driver.rolling (x : Driver) (d : Nat) : Nat :=
  (x.slots.map fun e => if validOn d e then e.driving else 0).sum

/-- Minutes since the shift start: S of a projection (R116). -/
def Driver.sinceShift (x : Driver) (now : Nat) : Option Nat :=
  x.shiftStart.map fun start => (now - start) / 60

/-- A new entry: no shift start, every slot of day 0 with no minutes, no binding (R108). -/
def Driver.fresh (number expiry : Nat) : Driver :=
  ⟨number, expiry, none, Vector.replicate 14 ⟨0, 0, 0⟩, none⟩

/-- ENDORSEMENT passes for a trip (R118). -/
def endorsed (expiry d : Nat) (dangerous : Bool) : Bool :=
  !dangerous || (expiry != 0 && d ≤ expiry)

/-- SHIFT's margin, saturated at its lower bound (R117). -/
def shiftMargin (limit since duty : Nat) : Int :=
  max (-2147483648) ((limit : Int) - since - duty)

/-- The three margins for a trip (R117). -/
def margins (st : Settings) (now : Nat) (x : Driver) (driving duty : Nat) : Margins :=
  let d := now / Config.daySeconds
  { daily := (st.daily : Int) - x.drivingOn d - driving
    rolling := (st.rolling : Int) - x.rolling d - driving
    shift := (x.sinceShift now).map fun m => shiftMargin st.shift m duty }

/-- What a projection hands its caller (R118): the failing set and the margins. -/
structure Projection where
  failing : HoldSet
  margins : Margins
  deriving DecidableEq, Repr

/-- The projection of a trip (R116 to R118). A driver with no shift start fails SHIFT; R116 says that a
bound driver always has one (log entry 26). -/
def project (st : Settings) (now : Nat) (x : Driver) (driving duty : Nat) (dangerous : Bool) :
    Projection :=
  let m := margins st now x driving duty
  { failing :=
      { HoldSet.empty with
        daily := decide (m.daily < 0)
        rolling := decide (m.rolling < 0)
        shift := match m.shift with
          | none => true
          | some k => decide (k < 0)
        endorsement := !endorsed x.expiry (now / Config.daySeconds) dangerous }
    margins := m }

/-- Whether a delivery carries dangerous goods: any compartment's product has a UN number other than 0
(R38, R118). -/
def State.dangerous (s : State) (d : Delivery) : Bool :=
  d.comps.any fun c => (s.product c.product).un != 0

/-- The driver entry of a delivery, or an entry with no hours where none exists (log entry 26). -/
def State.driverOf (s : State) (d : Delivery) : Driver :=
  (s.driver (d.driver.getD 0)).getD (Driver.fresh 0 0)

/-- The projection of a delivery at the present moment (R119). -/
def State.projectFor (s : State) (d : Delivery) : Projection :=
  project s.settings s.now (s.driverOf d) d.driving d.duty (s.dangerous d)

/-! ### The merge of a declaration (R115) -/

/-- A day entry with its minutes clamped and its duty raised to its driving (R115, step 2). -/
def clampDay (x : DayEntry) : DayEntry :=
  let driving := min 1440 x.driving
  ⟨x.day, driving, max driving (min 1440 x.duty)⟩

/-- The ring with one kept entry written whole into the slot for its day (R115, step 4). -/
def writeDay (ring : Vector DayEntry 14) (x : DayEntry) : Vector DayEntry 14 :=
  ring.set (x.day % 14) x (Nat.mod_lt _ (by decide))

/-- The entries of a declaration in the window, clamped, in the order given (R115, steps 1 and 2). -/
def remainingDays (x : Declaration) (d : Nat) : List DayEntry :=
  (x.days.filter (validOn d)).map clampDay

/-- The ring after a declaration: a later entry for a day is written over an earlier one (R115). -/
def mergeRing (ring : Vector DayEntry 14) (x : Declaration) (d : Nat) : Vector DayEntry 14 :=
  (remainingDays x d).foldl writeDay ring

/-- The number of entries kept: one for each day named in the window (R114, R115). -/
def keptDays (x : Declaration) (d : Nat) : Nat :=
  ((remainingDays x d).map DayEntry.day).dedup.length

/-- The number of entries in the window in which a value was clamped or duty raised (R114). -/
def alteredDays (x : Declaration) (d : Nat) : Nat :=
  (x.days.filter (validOn d)).countP fun e => clampDay e != e

/-- The driver entry after a declaration: the shift start, not later than now, then the ring
(R114, R115). -/
def Driver.declare (x : Driver) (y : Declaration) (now : Nat) : Driver :=
  { x with
    shiftStart := some (min y.restEnd now)
    ring := mergeRing x.ring y (now / Config.daySeconds) }

/-! ### The commit (R121) -/

/-- The ring after a trip committed on day `d` (R121, steps 1 to 3). -/
def commitRing (ring : Vector DayEntry 14) (d driving duty : Nat) : Vector DayEntry 14 :=
  let held := ring.get (ringIndex d)
  let base : DayEntry := if held.day = d then held else ⟨d, 0, 0⟩
  writeDay ring ⟨d, min 1440 (base.driving + driving), min 1440 (base.duty + duty)⟩

/-- The hours table's part of a RELEASE completion (R121). -/
def State.commit (s : State) (d : Delivery) : State :=
  match d.driver with
  | none => s
  | some n =>
    s.updDriver n fun x =>
      { x with ring := commitRing x.ring s.today d.driving d.duty, bound := none }

/-- The hours table's part of a CANCEL completion: the binding is cleared (R121). -/
def State.unbind (s : State) (i : SlotNo) : State :=
  { s with drivers := s.drivers.map fun x => if x.bound = some i then { x with bound := none } else x }

end Sys2Proof.Machine
end

