-- ==== Sys2Proof/Machine/Papers.lean ====
section
/-! DEFINITION. Consignment papers: lines, first issue, rebuild, and the end of a bay session
(R8, R52 to R54, R124 to R129). -/

namespace Sys2Proof.Machine

/-- The compartments that take part in a line (R52). -/
def CompState.onPaper : CompState → Bool
  | .done | .interrupted => true
  | _ => false

/-- The compartments of a product's line (R52). -/
def Delivery.lineComps (d : Delivery) (code : Nat) : List Compartment :=
  d.comps.filter fun c => c.product == code && c.state.onPaper

/-- One line: the product's data as they stand, the indices in ascending order, the sums of the rounded
readouts, and the average of the exact sums (R53, R54, R124). -/
def paperLine (e : Product) (code : Nat) (cs : List Compartment) : PaperLine where
  product := code
  name := e.name
  un := e.un
  cls := e.cls
  division := e.division
  packing := e.packing
  comps := (List.range' 1 6).filter fun i => cs.any fun c => c.index == i
  net := (cs.map fun c => c.acc.net).sum
  gross := (cs.map fun c => c.acc.gross).sum
  average := averageOf (cs.map fun c => c.acc.S).sum (cs.map fun c => c.acc.G).sum

/-- The lines of a delivery's paper, in ascending product code (R126). -/
def State.paperLines (s : State) (d : Delivery) : List PaperLine :=
  (List.range' 1 16).filterMap fun code =>
    match d.lineComps code with
    | [] => none
    | cs => some (paperLine (s.product code) code cs)

/-- A paper built now, its mark set if a compartment is INTERRUPTED (R126, R129). -/
def State.buildPaper (s : State) (d : Delivery) (number version : Nat) : Paper :=
  ⟨number, version, s.now, d.comps.any fun c => c.state == .interrupted, s.paperLines d⟩

/-- The delivery after the readouts of every compartment on its paper (R51, R126, R132). -/
def Delivery.paperReadouts (d : Delivery) : Delivery :=
  { d with comps := d.comps.map fun c => if c.state.onPaper then c.afterReadouts else c }

/-- Totals over the lines (R53). -/
def Paper.totalNet (p : Paper) : Nat := (p.lines.map PaperLine.net).sum
def Paper.totalGross (p : Paper) : Nat := (p.lines.map PaperLine.gross).sum

/-- Issue a version: store the paper and offer its PAPER entry (R126, R127). -/
def State.issuePaper (s : State) (i : SlotNo) (d : Delivery) (number version : Nat) : State :=
  let p := s.buildPaper d number version
  (s.setSlot i (some { d.paperReadouts with paper := some p })).offer d.ref (d.driver.getD 0)
    (.paper p.number p.version p.provisional p.lines.length p.totalNet p.totalGross)

/-- Whether the paper counter is exhausted (R125). -/
def LogStore.papersExhausted (l : LogStore) : Bool := 4294967295 ≤ l.paperCounter

/-- The first issue: the counter is raised in the marker area and gives the number; with the counter
exhausted none is made (R125, R126). -/
def State.firstIssue (s : State) (i : SlotNo) (d : Delivery) : State :=
  if s.log.papersExhausted then s
  else
    let number := s.log.paperCounter + 1
    { s with log := { s.log with paperCounter := number } }.issuePaper i d number 1

/-- A rebuild: the same number and the next version; a paper that is absent is not rebuilt (R128, log
entry 11). -/
def State.rebuild (s : State) (i : SlotNo) : State :=
  match s.slot i with
  | none => s
  | some d =>
    match d.paper with
    | none => s
    | some p => s.issuePaper i d p.number (p.version + 1)

/-! ### The end of a bay session (R8) -/

/-- The compartments with every PLANNED one VOID (R8, step 1). -/
def Delivery.voidPlanned (d : Delivery) : List Compartment :=
  d.comps.map fun c => if c.state = .planned then { c with state := .void } else c

/-- Whether a delivery is loaded: a compartment DONE with G > 0, or INTERRUPTED (R8, step 3). -/
def Delivery.isLoaded (d : Delivery) : Bool :=
  d.comps.any fun c => (c.state == .done && 0 < c.acc.G) || c.state == .interrupted

/-- The delivery record after the end of its session (R8). -/
def Delivery.afterSession (d : Delivery) : Delivery :=
  { d with
    comps := d.voidPlanned
    bay := none
    state := if d.isLoaded then .loaded else .arrived }

/-- Clear a bay's half of the binding (R4). -/
def State.unbindBay (s : State) : Option BayNo → State
  | none => s
  | some b => s.setBay b { s.bay b with bound := none }

/-- The end of a bay session: FINISH granted or DETACH accepted (R8). -/
def State.endSession (s : State) (i : SlotNo) : State :=
  match s.slot i with
  | none => s
  | some d =>
    let d' := d.afterSession
    let s' := (s.setSlot i (some d')).unbindBay d.bay
    if d.isLoaded then s'.firstIssue i d' else s'

end Sys2Proof.Machine
end

