-- ==== Sys2Proof/Machine/Loading.lean ====
section
/-! DEFINITION. Loading control: arm reports, deadlines, unpermitted flow, the shutdown latch, orphans,
and the bay requests CLAIM, START, FINISH and FAULT (R80 to R103). -/

namespace Sys2Proof.Machine

/-! ### The state step of a report (R90 to R92) -/

/-- Where a report moves a compartment or an orphan. -/
inductive Move where
  /-- state and deadline kept -/
  | keep
  /-- FLOWING, the flowing limit starts -/
  | flow
  /-- STOPPING awaiting closure, the stop deadline starts -/
  | await
  /-- awaiting closure again, with a STOP queued -/
  | reopen
  /-- STOPPING settling, the settle interval starts -/
  | settle
  /-- reaches DONE -/
  | finish
  deriving DecidableEq, Repr

/-- A closed valve: settled ends the loading, else the meter settles (R90 to R92). -/
def closedMove (settled : Bool) : Move := if settled then .finish else .settle

/-- The step from PERMITTED (R90). -/
def movePermitted (r : Report) (cutOff : Bool) : Move :=
  if r.valveOpen then if cutOff then .await else .flow
  else if r.cumulative = 0 then .keep
  else closedMove r.settled

/-- The step from FLOWING (R90). -/
def moveFlowing (r : Report) (cutOff : Bool) : Move :=
  if r.valveOpen then if cutOff then .await else .keep else closedMove r.settled

/-- The step from STOPPING, by the kind of its deadline (R91). -/
def moveStopping (r : Report) (deadline : Option Deadline) : Move :=
  match deadline.map Deadline.kind with
  | some .settleInterval =>
    if r.valveOpen then .reopen else if r.settled then .finish else .keep
  | _ => if r.valveOpen then .keep else closedMove r.settled

/-- The step that resolves an INTERRUPTED compartment or orphan (R92). -/
def moveResolved (r : Report) : Move := if r.valveOpen then .await else closedMove r.settled

/-- The step of an armed compartment (R90 to R92). -/
def moveOf (c : Compartment) (r : Report) (cutOff : Bool) : Move :=
  match c.state with
  | .permitted => movePermitted r cutOff
  | .flowing => moveFlowing r cutOff
  | .stopping => moveStopping r c.deadline
  | .interrupted => moveResolved r
  | .planned | .done | .void => .keep

/-- A compartment is armed while it is PERMITTED, FLOWING, STOPPING or INTERRUPTED (R88). -/
def CompState.armed : CompState → Bool
  | .permitted | .flowing | .stopping | .interrupted => true
  | _ => false

/-- A compartment is active while it is PERMITTED, FLOWING or STOPPING (R88). -/
def CompState.active : CompState → Bool
  | .permitted | .flowing | .stopping => true
  | _ => false

/-- What one report makes of an accumulator set, and whether it found a cut-off (R89, steps 1 and 2). -/
structure Judged where
  acc : Acc
  cutOff : Bool
  deriving DecidableEq, Repr

/-- Steps 1 and 2 of a report: the increment, the net readout, and the checks CAPACITY and OVERPLAN
(R47, R89). -/
def judgeReport (points : List CorrPoint) (a : Acc) (planned capacity allowance : Nat) (r : Report) :
    Judged :=
  let inc := increment points a r.cumulative r.temp
  let read := inc.acc.afterNet
  let full := decide (10 * capacity ≤ inc.acc.G)
  let past := decide (planned + allowance < inc.acc.net)
  { acc := { read with flags := { read.flags with
      capacity := read.flags.capacity || full
      overplan := read.flags.overplan || past } }
    cutOff := full || past || inc.regression }

/-- GAP is set on a set whose interruption a report ends (R92, R102). -/
def Acc.withGap (a : Acc) : Acc := { a with flags := { a.flags with gap := true } }

/-! ### Reaching DONE (R96, R103) -/

/-- A compartment reaches DONE: VOID where G is 0; its arm is freed, its COMPARTMENT entry offered, and
the paper of a LOADED or HELD delivery rebuilt (R96). -/
def State.reachDone (s : State) (i : SlotNo) (index : Nat) : State :=
  match s.slot i with
  | none => s
  | some d =>
    match d.comp index with
    | none => s
    | some c =>
      let c' := { c.afterReadouts with
        state := if c.acc.G = 0 then .void else .done
        deadline := none
        arm := none }
      let freed := (s.updComp i index fun _ => c').freeArm c.arm
      let logged := match c.arm with
        | none => freed
        | some x =>
          freed.offer d.ref 0
            (.compartment x.bay x.arm index c.product c'.state c.acc.net c.acc.gross c.acc.average
              c'.acc.flags)
      if d.state = .loaded ∨ d.state = .held then logged.rebuild i else logged

/-- An orphan reaches DONE and is cleared: its LATE_QUANTITY entry is offered, then its arm is free
(R103). -/
def State.clearOrphan (s : State) (b : BayNo) (x : Arm) : State :=
  match s.arm b x with
  | .orphan o =>
    let a := o.acc.afterReadouts
    (s.offer o.ref 0
      (.lateQuantity b x o.index o.product a.net a.gross a.average a.flags)).setArm b x .free
  | _ => s

/-! ### Reports (R89 to R92, R98, R102) -/

/-- Make the move of a compartment (R90 to R92). -/
def State.moveComp (s : State) (b : BayNo) (x : Arm) (i : SlotNo) (index : Nat) : Move → State
  | .keep => s
  | .flow => s.updComp i index fun c =>
      { c with state := .flowing, deadline := some s.flowingDeadline }
  | .await => s.updComp i index fun c =>
      { c with state := .stopping, deadline := some s.stopDeadline }
  | .reopen => (s.updComp i index fun c =>
      { c with state := .stopping, deadline := some s.stopDeadline }).queueStop b x
  | .settle => s.updComp i index fun c =>
      { c with state := .stopping, deadline := some s.settleDeadline }
  | .finish => s.reachDone i index

/-- Make the move of an orphan (R102). -/
def State.moveOrphan (s : State) (b : BayNo) (x : Arm) : Move → State
  | .keep => s
  | .flow => s
  | .await => s.updOrphan b x fun o =>
      { o with state := .stopping, deadline := some s.stopDeadline }
  | .reopen => (s.updOrphan b x fun o =>
      { o with state := .stopping, deadline := some s.stopDeadline }).queueStop b x
  | .settle => s.updOrphan b x fun o =>
      { o with state := .stopping, deadline := some s.settleDeadline }
  | .finish => s.clearOrphan b x

/-- Queue a STOP where a cut-off was found (R89). -/
def State.stopIf (s : State) (cutOff : Bool) (b : BayNo) (x : Arm) : State :=
  if cutOff then s.queueStop b x else s

/-- A report for an armed compartment (R89). -/
def State.reportComp (s : State) (b : BayNo) (r : Report) (i : SlotNo) (index : Nat) : State :=
  match s.comp i index with
  | none => s
  | some c =>
    if c.state.armed then
      let j := judgeReport (s.product c.product).points c.acc c.planned c.capacity
        s.settings.allowance r
      let acc := if c.state = .interrupted then j.acc.withGap else j.acc
      ((s.updComp i index fun y => { y with acc := acc }).stopIf j.cutOff b r.arm).moveComp b r.arm i
        index (moveOf c r j.cutOff)
    else s

/-- A report for an orphan (R102). -/
def State.reportOrphan (s : State) (b : BayNo) (r : Report) (o : Orphan) : State :=
  let j := judgeReport (s.product o.product).points o.acc o.planned o.capacity
    s.settings.allowance r
  let acc := if o.state = .interrupted then j.acc.withGap else j.acc
  let move := match o.state with
    | .interrupted => moveResolved r
    | .stopping => moveStopping r o.deadline
  ((s.updOrphan b r.arm fun y => { y with acc := acc }).stopIf j.cutOff b r.arm).moveOrphan b r.arm
    move

/-- A report for a free arm: unpermitted flow where the valve is open or the cumulative gross is above
0, else nothing (R98). -/
def State.reportFree (s : State) (b : BayNo) (r : Report) : State :=
  if r.valveOpen || 0 < r.cumulative then
    (s.offer (s.boundRef b) 0
      (.unpermitted b r.arm r.cumulative (clampTemp r.temp) r.valveOpen)).queueStop b r.arm
  else s

/-- One arm report of a STATUS answer (R73). -/
def State.report (s : State) (b : BayNo) (r : Report) : State :=
  match s.arm b r.arm with
  | .free => s.reportFree b r
  | .compartment i index => s.reportComp b r i index
  | .orphan o => s.reportOrphan b r o

/-! ### Interruption (R71, R92, R102) -/

/-- An active compartment becomes INTERRUPTED and loses its deadline (R92). -/
def Compartment.interrupt (c : Compartment) : Compartment :=
  if c.state.active then { c with state := .interrupted, deadline := none } else c

/-- An orphan becomes INTERRUPTED and loses its deadline (R102). -/
def Orphan.interrupt (o : Orphan) : Orphan := { o with state := .interrupted, deadline := none }

/-- What an arm refers to is interrupted at its bay's silence (R71). -/
def State.interruptArm (s : State) (b : BayNo) (x : Arm) : State :=
  match s.arm b x with
  | .free => s
  | .compartment i index => s.updComp i index Compartment.interrupt
  | .orphan _ => s.updOrphan b x Orphan.interrupt

/-! ### The shutdown latch (R99, R100) -/

/-- What a latch event makes of a compartment: PERMITTED back to PLANNED, FLOWING to STOPPING awaiting
closure with SHUTDOWN (R100). -/
def Compartment.underLatch (stop : Deadline) (c : Compartment) : Compartment :=
  match c.state with
  | .permitted => { c with state := .planned, deadline := none, arm := none }
  | .flowing =>
    { c with
      state := .stopping
      deadline := some stop
      acc := { c.acc with flags := { c.acc.flags with shutdown := true } } }
  | _ => c

/-- The compartments that a latch event moves: PERMITTED and FLOWING ones, in slot and booking order. That the
STOPs of one bay's two arms are queued in this order is the model's choice (log entry 37). -/
def State.latchTargets (s : State) : List Compartment :=
  (List.finRange 16).flatMap fun i =>
    match s.slot i with
    | none => []
    | some d => d.comps.filter fun c => c.state == .permitted || c.state == .flowing

/-- The bay's part of a moved compartment: a PERMITTED one frees its arm, and a STOP is queued, in the
place of a waiting PERMIT (R93, R100). -/
def State.latchArm (s : State) (c : Compartment) : State :=
  match c.arm with
  | none => s
  | some x =>
    (if c.state = .permitted then s.setArm x.bay x.arm .free else s).queueStop x.bay x.arm

/-- A latch event (R76, R100). -/
def State.latchEvent (s : State) : State :=
  let moved := { s with
    dispatch := mapTable (Option.map fun d =>
      { d with comps := d.comps.map (Compartment.underLatch s.stopDeadline) }) s.dispatch
    rack := { s.rack with latchStop := true } }
  s.latchTargets.foldl State.latchArm moved

/-- Add a cause while the part is running: a cause added to an empty set is a latch event, and each
cause added offers a SHUTDOWN entry (R99). -/
def State.addCause (s : State) (cause : Cause) : State :=
  if s.latch.has cause then s
  else
    let set := s.latch.add cause
    let latched := { s with latch := set }
    if s.latch.isSet then latched.offer 0 0 (.shutdown cause set 0)
    else latched.latchEvent.offer 0 0 (.shutdown cause set s.latchTargets.length)

/-! ### Deadlines (R93 to R95) -/

/-- The expiry of a permit window (R93). -/
def State.permitExpired (s : State) (i : SlotNo) (index : Nat) : State :=
  match s.comp i index with
  | none => s
  | some c =>
    let back := (s.updComp i index fun y =>
      { y with state := .planned, deadline := none, arm := none }).freeArm c.arm
    match c.arm with
    | none => back
    | some x => back.queueStop x.bay x.arm

/-- The expiry of a flowing limit (R94). -/
def State.flowingExpired (s : State) (i : SlotNo) (index : Nat) : State :=
  match s.comp i index with
  | none => s
  | some c =>
    let stopped := s.updComp i index fun y =>
      { y with
        state := .stopping
        deadline := some s.stopDeadline
        acc := { y.acc with flags := { y.acc.flags with time := true } } }
    match c.arm with
    | none => stopped
    | some x => stopped.queueStop x.bay x.arm

/-- UNCLOSED is set on a set whose stop deadline expired (R95). -/
def Acc.withUnclosed (a : Acc) : Acc := { a with flags := { a.flags with unclosed := true } }

/-- The expiry of a stop deadline: DONE with UNCLOSED, and STOP_FAILED added to the latch (R95, R102). -/
def State.stopExpired (s : State) : DeadlineOf → State
  | .compartment i index =>
    ((s.updComp i index fun y => { y with acc := y.acc.withUnclosed }).reachDone i index).addCause
      .stopFailed
  | .orphan b x =>
    ((s.updOrphan b x fun o => { o with acc := o.acc.withUnclosed }).clearOrphan b x).addCause
      .stopFailed

/-- The expiry of a settle interval: DONE with the totals as they stand (R95, R102). -/
def State.settleExpired (s : State) : DeadlineOf → State
  | .compartment i index => s.reachDone i index
  | .orphan b x => s.clearOrphan b x

/-- The running deadline of a compartment in a state, or none. -/
def State.compDeadline (s : State) (i : SlotNo) (index : Nat) (state : CompState) : Option Deadline :=
  match s.comp i index with
  | none => none
  | some c => if c.state = state then c.deadline else none

/-- The running deadline of a STOPPING compartment or orphan. -/
def State.stoppingDeadline (s : State) : DeadlineOf → Option Deadline
  | .compartment i index => s.compDeadline i index .stopping
  | .orphan b x =>
    match s.arm b x with
    | .orphan o => if o.state = .stopping then o.deadline else none
    | _ => none

/-- Take an expiry: only while the part runs and the deadline of that kind is running; the counter then
stands at its expiry (R183, log entries 4 and 5). -/
def State.expire (s : State) (running : Option Deadline) (kind : DeadlineKind) (f : State → State) :
    State :=
  match running with
  | none => s
  | some d => if s.phase = .running ∧ d.kind = kind then f (s.reach d.expires) else s

/-! ### Bay requests (R80 to R87) -/

/-- Deny a bay request (R80). -/
def State.deny (s : State) (b : BayNo) (q : BayRequest) (x : Option Arm) (r : DenyReason) : State :=
  s.queueVerdict b q x (some r)

/-- The first check of CLAIM that fails, for a delivery in the table (R81, checks 2 to 7, a repeated
claim apart). -/
def State.claimRefusal (s : State) (b : BayNo) (d : Delivery) : Option DenyReason :=
  if (s.bay b).bound.isSome || (s.bay b).holdsReferences then some .bayBound
  else if d.state = .atBay then some .deliveryBound
  else if d.state ≠ .arrived then some .notArrived
  else if ((s.projectFor d).failing.without d.overrides) ≠ HoldSet.empty then some .hours
  else none

/-- The grant of a first claim (R4, R81). -/
def State.grantClaim (s : State) (b : BayNo) (i : SlotNo) (d : Delivery) : State :=
  let m := (s.projectFor d).margins
  let bound := (s.setSlot i (some { d with state := .atBay, bay := some b, claim := some s.now })).setBay
    b { s.bay b with bound := some i }
  (bound.offer d.ref (d.driver.getD 0) (.claim b m.daily m.rolling (m.shift.getD 0))).queueVerdict b
    .claim none none

/-- CLAIM (R81, R82). -/
def State.takeClaim (s : State) (b : BayNo) (ref : Nat) : State :=
  match s.find ref with
  | none => s.deny b .claim none .unknownDelivery
  | some (i, d) =>
    if ref = 0 then s.deny b .claim none .unknownDelivery
    else if s.owned d then s.deny b .claim none .owned
    else if d.state = .atBay ∧ d.bay = some b then s.queueVerdict b .claim none none
    else
      match s.claimRefusal b d with
      | some r => s.deny b .claim none r
      | none => s.grantClaim b i d

/-- The switch-loading check fails: the last product is defined and LOW, the product is HIGH, and no
purge is declared (R37, R84). -/
def State.switchLoad (s : State) (c : Compartment) : Bool :=
  (s.product c.last).state != .undefined && (s.product c.last).flash == .low
    && (s.product c.product).flash == .high && !c.purge

/-- The first check of START that fails, for a compartment of the bound delivery (R83, checks 4 to 9). -/
def State.startRefusal (s : State) (b : BayNo) (x : Arm) (armProduct : Nat) (c : Compartment) :
    Option DenyReason :=
  if c.state ≠ .planned then some .notPlanned
  else if !(s.bay b).available x then some .armBusy
  else if s.latch.isSet then some .shutdown
  else if (s.product c.product).state ≠ .enabled then some .productDisabled
  else if armProduct ≠ c.product then some .crossover
  else if s.switchLoad c then some .switchLoad
  else none

/-- The DENY entry of a crossover or switch-loading denial (R84). -/
def State.logDeny (s : State) (b : BayNo) (x : Arm) (armProduct : Nat) (d : Delivery) (c : Compartment)
    (r : DenyReason) : State :=
  if r = .crossover ∨ r = .switchLoad then
    s.offer d.ref (d.driver.getD 0) (.deny b x c.index r armProduct c.product c.last)
  else s

/-- The grant of a START (R85). -/
def State.grantStart (s : State) (b : BayNo) (x : Arm) (i : SlotNo) (c : Compartment) : State :=
  let permitted := (s.updComp i c.index fun y =>
    { y with
      state := .permitted
      arm := some ⟨b, x⟩
      deadline := some s.permitDeadline
      acc := { y.acc with L := 0 } }).setArm b x (.compartment i c.index)
  (permitted.queueVerdict b .start (some x) none).enqueue b
    (withPermit x c.index c.product c.planned c.capacity)

/-- START (R80, R83). A START that comes after the CANCEL of the bay's delivery finds no bound delivery and is denied
UNKNOWN_DELIVERY, where a sentence of R21 says OWNED: by R74 it is judged under the rules of chapter 5, of which R80
puts this check before the OWNED test (log entry 35). -/
def State.takeStart (s : State) (b : BayNo) (x : Arm) (index armProduct : Nat) : State :=
  match (s.bay b).bound with
  | none => s.deny b .start (some x) .unknownDelivery
  | some i =>
    match s.slot i with
    | none => s.deny b .start (some x) .unknownDelivery
    | some d =>
      if s.owned d then s.deny b .start (some x) .owned
      else
        match d.comp index with
        | none => s.deny b .start (some x) .noCompartment
        | some c =>
          match s.startRefusal b x armProduct c with
          | some r => (s.logDeny b x armProduct d c r).deny b .start (some x) r
          | none => s.grantStart b x i c

/-- FINISH (R80, R86). -/
def State.takeFinish (s : State) (b : BayNo) : State :=
  match (s.bay b).bound with
  | none => s.deny b .finish none .unknownDelivery
  | some i =>
    match s.slot i with
    | none => s.deny b .finish none .unknownDelivery
    | some d =>
      if s.owned d then s.deny b .finish none .owned
      else if d.comps.any fun c => c.state.active then s.deny b .finish none .active
      else (s.endSession i).queueVerdict b .finish none none

/-- FAULT is set on an accumulator set (R87). -/
def Acc.withFault (a : Acc) : Acc := { a with flags := { a.flags with fault := true } }

/-- The effect of a FAULT on what one arm refers to (R87). -/
def State.faultArm (s : State) (b : BayNo) (x : Arm) : State :=
  match s.arm b x with
  | .free => s
  | .compartment i index =>
    match s.comp i index with
    | none => s
    | some c =>
      let flagged := s.updComp i index fun y => { y with acc := y.acc.withFault }
      match c.state with
      | .permitted | .flowing =>
        (flagged.updComp i index fun y =>
          { y with state := .stopping, deadline := some s.stopDeadline }).queueStop b x
      | .stopping => flagged.queueStop b x
      | .interrupted => flagged
      | .planned | .done | .void => s
  | .orphan o =>
    let flagged := s.updOrphan b x fun y => { y with acc := y.acc.withFault }
    match o.state with
    | .stopping => flagged.queueStop b x
    | .interrupted => flagged

/-- The grant of a FAULT: both arms, the BAY_FAULT entry, the VERDICT (R87). That arm A's STOP joins the outbox
before arm B's is the model's choice (log entry 37). -/
def State.grantFault (s : State) (b : BayNo) (code : Nat) : State :=
  (((s.faultArm b .A).faultArm b .B).offer (s.boundRef b) 0
    (.bayFault b code (s.bay b).armA.cond (s.bay b).armB.cond)).queueVerdict b .fault none none

/-- FAULT: denied OWNED while the bound delivery is owned; else granted, bound or not (R87). -/
def State.takeFault (s : State) (b : BayNo) (code : Nat) : State :=
  match (s.bay b).bound with
  | none => s.grantFault b code
  | some i =>
    match s.slot i with
    | none => s.grantFault b code
    | some d => if s.owned d then s.deny b .fault none .owned else s.grantFault b code

end Sys2Proof.Machine
end

