-- ==== Sys2Proof/Machine/Deliveries.lean ====
section
/-! DEFINITION. The dispatch table's requests from the office: BOOK, AMEND, CANCEL, DETACH and
DELIVERY_READ, and the reaching of booking deadlines (R12 to R23). Each answers the state after the
request and the body of its immediate response. -/

namespace Sys2Proof.Machine

/-- A number within bounds, both included. -/
def within (lo hi n : Nat) : Bool := lo ≤ n && n ≤ hi

/-- A driver number of a request is out of range (R12, R108, R112). -/
def badDriver (n : Nat) : Bool := !within 1 65534 n

/-- A trip out of the ranges of R12. -/
def badTrip (driving duty : Nat) : Bool := !within 1 900 driving || duty < driving || 1200 < duty

/-! ### BOOK -/

/-- A compartment of a BOOK with a field out of range (R12, check 1). -/
def badComp (c : BookComp) : Bool :=
  !within 1 6 c.index || !within 1 16 c.product || 16 < c.last || !within 100 40000 c.capacity
    || !within 100 40000 c.planned || c.capacity < c.planned || 1 < c.purge

/-- BAD_FIELD of a BOOK (R12, check 1); driver 0 is none (section 11.1). -/
def badBook (b : BookBody) : Bool :=
  b.ref == 0 || 65534 < b.driver || !within 1 6 b.comps.length || b.comps.any badComp
    || !(b.comps.map BookComp.index).Nodup || badTrip b.driving b.duty

/-- A compartment record as BOOK creates it (R3). -/
def newComp (c : BookComp) : Compartment where
  index := c.index
  product := c.product
  planned := c.planned
  capacity := c.capacity
  last := c.last
  purge := c.purge == 1
  state := .planned
  arm := none
  acc := Acc.zero
  deadline := none

/-- A driver number where 0 means none (section 11.1). -/
def someDriver (n : Nat) : Option Nat := if n = 0 then none else some n

/-- A delivery record as BOOK creates it (R2, R13). -/
def newDelivery (b : BookBody) (deadline : Nat) : Delivery where
  ref := b.ref
  driver := someDriver b.driver
  vehicle := b.vehicle
  driving := b.driving
  duty := b.duty
  comps := b.comps.map newComp
  bay := none
  state := .booked
  holds := HoldSet.empty
  overrides := HoldSet.empty
  supervisor := none
  paper := none
  deadline := deadline
  arrival := none
  claim := none

/-- The booking deadline of a booking made at `now` (R13). -/
def bookingDeadline (st : Settings) (now : Nat) : Nat :=
  min Config.lastTime (now + 60 * st.validity)

/-- The effect of an accepted BOOK (R13). -/
def State.acceptBook (s : State) (b : BookBody) (i : SlotNo) (now : Nat) : State :=
  let deadline := bookingDeadline s.settings now
  (s.admitEntry b.ref 0
    (.book i b.vehicle b.driving b.duty b.comps.length deadline)).setSlot i
      (some (newDelivery b deadline))

/-- BOOK (R12, R13). -/
def State.book (s : State) (b : BookBody) : State × FrameBody :=
  if badBook b then (s, .refused .badField)
  else
    match s.find b.ref with
    | some (_, d) => (s, if s.owned d then .retry .owned else .refused .duplicate)
    | none =>
      if !b.comps.all fun c => (s.product c.product).state == .enabled then
        (s, .refused .productUnusable)
      else
        match s.time, s.freeSlot with
        | none, _ => (s, .refused .noTime)
        | some _, none => (s, .refused .tableFull)
        | some now, some i =>
          match s.log.requesterRefusal with
          | some r => (s, r)
          | none => (s.acceptBook b i now, .done (.booked i (bookingDeadline s.settings now)))

/-! ### Views -/

/-- A compartment as a response carries it (R23). -/
def Compartment.view (readouts : Bool) (c : Compartment) : CompView where
  index := c.index
  product := c.product
  planned := c.planned
  capacity := c.capacity
  last := c.last
  purge := c.purge
  state := c.state
  arm := c.arm
  flags := c.acc.flags
  readout := if readouts then some c.acc.readout else none

/-- A delivery as a response carries it (R23). -/
def State.deliveryView (s : State) (i : SlotNo) (d : Delivery) (readouts : Bool) : DeliveryView where
  slot := i
  state := d.state
  driver := d.driver
  vehicle := d.vehicle
  driving := d.driving
  duty := d.duty
  bay := d.bay
  deadline := d.deadline
  arrival := d.arrival
  claim := d.claim
  holds := d.holds
  overrides := d.overrides
  supervisor := d.supervisor
  owned := s.owned d
  paper := d.paper.map fun p => (p.number, p.version, p.provisional)
  comps := d.comps.map (Compartment.view readouts)

/-! ### AMEND -/

/-- The trip part of an AMEND, absent when both figures are 0 (section 11.3). -/
def tripPart (b : AmendBody) : Option (Nat × Nat) :=
  if b.driving = 0 ∧ b.duty = 0 then none else some (b.driving, b.duty)

/-- The driver part of an AMEND, absent at 65,535 (section 11.3). -/
def driverPart (b : AmendBody) : Option Nat :=
  if b.driver = 65535 then none else some b.driver

/-- BAD_FIELD of an AMEND by its own fields (R17, check 1). -/
def badAmend (b : AmendBody) : Bool :=
  ((tripPart b).isNone && (driverPart b).isNone && b.changes.isEmpty)
    || ((tripPart b).any fun t => badTrip t.1 t.2)
    || 6 < b.changes.length || !(b.changes.map PlanChange.index).Nodup
    || (b.changes.any fun c => !within 100 40000 c.planned)
    || ((driverPart b).any fun n => 65534 < n)

/-- A planned change names no compartment of the delivery, or is above its capacity (R17, check 4). -/
def Delivery.badChange (d : Delivery) (x : PlanChange) : Bool :=
  match d.comp x.index with
  | none => true
  | some c => c.capacity < x.planned

/-- WRONG_STATE of an AMEND (R17, check 5). -/
def Delivery.amendState (d : Delivery) (b : AmendBody) : Bool :=
  ((tripPart b).isSome && d.state.owning)
    || (b.changes.any fun x => (d.comp x.index).any fun c => c.state != .planned)
    || ((driverPart b).isSome && d.state != .booked)

/-- The planned litres of a compartment after an AMEND (R17). -/
def amendComp (changes : List PlanChange) (c : Compartment) : Compartment :=
  match changes.find? fun x => x.index == c.index with
  | none => c
  | some x => { c with planned := x.planned }

/-- A delivery record after an AMEND: all given parts together (R17). -/
def Delivery.amend (d : Delivery) (b : AmendBody) : Delivery :=
  { d with
    driving := ((tripPart b).map Prod.fst).getD d.driving
    duty := ((tripPart b).map Prod.snd).getD d.duty
    driver := match driverPart b with
      | none => d.driver
      | some n => someDriver n
    comps := d.comps.map (amendComp b.changes) }

/-- AMEND (R17). -/
def State.amend (s : State) (b : AmendBody) : State × FrameBody :=
  if badAmend b then (s, .refused .badField)
  else
    match s.find b.ref with
    | none => (s, .refused .noDelivery)
    | some (i, d) =>
      if s.owned d then (s, .retry .owned)
      else if b.changes.any d.badChange then (s, .refused .badField)
      else if d.amendState b then (s, .refused .wrongState)
      else
        match s.log.requesterRefusal with
        | some r => (s, r)
        | none =>
          let after := (s.admitEntry d.ref 0
            (.amend (tripPart b) (driverPart b) b.changes)).setSlot i (some (d.amend b))
          (after, .done (.amended (after.deliveryView i (d.amend b) false)))

/-! ### Deferred requests -/

/-- The acceptance of a request that waits for the write of its entry: the entry is admitted, the
request enters the deferred table with the number it awaits, and its response is DEFERRED with that
number (R172). -/
def State.acceptDeferred (s : State) (p : Port) (tag code ref driver : Nat) (payload : Payload) :
    State × FrameBody :=
  ((s.admitEntry ref driver payload).defer p ⟨tag, code, .delivery ref s.log.nextNumber⟩,
    .deferredEntry s.log.nextNumber)

/-- The deferral checks of a port, then the admission test of a requester entry (R151, R172). -/
def State.deferrableRefusal (s : State) (p : Port) (tag : Nat) : Option FrameBody :=
  match (s.port p).deferralRefusal tag with
  | some r => some r
  | none => s.log.requesterRefusal

/-! ### CANCEL -/

/-- WRONG_STATE of a CANCEL (R19, check 3). -/
def Delivery.cancelState (d : Delivery) : Bool :=
  d.state == .loaded || d.state == .held || d.comps.any fun c => 0 < c.acc.G || c.state.armed

/-- The bay's part of a CANCEL accepted for the AT_BAY delivery of slot `i`: unbound, with a DISMISS queued,
and its note of the delivery until it has taken the DISMISS (R20; the note is the model's own, log entry 44). -/
def State.dismissBay (s : State) (i : SlotNo) : Option BayNo → State
  | none => s
  | some b => (s.setBay b { s.bay b with bound := none, withdrawn := some i }).queueDismiss b

/-- CANCEL (R19, R20). -/
def State.cancel (s : State) (p : Port) (tag ref : Nat) : State × FrameBody :=
  match s.find ref with
  | none => (s, .refused .noDelivery)
  | some (i, d) =>
    if s.owned d then (s, .retry .owned)
    else if d.cancelState then (s, .refused .wrongState)
    else
      match s.deferrableRefusal p tag with
      | some r => (s, r)
      | none =>
        let accepted := s.acceptDeferred p tag 0x03 d.ref 0 (.cancel d.state d.bay)
        (((accepted.1.setSlot i (some { d with state := .cancelling, bay := none })).dismissBay i d.bay),
          accepted.2)

/-! ### DETACH -/

/-- WRONG_STATE of a DETACH: not AT_BAY at a SILENT bay (R22, check 3). -/
def State.detachState (s : State) (d : Delivery) : Bool :=
  d.state != .atBay || match d.bay with
    | none => true
    | some b => (s.bay b).link != .silent

/-- The paper number that the first issue at a session end gives, or 0 where none is made (R125, log
entry 23). -/
def State.numberToIssue (s : State) (d : Delivery) : Nat :=
  if d.isLoaded && !s.log.papersExhausted then s.log.paperCounter + 1 else 0

/-- The DETACH entry (R22, section 11.5). -/
def State.detachPayload (s : State) (d : Delivery) : Payload :=
  .detach d.afterSession.state (d.bay.getD 0) (s.numberToIssue d)
    (d.comps.countP fun c => c.state == .interrupted)

/-- DETACH (R22). -/
def State.detach (s : State) (ref : Nat) : State × FrameBody :=
  match s.find ref with
  | none => (s, .refused .noDelivery)
  | some (i, d) =>
    if s.owned d then (s, .retry .owned)
    else if s.detachState d then (s, .refused .wrongState)
    else
      match s.log.requesterRefusal with
      | some r => (s, r)
      | none =>
        let after := (s.admitEntry d.ref 0 (s.detachPayload d)).endSession i
        let issued := match after.slot i with
          | none => none
          | some d' => d'.paper.map fun p => (p.number, p.version)
        (after, .done (.detached d.afterSession.state issued))

/-! ### DELIVERY_READ -/

/-- The record after the readouts of every compartment (R23, R51). -/
def Delivery.readouts (d : Delivery) : Delivery :=
  { d with comps := d.comps.map Compartment.afterReadouts }

/-- DELIVERY_READ; the flags in the response include a LIMITED that a readout sets (R23). -/
def State.deliveryRead (s : State) (ref : Nat) : State × FrameBody :=
  match s.find ref with
  | none => (s, .refused .noDelivery)
  | some (i, d) =>
    (s.setSlot i (some d.readouts), .done (.delivery (s.deliveryView i d.readouts true)))

/-! ### Booking expiry -/

/-- A BOOKED delivery whose deadline terminal time has met or passed (R14). -/
def Delivery.due (now : Nat) (d : Delivery) : Bool := d.state == .booked && d.deadline ≤ now

/-- The expiry of the delivery in a slot, if it is due: taken if its entry is admitted, else withdrawn
(R14, R15). -/
def State.expireSlot (s : State) (i : SlotNo) : State :=
  match s.slot i with
  | none => s
  | some d =>
    if d.due s.now ∧ s.log.admitsAutomatic then
      (s.admitEntry d.ref 0 (.expire d.deadline d.vehicle)).setSlot i
        (some { d with state := .expiring })
    else s

/-- Reach every booking deadline, each on its own, in ascending slot number (R14, R15). -/
def State.reachDeadlines (s : State) : State := (List.finRange 16).foldl State.expireSlot s

end Sys2Proof.Machine
end

