-- ==== Sys2Proof/Machine/Drivers.lean ====
section
/-! DEFINITION. The hours table's requests: DRIVER_REGISTER, DRIVER_REMOVE, DRIVER_READ, ARRIVE and
HOURS_QUERY (R108 to R114, R120). -/

namespace Sys2Proof.Machine

/-! ### Views -/

/-- The delivery to which a driver is bound: its slot and record (R107). -/
def State.boundDelivery (s : State) (x : Driver) : Option (SlotNo × Delivery) :=
  match x.bound with
  | none => none
  | some i => (s.slot i).map fun d => (i, d)

/-- The ring in index order, each slot with its validity; with time UNSET every slot is stale (R111). -/
def State.ringView (s : State) (x : Driver) : List (DayEntry × Bool) :=
  x.slots.map fun e => (e, s.time.any fun now => validOn (now / Config.daySeconds) e)

/-- DRIVER_READ's body (R111). -/
def State.driverView (s : State) (x : Driver) : DriverView where
  number := x.number
  expiry := x.expiry
  shiftStart := x.shiftStart
  ring := s.ringView x
  bound := (s.boundDelivery x).map fun y => (y.1, y.2.ref)
  owned := s.driverOwned x
  figures := s.time.map fun now =>
    (x.drivingOn (now / Config.daySeconds), x.rolling (now / Config.daySeconds), x.sinceShift now)

/-! ### DRIVER_REGISTER, DRIVER_REMOVE, DRIVER_READ -/

/-- DRIVER_REGISTER (R108). That the entry as it now stands is given as DRIVER_READ gives it, with its figures,
is the model's choice (log entry 24). -/
def State.driverRegister (s : State) (n day : Nat) : State × FrameBody :=
  if badDriver n then (s, .refused .badField)
  else
    match s.driver n with
    | some x =>
      if s.driverOwned x then (s, .retry .owned)
      else
        let renewed := { x with expiry := day }
        (s.updDriver n fun _ => renewed, .done (.registered (s.driverView renewed) false))
    | none =>
      if Config.driverEntries ≤ s.drivers.length then (s, .refused .tableFull)
      else
        let new := Driver.fresh n day
        ({ s with drivers := s.drivers ++ [new] }, .done (.registered (s.driverView new) true))

/-- DRIVER_REMOVE (R110). -/
def State.driverRemove (s : State) (n : Nat) : State × FrameBody :=
  if badDriver n then (s, .refused .badField)
  else
    match s.driver n with
    | none => (s, .refused .unknownDriver)
    | some x =>
      if s.driverOwned x then (s, .retry .owned)
      else if x.bound.isSome then (s, .refused .inUse)
      else ({ s with drivers := s.drivers.filter fun y => y.number != n }, .done .removed)

/-- DRIVER_READ (R111). -/
def State.driverRead (s : State) (n : Nat) : State × FrameBody :=
  if badDriver n then (s, .refused .badField)
  else
    match s.driver n with
    | none => (s, .refused .unknownDriver)
    | some x => (s, .done (.driver (s.driverView x)))

/-! ### ARRIVE -/

/-- A malformed declaration (R113). -/
def badDeclaration (y : Declaration) : Bool := !within 1 14 y.days.length

/-- BAD_FIELD of an ARRIVE (R112, check 1). -/
def badArrive (b : ArriveBody) : Bool :=
  b.ref == 0 || badDriver b.driver || b.declaration.any badDeclaration

/-- The driver entry after an accepted ARRIVE (R114, steps 1 and 2). -/
def Driver.arrive (x : Driver) (declaration : Option Declaration) (now : Nat) (i : SlotNo) : Driver :=
  let declared := match declaration with
    | none => x
    | some y => x.declare y now
  { declared with bound := some i }

/-- The DECLARATION entry's payload, `x` being the driver entry after the application (R114). -/
def declarationPayload (x : Driver) (y : Declaration) (now : Nat) : Payload :=
  let d := now / Config.daySeconds
  .declaration (x.shiftStart.getD 0) (now < y.restEnd) y.days.length (keptDays y d) (alteredDays y d)
    (x.drivingOn d) (x.rolling d)

/-- Offer the DECLARATION entry where a declaration was applied (R114, step 5). -/
def State.offerDeclaration (s : State) (ref : Nat) (x : Driver) (now : Nat) :
    Option Declaration → State
  | none => s
  | some y => s.offer ref 0 (declarationPayload x y now)

/-- The delivery record after an accepted ARRIVE (R114, steps 3 and 4). -/
def Delivery.arrive (d : Delivery) (driver now : Nat) : Delivery :=
  { d with driver := some driver, state := .arrived, arrival := some now }

/-- The effect and answer of an accepted ARRIVE (R114). -/
def State.acceptArrive (s : State) (b : ArriveBody) (now : Nat) (i : SlotNo) (d : Delivery)
    (x : Driver) : State × FrameBody :=
  let y := x.arrive b.declaration now i
  let day := now / Config.daySeconds
  let logged := (s.admitEntry d.ref 0
    (.arrive d.vehicle (y.shiftStart.getD 0) b.declaration.isSome)).offerDeclaration d.ref y now
      b.declaration
  ((logged.updDriver b.driver fun _ => y).setSlot i (some (d.arrive b.driver now)),
    .done (.arrived now (y.shiftStart.getD 0) (y.drivingOn day) (y.rolling day)
      ((y.sinceShift now).getD 0) (margins s.settings now y d.driving d.duty)))

/-- The checks 6 to 9 of ARRIVE (R112), for a BOOKED delivery that is not owned. -/
def arriveRefusal (d : Delivery) (b : ArriveBody) : Option Driver → Option RefuseReason
  | none => some .unknownDriver
  | some x =>
    if d.driver.any fun n => n != b.driver then some .driverMismatch
    else if x.bound.isSome then some .driverBusy
    else if x.shiftStart.isNone && b.declaration.isNone then some .needDeclaration
    else none

/-- ARRIVE (R112). -/
def State.announce (s : State) (b : ArriveBody) : State × FrameBody :=
  if badArrive b then (s, .refused .badField)
  else
    match s.time with
    | none => (s, .refused .noTime)
    | some now =>
      match s.find b.ref with
      | none => (s, .refused .noDelivery)
      | some (i, d) =>
        if s.owned d || (s.driver b.driver).any s.driverOwned then (s, .retry .owned)
        else if d.state ≠ .booked then (s, .refused .wrongState)
        else
          match arriveRefusal d b (s.driver b.driver) with
          | some r => (s, .refused r)
          | none =>
            match s.driver b.driver, s.log.requesterRefusal with
            | none, _ => (s, .refused .unknownDriver)
            | some _, some r => (s, r)
            | some x, none => s.acceptArrive b now i d x

/-! ### HOURS_QUERY -/

/-- HOURS_QUERY's answer for a registered driver (R120). -/
def State.hours (s : State) (x : Driver) (now : Nat) : DoneBody :=
  let day := now / Config.daySeconds
  match s.boundDelivery x with
  | none =>
    .hours (x.drivingOn day) (x.rolling day) (x.sinceShift now) none (margins s.settings now x 0 0)
      x.expiry (endorsed x.expiry day true)
  | some (_, d) =>
    .hours (x.drivingOn day) (x.rolling day) (x.sinceShift now) (some (d.ref, d.state))
      (margins s.settings now x d.driving d.duty) x.expiry (endorsed x.expiry day (s.dangerous d))

/-- HOURS_QUERY (R120). -/
def State.hoursQuery (s : State) (n : Nat) : State × FrameBody :=
  if badDriver n then (s, .refused .badField)
  else
    match s.time with
    | none => (s, .refused .noTime)
    | some now =>
      match s.driver n with
      | none => (s, .refused .unknownDriver)
      | some x => (s, .done (s.hours x now))

end Sys2Proof.Machine
end

