-- ==== Sys2Proof/Machine/Store.lean ====
section
/-! DEFINITION. The log store at work: the completion of a write and what it hands on, and the reclaim
engine (R9, R142, R154, R155, R159 to R164, R173). -/

namespace Sys2Proof.Machine

/-! ### Completions (R9, R142, R155, R173) -/

/-- The REPLY RELEASED of a delivery (R138). -/
def releasedReply (d : Delivery) (seq : Nat) : FrameBody :=
  .replyReleased d.ref d.driver d.vehicle d.overrides seq d.paper

/-- Clear the note of a delivery whose slot a CANCEL frees, in every bay that keeps it (log entry 44). -/
def State.takeLeave (s : State) (i : SlotNo) : State :=
  { s with bays := mapTable (fun r =>
      if r.withdrawn = some i then { r with withdrawn := none } else r) s.bays }

/-- A written RELEASE, CANCEL, EXPIRE or OVERRIDE entry of a delivery in slot `i` (R9, R142, R155): the
hours table first, then the reply, then the slot. -/
def State.completeFor (s : State) (e : Entry) (i : SlotNo) (d : Delivery) : State :=
  match e.payload with
  | .release .. =>
    if d.state = .releasing then
      ((s.commit d).replyAwaited e.seq (releasedReply d e.seq)).setSlot i none
    else s
  | .cancel .. =>
    if d.state = .cancelling then
      (((s.unbind i).takeLeave i).replyAwaited e.seq .replyDone).setSlot i none
    else s
  | .expire .. => if d.state = .expiring then s.setSlot i none else s
  | .override new _ supervisor =>
    (s.setSlot i (some { d with overrides := new, supervisor := some supervisor })).replyAwaited e.seq
      (.replyOverride new supervisor)
  | _ => s

/-- What the dispatch table does at the write of an entry (R155). -/
def State.complete (s : State) (e : Entry) : State :=
  match s.find e.ref with
  | none => s
  | some (i, d) => s.completeFor e i d

/-! ### The reclaim engine (R159 to R164) -/

/-- The pages of the set in the order of taking: ring order from the head, or from the FILLING page in a
store that holds no entry (R160). In one that holds no entry and has no FILLING page, R160 names no page to begin
with; that the order then begins with page 0 is the model's choice (log entry 40). -/
def LogStore.takingOrder (l : LogStore) : List PageNo :=
  let start := (if l.entries.isEmpty then l.filling else l.head).getD 0
  ((List.range 64).map fun i => (⟨(start.val + i) % 64, by omega⟩ : PageNo)).filter fun p =>
    l.engine.set.contains p

/-- A page is exported when its last entry is at or before the export mark (R158). -/
def LogStore.exported (l : LogStore) (p : PageNo) : Bool :=
  match (l.page p).lastEntry with
  | none => true
  | some e => atOrBefore e.seq l.exportMark

/-- The outcome of a page that the engine skips, or none where it takes the page (R161). That no page is the oldest in a
store without a head is the model's choice (log entry 43). -/
def LogStore.skips (l : LogStore) (p : PageNo) : Option PageOutcome :=
  match (l.page p).state with
  | .bad => some .bad
  | .free | .filling => some .notFull
  | .full | .reclaiming =>
    if !l.exported p then some .notExported
    else if l.head ≠ some p then some .notOldest
    else none

/-- Mark a page RECLAIMING; its erase begins at once if the queue is empty and no write is in progress,
else the engine is SUSPENDED (R161, R162). -/
def LogStore.beginErase (l : LogStore) (p : PageNo) (set : List PageNo) : LogStore :=
  { l.setPage p ⟨.reclaiming, (l.page p).used⟩ with
    engine :=
      ⟨if l.queue.isEmpty && !l.writing then .erasing else .suspended, set, none, none⟩ }

/-- Take the pages of the set in order, up to the first that is erased; with none left the engine is
IDLE (R160, R161). That a page leaves the set when it has been dealt with, so that STATUS counts the page
being erased and those after it, is the model's choice (log entry 36). -/
def State.takePages : List PageNo → State → State
  | [], s => { s with log := { s.log with engine := Engine.idle } }
  | p :: rest, s =>
    match s.log.skips p with
    | some outcome => State.takePages rest (s.replyPage p outcome)
    | none => { s with log := s.log.beginErase p (p :: rest) }

/-- Whether an erase is in progress (R162). -/
def State.erasing (s : State) : Bool := s.phase == .running && s.log.engine.state == .erasing

/-- The engine with no erase in progress, before it takes its next page. -/
def LogStore.endErase (l : LogStore) : LogStore :=
  { l with engine := { l.engine with state := .suspended, suspendBy := none } }

/-- Begin the next write if it may begin (R154). -/
def State.beginWrite (s : State) : State :=
  { s with log := s.log.beginWrite (s.phase == .running) }

/-- Whether a page is the next after the tail while no page is FILLING (R163, step 2). That none is in a store without
a tail is the model's choice (log entry 43). -/
def LogStore.fillsAtOnce (l : LogStore) (p : PageNo) : Bool :=
  l.filling.isNone && match l.tail with
    | none => false
    | some t => l.nextPage t == some p

/-- A page after a completed erase: FREE, or FILLING where the store had no write point and it is the
next page after the tail (R163). -/
def LogStore.freePage (l : LogStore) (p : PageNo) : LogStore :=
  l.setPage p ⟨if l.fillsAtOnce p then .filling else .free, []⟩

/-- The completion of the erase of the front page of the set (R163). -/
def State.eraseDone (s : State) : State :=
  match s.log.engine.set with
  | [] => s
  | p :: rest =>
    (State.takePages rest
      ({ s with log := (s.log.freePage p).endErase }.replyPage p .erased)).beginWrite

/-- READY becomes DEGRADED at a verify failure (R164). -/
def StoreStatus.degrade : StoreStatus → StoreStatus
  | .ready => .degraded
  | x => x

/-- The verify failure of the erase of the front page of the set (R164). -/
def State.eraseFailed (s : State) : State :=
  match s.log.engine.set with
  | [] => s
  | p :: rest =>
    let bad := (s.log.setPage p ⟨.bad, []⟩).endErase
    let marked := { s with log := { bad with status := bad.status.degrade } }
    (State.takePages rest
      ((marked.offer 0 0 (.pageBad p bad.goodPages)).replyPage p .eraseFailed)).beginWrite

/-- The suspension of an erase in progress that an admission asked for (R162). -/
def State.suspendErase (s : State) : State :=
  { s with log := s.log.endErase }.beginWrite

/-- In SUSPENDED, the erase begins or continues once the queue is empty and no write is in progress
(R162). -/
def LogStore.resume (l : LogStore) : LogStore :=
  if l.engine.state = .suspended ∧ l.queue = [] ∧ l.writing = false then
    { l with engine := { l.engine with state := .erasing, suspendBy := none } }
  else l

/-! ### The write completion (R154) -/

/-- The store with the front entry written into the lowest empty slot of the FILLING page (R154, steps 1
to 3). -/
def LogStore.written (l : LogStore) (e : Entry) (rest : List Entry) : LogStore :=
  let stored := match l.filling with
    | none => l
    | some p => (l.setPage p ⟨.filling, (l.page p).used ++ [PageSlot.entry e]⟩).rollOver p
  { stored with queue := rest, lastWritten := e.seq, everWritten := true, writing := false }

/-- A write completion (R154, R155, R162). -/
def State.writeDone (s : State) : State :=
  match s.log.queue with
  | [] => s
  | e :: rest =>
    let done := { s with log := s.log.written e rest }.complete e
    { done with log := done.log.resume }.beginWrite

end Sys2Proof.Machine
end

