-- ==== Sys2Proof/Machine/LogRequests.lean ====
section
/-! DEFINITION. The log store's requests: LOG_READ, LOG_ACK and RECLAIM, and the expiry of the
collection window (R157 to R160). -/

namespace Sys2Proof.Machine

/-! ### LOG_READ -/

/-- The entry of a number. -/
def LogStore.entryOf (l : LogStore) (n : Nat) : Option Entry := l.entries.find? fun e => e.seq == n

/-- A number is written: not after the last written number of a store that has written an entry (R157,
case 1). -/
def LogStore.isWritten (l : LogStore) (n : Nat) : Bool := l.everWritten && atOrBefore n l.lastWritten

/-- The entries n, n + 1, … up to the count, stopping before the first number that is not written (R157,
case 4). -/
def LogStore.readFrom (l : LogStore) (n count : Nat) : List Entry :=
  (((List.range count).map fun k => (n + k) % Config.wrap32).takeWhile l.isWritten).filterMap
    l.entryOf

/-- LOG_READ (R157). -/
def State.logRead (s : State) (n count : Nat) : State × FrameBody :=
  if !within 1 8 count then (s, .refused .badField)
  else if !s.log.isWritten n then (s, .refused .notWritten)
  else
    match s.log.pageOf n with
    | none => (s, .refused .gone)
    | some p =>
      if (s.log.page p).state = .reclaiming then (s, .retry .pageBusy)
      else
        (s, .done (.log n (s.log.readFrom n count) s.log.lastWritten s.log.exportMark))

/-! ### LOG_ACK -/

/-- The earlier of two numbers in serial order (R149). -/
def earlier (n m : Nat) : Nat := if atOrBefore n m then n else m

/-- The later of two numbers in serial order (R149). -/
def later (n m : Nat) : Nat := if atOrBefore n m then m else n

/-- LOG_ACK (R158). -/
def State.logAck (s : State) (n : Nat) : State × FrameBody :=
  let mark := later s.log.exportMark (earlier n s.log.lastWritten)
  ({ s with log := { s.log with exportMark := mark } }, .done (.acked mark s.log.lastWritten))

/-! ### RECLAIM -/

/-- The engine with a page collected and the window running from now (R159). -/
def Engine.collect (x : Engine) (page : PageNo) (now : Nat) : Engine :=
  { state := .collecting
    set := if x.set.contains page then x.set else x.set ++ [page]
    window := some (now + Config.collectionWindow)
    suspendBy := none }

/-- Whether the engine collects pages (R159). -/
def EngineState.collects : EngineState → Bool
  | .idle | .collecting => true
  | .erasing | .suspended => false

/-- RECLAIM (R159). -/
def State.reclaim (s : State) (p : Port) (tag n : Nat) : State × FrameBody :=
  if h : n < 64 then
    if !s.log.engine.state.collects then (s, .retry .reclaimBusy)
    else
      match (s.port p).deferralRefusal tag with
      | some r => (s, r)
      | none =>
        let page : PageNo := ⟨n, h⟩
        (({ s with log := { s.log with engine := s.log.engine.collect page s.elapsed } }).defer p
          ⟨tag, 0x13, .page page⟩, .deferredPage page)
  else (s, .refused .badField)

/-- The expiry of the collection window: the order of taking is fixed and pages are taken (R160). -/
def State.windowExpired (s : State) : State :=
  let order := s.log.takingOrder
  State.takePages order
    { s with log := { s.log with engine := ⟨.erasing, order, none, none⟩ } }

end Sys2Proof.Machine
end

