-- ==== Sys2Proof/Machine/Products.lean ====
section
/-! DEFINITION. The product table's requests: PRODUCT_DEFINE, PRODUCT_STATE and PRODUCT_READ (R28 to
R35). -/

namespace Sys2Proof.Machine

/-! ### In use (R29) -/

/-- The compartment records that name a code (R29). -/
def State.compsInUse (s : State) (code : Nat) : Nat :=
  ((List.finRange 16).map fun i =>
    match s.slot i with
    | none => 0
    | some d => d.comps.countP fun c => c.product == code).sum

/-- Whether an arm record holds an orphan of a code (R29). -/
def ArmRecord.orphanOf (code : Nat) : ArmRecord → Bool
  | .orphan o => o.product == code
  | _ => false

/-- The orphans of a code (R29). -/
def State.orphansInUse (s : State) (code : Nat) : Nat :=
  ((List.finRange 12).map fun b =>
    ((s.bay b).armA.orphanOf code).toNat + ((s.bay b).armB.orphanOf code).toNat).sum

/-- The in-use count of a code (R29). -/
def State.inUse (s : State) (code : Nat) : Nat := s.compsInUse code + s.orphansInUse code

/-! ### PRODUCT_DEFINE -/

/-- The temperatures of a table rise strictly (R28, condition 4). -/
def rising : List CorrPoint → Bool
  | p :: q :: rest => p.temp < q.temp && rising (q :: rest)
  | _ => true

/-- A point within the ranges of R28, conditions 2 and 3. -/
def goodPoint (p : CorrPoint) : Bool :=
  -500 ≤ p.temp && p.temp ≤ 700 && within 58982 72090 p.factor

/-- A valid correction table (R28). -/
def validTable (points : List CorrPoint) : Bool :=
  within 2 8 points.length && points.all goodPoint && rising points

/-- A printable character (section 11.1). -/
def printable (c : Byte) : Bool := within 0x20 0x7E c.toNat

/-- The class, division and packing group suit the UN number (R30, check 2). -/
def goodsMatch (d : ProductData) : Bool :=
  if d.un = 0 then d.cls == 0 && d.division == 0 && d.packing == 0
  else within 1 9 d.cls && d.division ≤ 9 && within 1 3 d.packing

/-- The data of a PRODUCT_DEFINE pass check 2 of R30. -/
def goodData (d : ProductData) : Bool :=
  d.name.toArray.toList.all printable && d.un ≤ 3600 && goodsMatch d && (flashOf d.flash).isSome
    && validTable d.points

/-- The entry that a PRODUCT_DEFINE writes, none where a field is out of range: the whole body with
ENABLED or DISABLED, the empty contents with UNDEFINED (R30, R31). -/
def definedEntry (b : ProductBody) : Option Product :=
  match productStateOf b.state, b.data with
  | some .undefined, _ => some Product.undefined
  | some st, some d =>
    if goodData d then
      some ⟨st, d.name, d.un, d.cls, d.division, (packingOf d.packing).getD .none,
        (flashOf d.flash).getD .low, d.points⟩
    else none
  | _, _ => none

/-- PRODUCT_DEFINE (R30, R31). -/
def State.productDefine (s : State) (b : ProductBody) : State × FrameBody :=
  match definedEntry b with
  | none => (s, .refused .badField)
  | some e =>
    if !within 1 16 b.code then (s, .refused .badField)
    else if 0 < s.inUse b.code then (s, .refused .inUse)
    else (s.setProduct b.code e, .done (.product b.code e))

/-! ### PRODUCT_STATE, PRODUCT_READ -/

/-- The target of a PRODUCT_STATE: ENABLED or DISABLED (R33). -/
def targetState (n : Nat) : Option ProductState :=
  match productStateOf n with
  | some .undefined => none
  | x => x

/-- PRODUCT_STATE (R33). -/
def State.productState (s : State) (code state : Nat) : State × FrameBody :=
  match targetState state with
  | none => (s, .refused .badField)
  | some target =>
    if !within 1 16 code then (s, .refused .badField)
    else if (s.product code).state = .undefined then (s, .refused .wrongState)
    else
      (s.setProduct code { s.product code with state := target },
        .done (.productState target (s.inUse code)))

/-- One line of the summary (R35). -/
def State.productSummary (s : State) (code : Nat) : ProductSummary :=
  ⟨(s.product code).state, (s.product code).flash, (s.product code).un, s.inUse code⟩

/-- PRODUCT_READ (R35). -/
def State.productRead (s : State) (code : Nat) : State × FrameBody :=
  if 16 < code then (s, .refused .badField)
  else if code = 0 then (s, .done (.productSummary ((List.range' 1 16).map s.productSummary)))
  else
    (s, .done (.productRead code (s.product code) (s.compsInUse code) (s.orphansInUse code)))

end Sys2Proof.Machine
end

