-- ==== Sys2Proof/Machine/Release.lean ====
section
/-! DEFINITION. RELEASE with its holds, OVERRIDE and PAPER_READ (R131 to R143). -/

namespace Sys2Proof.Machine

/-! ### Holds (R132, R133) -/

/-- LOG_FULL: free space after one more entry would be below 64 (R132). -/
def LogStore.reserveReached (l : LogStore) : Bool := l.freeSpace < Config.reserve + 1

/-- The raised set, given the projection's failing set (R132, step 2). -/
def Delivery.raised (d : Delivery) (failing : HoldSet) (logFull : Bool) : HoldSet :=
  { failing with
    provisional := d.comps.any fun c => c.state == .interrupted
    quantity := d.comps.any fun c => c.acc.flags.doubtful
    logFull := logFull }

/-- What a RELEASE finds of its delivery (R132, R133): the record after its readouts, the raised set,
the hold set and the margins. -/
structure Holds where
  record : Delivery
  raised : HoldSet
  holds : HoldSet
  margins : Margins
  deriving DecidableEq, Repr

/-- The hold computation (R132, R133). -/
def State.computeHolds (s : State) (d : Delivery) : Holds :=
  let read := d.paperReadouts
  let p := s.projectFor read
  let raised := read.raised p.failing s.log.reserveReached
  ⟨read, raised, raised.without d.overrides, p.margins⟩

/-! ### RELEASE -/

/-- The paper of a delivery is absent (R125). -/
def Delivery.noPaper (d : Delivery) : Bool :=
  match d.state with
  | .loaded => d.paper.isNone
  | .held => false
  | _ => true

/-- A RELEASE that leaves holds (R135). -/
def State.hold (s : State) (i : SlotNo) (h : Holds) : State × FrameBody :=
  let d := h.record
  let held := s.setSlot i (some { d with state := .held, holds := h.holds })
  (if h.holds = d.holds then held
    else held.offer d.ref (d.driver.getD 0)
      (.hold h.holds d.holds h.margins.daily h.margins.rolling (h.margins.shift.getD 0)),
    .refusedHeld h.holds h.raised h.margins ((d.paper.map Paper.number).getD 0)
      ((d.paper.map Paper.version).getD 0))

/-- The orphan that an INTERRUPTED compartment leaves (R62, R136). -/
def orphanOf (d : Delivery) (c : Compartment) : Orphan :=
  ⟨d.ref, c.index, c.product, c.planned, c.capacity, .interrupted, none, c.acc⟩

/-- Turn one compartment into an orphan in its arm record, if it is INTERRUPTED (R5, R136). -/
def State.makeOrphan (d : Delivery) (s : State) (c : Compartment) : State :=
  if c.state = .interrupted then
    match c.arm with
    | none => s
    | some x => s.setArm x.bay x.arm (.orphan (orphanOf d c))
  else s

/-- The RELEASE entry: the stored version's figures (R136, step 3). -/
def Delivery.releasePayload (d : Delivery) : Payload :=
  match d.paper with
  | none => .release 0 0 false d.overrides d.driving d.duty 0 0
  | some p =>
    .release p.number p.version p.provisional d.overrides d.driving d.duty p.totalNet p.totalGross

/-- A RELEASE whose hold set is empty (R134 step 8, R136). -/
def State.acceptRelease (s : State) (p : Port) (tag : Nat) (i : SlotNo) (d : Delivery) :
    State × FrameBody :=
  let read := s.setSlot i (some d)
  match read.deferrableRefusal p tag with
  | some r => (read, r)
  | none =>
    let accepted := read.acceptDeferred p tag 0x22 d.ref (d.driver.getD 0) d.releasePayload
    (d.comps.foldl (State.makeOrphan d)
      (accepted.1.setSlot i (some { d with state := .releasing, holds := HoldSet.empty })),
      accepted.2)

/-- RELEASE (R134). -/
def State.release (s : State) (p : Port) (tag ref driver : Nat) : State × FrameBody :=
  if ref = 0 ∨ badDriver driver then (s, .refused .badField)
  else
    match s.find ref with
    | none => (s, .refused .noDelivery)
    | some (i, d) =>
      if s.owned d then (s, .retry .owned)
      else if d.noPaper then (s, .refused .notLoaded)
      else if d.driver ≠ some driver then (s, .refused .driverMismatch)
      else if d.comps.any fun c => c.state == .stopping then (s, .refused .wrongState)
      else
        let h := s.computeHolds d
        if h.holds ≠ HoldSet.empty then s.hold i h else s.acceptRelease p tag i h.record

/-! ### OVERRIDE -/

/-- OVERRIDE (R140, R141). -/
def State.override (s : State) (p : Port) (tag ref set supervisor : Nat) : State × FrameBody :=
  match HoldSet.ofOverrideMask set with
  | none => (s, .refused .badField)
  | some new =>
    if ref = 0 ∨ supervisor = 0 then (s, .refused .badField)
    else
      match s.find ref with
      | none => (s, .refused .noDelivery)
      | some (_, d) =>
        if s.owned d then (s, .retry .owned)
        else if d.state = .booked then (s, .refused .wrongState)
        else
          match s.deferrableRefusal p tag with
          | some r => (s, r)
          | none =>
            s.acceptDeferred p tag 0x05 d.ref (d.driver.getD 0) (.override new d.overrides supervisor)

/-! ### PAPER_READ -/

/-- The states in which PAPER_READ returns a paper (R131). -/
def DelState.papered : DelState → Bool
  | .loaded | .held | .releasing => true
  | _ => false

/-- PAPER_READ (R131, log entry 23). -/
def State.paperRead (s : State) (ref : Nat) : State × FrameBody :=
  if ref = 0 then (s, .refused .badField)
  else
    match s.find ref with
    | none => (s, .refused .noDelivery)
    | some (_, d) =>
      match d.paper with
      | none => (s, .refused .notLoaded)
      | some x =>
        if d.state.papered then
          (s, .done (.paper ⟨d.ref, d.driver, d.vehicle, d.state, d.holds, x⟩))
        else (s, .refused .notLoaded)

end Sys2Proof.Machine
end

