-- ==== Sys2Proof/Machine/Formats.lean ====
section
/-! DEFINITION. Formats: the words the part sends on the rack link (R195), the bytes of the frames it
sends (R194), and the bytes of a log entry (R196). Nothing the part does reads these layouts back;
log entry 24 names the widths of DONE bodies that chapter 11 does not state. -/

namespace Sys2Proof.Machine

/-! ### Numbers -/

/-- A number in `k` bytes, most significant byte first (section 11.1). -/
def be (k n : Nat) : List Byte :=
  (List.range k).reverse.map fun i => BitVec.ofNat 8 (n / 256 ^ i)

/-- A signed number in `k` bytes, two's complement (section 11.1). -/
def beInt (k : Nat) (z : Int) : List Byte := be k (z % (256 ^ k : Nat)).toNat

/-- A mark of one byte, 1 where it is set and 0 where it is not: as chapter 11 sends the purge and provisional marks,
and by the model's choice for the marks of a DONE (log entry 24) and of a log entry (log entry 45) that it does not lay
out. -/
def mark (b : Bool) : List Byte := be 1 b.toNat

/-- A number that may be absent, 0 where it is: a driver, slot, bay, product or time as section 11.1 has it, any other
by the model's choice (log entry 24). -/
def beOpt (k : Nat) (n : Option Nat) : List Byte := be k (n.getD 0)

/-- A temperature, 8000h where it is absent (section 11.1). -/
def beTemp : Option Int → List Byte
  | none => be 2 0x8000
  | some t => beInt 2 t

/-- A slot or bay number that may be absent, 0 where it is (section 11.1). -/
def beSlot (i : Option SlotNo) : List Byte := beOpt 1 (i.map fun x => x.val + 1)
def beBay (b : Option BayNo) : List Byte := beOpt 1 (b.map fun x => x.val + 1)

/-- A figure that may be absent: the figure, then its presence mark (log entry 24). -/
def bePresent (k : Nat) (z : Option Int) : List Byte := beInt k (z.getD 0) ++ mark z.isSome

/-! ### Enumerations (section 11.1) -/

def armCode : Arm → Nat
  | .A => 0
  | .B => 1

def DelState.code : DelState → Nat
  | .booked => 1
  | .arrived => 2
  | .atBay => 3
  | .loaded => 4
  | .held => 5
  | .releasing => 6
  | .cancelling => 7
  | .expiring => 8

def CompState.code : CompState → Nat
  | .planned => 1
  | .permitted => 2
  | .flowing => 3
  | .stopping => 4
  | .done => 5
  | .void => 6
  | .interrupted => 7

def ProductState.code : ProductState → Nat
  | .undefined => 0
  | .enabled => 1
  | .disabled => 2

def Packing.code : Packing → Nat
  | .none => 0
  | .one => 1
  | .two => 2
  | .three => 3

def Flash.code : Flash → Nat
  | .low => 0
  | .high => 1

def Link.code : Link → Nat
  | .online => 1
  | .suspect => 2
  | .silent => 3

def StoreStatus.code : StoreStatus → Nat
  | .ready => 1
  | .degraded => 2
  | .failed => 3

def StartKind.code : StartKind → Nat
  | .warm => 1
  | .cold => 2

/-- The reclaim engine's states, in the order of R159 (log entry 24). -/
def EngineState.code : EngineState → Nat
  | .idle => 0
  | .collecting => 1
  | .erasing => 2
  | .suspended => 3

/-- Deny reasons (section 11.4). -/
def DenyReason.code : DenyReason → Nat
  | .unknownDelivery => 1
  | .owned => 2
  | .bayBound => 3
  | .deliveryBound => 4
  | .notArrived => 5
  | .hours => 6
  | .noCompartment => 7
  | .notPlanned => 8
  | .armBusy => 9
  | .shutdown => 10
  | .productDisabled => 11
  | .crossover => 12
  | .switchLoad => 13
  | .active => 14

/-- RETRY reasons (section 11.3). -/
def RetryReason.code : RetryReason → Nat
  | .owned => 0x40
  | .queueFull => 0x41
  | .deferLimit => 0x42
  | .logBusy => 0x43
  | .reclaimBusy => 0x44
  | .pageBusy => 0x45
  | .starting => 0x46

/-- REFUSED reasons other than HELD, which is 0Eh (section 11.3). -/
def RefuseReason.code : RefuseReason → Nat
  | .unknownRequest => 0x01
  | .wrongPort => 0x02
  | .badField => 0x03
  | .noDelivery => 0x04
  | .duplicate => 0x05
  | .tableFull => 0x06
  | .wrongState => 0x07
  | .unknownDriver => 0x08
  | .driverMismatch => 0x09
  | .driverBusy => 0x0A
  | .needDeclaration => 0x0B
  | .productUnusable => 0x0C
  | .inUse => 0x0D
  | .notLoaded => 0x0F
  | .logFull => 0x10
  | .noTime => 0x11
  | .backwards => 0x12
  | .gone => 0x13
  | .notWritten => 0x14
  | .shutdownActive => 0x15
  | .storeFailed => 0x16
  | .tagInUse => 0x17

/-- The result byte of a page's REPLY (section 11.2). -/
def PageOutcome.code : PageOutcome → Nat
  | .erased => 0x10
  | .eraseFailed => 0x11
  | .bad => 0x12
  | .notFull => 0x13
  | .notExported => 0x14
  | .notOldest => 0x15

/-! ### Rack link words (R195) -/

/-- A word as it is sent: its value bits, then its check (R56, R195). -/
def word (value : Nat) : BitVec 30 := BitVec.ofNat 30 (value * 64 + wordCheck value)

/-- A head word: address, kind, count and argument (R57, R195). -/
def headWord (address kind count argument : Nat) : BitVec 30 :=
  word (address * 2 ^ 20 + kind * 2 ^ 15 + count * 2 ^ 12 + argument)

/-- The request number in a VERDICT's argument (R195). -/
def BayRequest.code : BayRequest → Nat
  | .claim => 1
  | .start => 2
  | .finish => 3
  | .fault => 4

/-- A VERDICT's argument (R195). That the arm bit is 0 where the request answered names no arm (R57) is the model's
choice (log entry 24). -/
def verdictArgument (q : BayRequest) (x : Option Arm) (deny : Option DenyReason) : Nat :=
  q.code * 512 + (x.map armCode).getD 0 * 256 + (deny.map DenyReason.code).getD 0

/-- The words of an exchange's message to a bay: none is a POLL (R57, R195). -/
def messageWords (b : BayNo) : Option Message → List (BitVec 30)
  | none => [headWord (b.val + 1) 0x01 0 0]
  | some (.permit x index product target capacity) =>
    [headWord (b.val + 1) 0x02 3 (armCode x), word (index * 256 + product), word target, word capacity]
  | some (.stop x) => [headWord (b.val + 1) 0x03 0 (armCode x)]
  | some (.verdict q x deny) => [headWord (b.val + 1) 0x04 0 (verdictArgument q x deny)]
  | some .dismiss => [headWord (b.val + 1) 0x05 0 0]

/-- ALL_STOP, addressed to 0 (R57, R76). -/
def allStopWords : List (BitVec 30) := [headWord 0 0x06 0 0]

/-! ### Log entries (R196) -/

/-- The bits of a compartment list (section 11.1). -/
def compMask (indices : List Nat) : Nat :=
  ((List.range' 1 6).map fun i => bit (indices.contains i) (i - 1)).sum

/-- Version and provisional mark in one byte (section 11.5). -/
def versionMark (version : Nat) (provisional : Bool) : List Byte :=
  be 1 (version + bit provisional 7)

/-- An arm's condition, index and orphan reference (section 11.5). -/
def ArmCond.bytes : ArmCond → List Byte
  | .free => be 1 0 ++ be 1 0 ++ be 4 0
  | .compartment i => be 1 1 ++ be 1 i ++ be 4 0
  | .orphan r i => be 1 2 ++ be 1 i ++ be 4 r

/-- The changes of an AMEND in ascending index (section 11.5). -/
def changesAscending (cs : List PlanChange) : List PlanChange :=
  (List.range' 1 6).flatMap fun i => cs.filter fun c => c.index == i

def bayByte (b : BayNo) : List Byte := be 1 (b.val + 1)

/-- The code of a kind (section 11.5). -/
def Payload.code : Payload → Nat
  | .book .. => 1
  | .arrive .. => 2
  | .declaration .. => 3
  | .claim .. => 4
  | .deny .. => 5
  | .compartment .. => 6
  | .paper .. => 7
  | .hold .. => 8
  | .override .. => 9
  | .release .. => 10
  | .cancel .. => 11
  | .expire .. => 12
  | .amend .. => 13
  | .detach .. => 14
  | .lateQuantity .. => 15
  | .unpermitted .. => 16
  | .baySilent .. => 17
  | .bayBack .. => 18
  | .bayFault .. => 19
  | .shutdown .. => 20
  | .shutdownClear .. => 21
  | .timeSet .. => 22
  | .pageBad .. => 23
  | .startUp .. => 24

/-- The payload bytes that a kind uses (section 11.5). Section 11.5 gives the cause added of a SHUTDOWN entry one
byte and no code; that it is the mask of that one cause is the model's choice (log entry 39). It gives the yes-or-no
fields of four kinds one byte and no code; that yes is 1 and no is 0 is the model's choice, and so are the zeros of a
step or a SHIFT margin that is absent (log entry 45). -/
def Payload.used : Payload → List Byte
  | .book slot vehicle driving duty count deadline =>
    beSlot (some slot) ++ be 2 vehicle ++ be 2 driving ++ be 2 duty ++ be 1 count ++ be 4 deadline
  | .arrive vehicle start declared => be 2 vehicle ++ be 4 start ++ mark declared
  | .declaration start clamped given kept altered d0 r =>
    be 4 start ++ mark clamped ++ be 1 given ++ be 1 kept ++ be 1 altered ++ be 2 d0 ++ be 2 r
  | .claim b daily rolling shift => bayByte b ++ beInt 2 daily ++ beInt 2 rolling ++ beInt 4 shift
  | .deny b x index reason armProduct product last =>
    bayByte b ++ be 1 (armCode x) ++ be 1 index ++ be 1 reason.code ++ be 1 armProduct ++ be 1 product
      ++ be 1 last
  | .compartment b x index product state net gross average flags =>
    bayByte b ++ be 1 (armCode x) ++ be 1 index ++ be 1 product ++ be 1 state.code ++ be 2 net
      ++ be 2 gross ++ beTemp average ++ be 2 flags.mask
  | .paper number version provisional lines net gross =>
    be 4 number ++ versionMark version provisional ++ be 1 lines ++ be 4 net ++ be 4 gross
  | .hold new previous daily rolling shift =>
    be 1 new.mask ++ be 1 previous.mask ++ beInt 2 daily ++ beInt 2 rolling ++ beInt 4 shift
  | .override new previous supervisor => be 1 new.mask ++ be 1 previous.mask ++ be 2 supervisor
  | .release number version provisional overrides driving duty net gross =>
    be 4 number ++ versionMark version provisional ++ be 1 overrides.mask
      ++ be 3 (driving * 4096 + duty) ++ be 5 (net * 1048576 + gross)
  | .cancel state b => be 1 state.code ++ beBay b
  | .expire deadline vehicle => be 4 deadline ++ be 2 vehicle
  | .amend trip driver changes =>
    (match trip with
      | none => be 3 0
      | some (driving, duty) => be 3 (driving * 4096 + duty))
      ++ be 2 (driver.getD 0xFFFF) ++ be 1 (compMask (changes.map PlanChange.index))
      ++ ((changesAscending changes).take 4).flatMap fun c => be 2 c.planned
  | .detach state b number interrupted =>
    be 1 state.code ++ bayByte b ++ be 4 number ++ be 1 interrupted
  | .lateQuantity b x index product net gross average flags =>
    bayByte b ++ be 1 (armCode x) ++ be 1 index ++ be 1 product ++ be 2 net ++ be 2 gross
      ++ beTemp average ++ be 2 flags.mask
  | .unpermitted b x c temp valve =>
    bayByte b ++ be 1 (armCode x) ++ be 3 c ++ beInt 2 temp ++ mark valve
  | .baySilent b x y => bayByte b ++ x.bytes ++ y.bytes
  | .bayBack b missed => bayByte b ++ be 2 missed
  | .bayFault b code x y => bayByte b ++ be 1 code ++ x.bytes ++ y.bytes
  | .shutdown added set moved => be 1 (2 ^ added.number) ++ be 1 set.mask ++ be 1 moved
  | .shutdownClear cleared => be 1 cleared.mask
  | .timeSet value step => be 4 value ++ beOpt 4 step ++ mark step.isSome
  | .pageBad page good => be 1 page.val ++ be 1 good
  | .startUp kind status latch erased bad voided dropped =>
    be 1 kind.code ++ be 1 status.code ++ be 1 latch.mask ++ be 1 erased ++ be 1 bad ++ be 1 voided
      ++ be 1 dropped

/-- The payload: the bytes it leaves unused hold 0 (section 11.5). -/
def Payload.bytes (p : Payload) : List Byte := (p.used ++ List.replicate 14 0).take 14

/-- Bytes 4 to 29 of an entry (R196). -/
def Entry.middle (e : Entry) : List Byte :=
  be 1 e.payload.code ++ beOpt 1 e.lost ++ be 4 e.time ++ be 4 e.ref ++ be 2 e.driver
    ++ e.payload.bytes

/-- The 32 bytes of an entry, with its check (R196). -/
def Entry.bytes (e : Entry) : List Byte :=
  let covered := be 4 e.seq ++ e.middle
  covered ++ be 2 (crc16 covered)

/-! ### Frames (R194) -/

def Readout.bytes (r : Readout) : List Byte := be 2 r.net ++ be 2 r.gross ++ beTemp r.average

/-- Margins: DAILY, ROLLING, SHIFT, as REFUSED HELD carries them. That a SHIFT margin that is absent is sent as 0 there
is the model's choice (log entry 24). -/
def Margins.bytes (m : Margins) : List Byte :=
  beInt 2 m.daily ++ beInt 2 m.rolling ++ beInt 4 (m.shift.getD 0)

/-- Margins that may lack SHIFT (log entry 24). -/
def Margins.bytesMarked (m : Margins) : List Byte :=
  beInt 2 m.daily ++ beInt 2 m.rolling ++ bePresent 4 m.shift

def PaperLine.bytes (x : PaperLine) : List Byte :=
  be 1 x.product ++ x.name.toArray.toList ++ be 2 x.un ++ be 1 x.cls ++ be 1 x.division
    ++ be 1 x.packing.code ++ be 1 (compMask x.comps) ++ be 4 x.net ++ be 4 x.gross
    ++ beTemp x.average

/-- The paper and its lines (section 11.2). -/
def Paper.bytes (p : Paper) : List Byte :=
  be 4 p.number ++ be 1 p.version ++ be 4 p.issued ++ mark p.provisional ++ be 1 p.lines.length
    ++ p.lines.flatMap PaperLine.bytes

/-- The arm field of a compartment (R23): the bay, and 0 for arm A or 1 for arm B. That a compartment with no arm is
sent as bay 0 with an arm byte 0 is the model's choice (log entry 24). -/
def beArm : Option ArmRef → List Byte
  | none => be 1 0 ++ be 1 0
  | some x => bayByte x.bay ++ be 1 (armCode x.arm)

/-- One compartment of DELIVERY_READ (R23), its readouts left out where the request does not take them (log entry
27). The widths are those of BOOK's body and of a COMPARTMENT entry, by the model's choice (log entry 24). -/
def CompView.bytes (c : CompView) : List Byte :=
  be 1 c.index ++ be 1 c.product ++ be 2 c.planned ++ be 2 c.capacity ++ be 1 c.last
    ++ mark c.purge ++ be 1 c.state.code ++ beArm c.arm ++ be 2 c.flags.mask
    ++ match c.readout with
      | none => []
      | some r => r.bytes

/-- DELIVERY_READ's body (R23). That a count byte stands before the compartments, that an absent supervisor is sent
as 0, and that an absent paper is its number, version and mark at 0, is the model's choice (log entry 24). -/
def DeliveryView.bytes (v : DeliveryView) : List Byte :=
  beSlot (some v.slot) ++ be 1 v.state.code ++ beOpt 2 v.driver ++ be 2 v.vehicle ++ be 2 v.driving
    ++ be 2 v.duty ++ beBay v.bay ++ be 4 v.deadline ++ beOpt 4 v.arrival ++ beOpt 4 v.claim
    ++ be 1 v.holds.mask ++ be 1 v.overrides.mask ++ beOpt 2 v.supervisor ++ mark v.owned
    ++ beOpt 4 (v.paper.map fun x => x.1) ++ beOpt 1 (v.paper.map fun x => x.2.1)
    ++ mark (v.paper.any fun x => x.2.2) ++ be 1 v.comps.length
    ++ v.comps.flatMap CompView.bytes

def dayBytes (x : DayEntry) : List Byte := be 2 x.day ++ be 2 x.driving ++ be 2 x.duty

/-- A bound delivery's slot and reference. That the reference is 0 where none is bound is the model's choice (log
entry 24). -/
def beBound (x : Option (SlotNo × Nat)) : List Byte :=
  beSlot (x.map Prod.fst) ++ beOpt 4 (x.map Prod.snd)

/-- DRIVER_READ's body (R111). That a slot's validity is a mark after its three numbers, that the figures D0, R
and S are left out while terminal time is UNSET, that D0 and R are two bytes each and S four, and that a mark follows
S, is the model's choice (log entry 24): section 11.5 gives D0 and R two bytes and chapter 11 gives S no width. -/
def DriverView.bytes (v : DriverView) : List Byte :=
  be 2 v.number ++ be 2 v.expiry ++ beOpt 4 v.shiftStart
    ++ v.ring.flatMap (fun x => dayBytes x.1 ++ mark x.2) ++ beBound v.bound ++ mark v.owned
    ++ match v.figures with
      | none => []
      | some (d0, r, s) => be 2 d0 ++ be 2 r ++ bePresent 4 (s.map fun n => (n : Int))

def pointBytes (x : CorrPoint) : List Byte := beInt 2 x.temp ++ be 3 x.factor

def Product.bytes (e : Product) : List Byte :=
  be 1 e.state.code ++ e.name.toArray.toList ++ be 2 e.un ++ be 1 e.cls ++ be 1 e.division
    ++ be 1 e.packing.code ++ be 1 e.flash.code ++ be 1 e.points.length
    ++ e.points.flatMap pointBytes

/-- The polled-bays mask: bit b for bay b (section 11.3). -/
def polledMask (v : Vector Bool 12) : Nat :=
  ((List.finRange 12).map fun b => bit (v.get b) (b.val + 1)).sum

def Settings.bytes (s : Settings) : List Byte :=
  be 2 s.daily ++ be 2 s.rolling ++ be 2 s.shift ++ be 2 s.validity ++ be 2 s.allowance
    ++ be 2 s.flowing ++ be 2 s.permit ++ be 1 s.settle ++ be 2 (polledMask s.polled)

/-- The kind of an orphan's deadline in BAY_READ (R62, R77). Neither R77 nor chapter 11 numbers the kinds: the codes 1
to 4 are the model's choice (log entry 24). -/
def DeadlineKind.code : DeadlineKind → Nat
  | .permitWindow => 1
  | .flowingLimit => 2
  | .settleInterval => 3
  | .stopDeadline => 4

/-- A deadline on the elapsed-time counter: kind and microseconds, 0 where absent (log entry 24). -/
def beDeadline : Option Deadline → List Byte
  | none => be 1 0 ++ be 8 0
  | some d => be 1 d.kind.code ++ be 8 d.expires

/-- The state of an orphan in BAY_READ (R62, R77). That it has the code of the compartment state of that name (section
11.1) is the model's choice (log entry 24). -/
def OrphanState.code : OrphanState → Nat
  | .stopping => 4
  | .interrupted => 7

/-- An orphan in BAY_READ, in the order of R62 (R77). That L is three bytes, A and S six and G four is the model's
choice (log entry 24). -/
def Orphan.bytes (o : Orphan) : List Byte :=
  be 4 o.ref ++ be 1 o.index ++ be 1 o.product ++ be 2 o.planned ++ be 2 o.capacity
    ++ be 1 o.state.code ++ beDeadline o.deadline ++ be 3 o.acc.L ++ be 6 o.acc.A ++ be 4 o.acc.G
    ++ beInt 6 o.acc.S ++ be 2 o.acc.flags.mask

/-- One arm of BAY_READ (R77). That a byte 0, 1 or 2 before it tells which of the three it is, and that a compartment
reference is its slot, then the delivery reference, the index and the state, is the model's choice (log entry 24). -/
def ArmView.bytes : ArmView → List Byte
  | .free => be 1 0
  | .compartment i ref index state =>
    be 1 1 ++ beSlot (some i) ++ be 4 ref ++ be 1 index ++ be 1 state.code
  | .orphan o r => be 1 2 ++ o.bytes ++ r.bytes

/-- A message of an outbox: its kind as R195 numbers it, and its arm. That a message with no arm has an arm byte 0
is the model's choice (log entry 24). -/
def MessageView.bytes : MessageView → List Byte
  | .permit x => be 1 0x02 ++ be 1 (armCode x)
  | .stop x => be 1 0x03 ++ be 1 (armCode x)
  | .verdict x => be 1 0x04 ++ be 1 ((x.map armCode).getD 0)
  | .dismiss => be 1 0x05 ++ be 1 0

/-- BAY_READ's body (R77). That presence is one byte, 1 for POLLED and 0 for NOT_POLLED, that the missed count is one
byte and the check-error count and missed total are two each, that each arm's availability mark follows that arm, and
that a count byte stands before the messages of the outbox, is the model's choice (log entry 24). -/
def BayView.bytes (v : BayView) : List Byte :=
  mark v.polled ++ be 1 v.link.code ++ be 1 v.missed ++ beBound v.bound ++ v.armA.bytes
    ++ mark v.availableA ++ v.armB.bytes ++ mark v.availableB ++ be 1 v.outbox.length
    ++ v.outbox.flatMap MessageView.bytes ++ be 2 v.checkErrors ++ be 2 v.missedTotal

/-- An arm's condition in BAY_READ's summary (R77). That it has the codes that section 11.5 gives a log entry's arm
condition is the model's choice (log entry 24). -/
def ArmCond.code : ArmCond → Nat
  | .free => 0
  | .compartment _ => 1
  | .orphan _ _ => 2

/-- One bay of BAY_READ's summary (R77). The presence byte, 1 for POLLED and 0 for NOT_POLLED, the codes of an arm's
condition, and the reference 0 of a bay bound to nothing, are the model's choice (log entry 24). -/
def BaySummary.bytes (v : BaySummary) : List Byte :=
  mark v.polled ++ be 1 v.link.code ++ beOpt 4 v.bound ++ be 1 v.armA.code ++ be 1 v.armB.code

/-- One code of PRODUCT_READ's summary (R35). That the in-use count is one byte is the model's choice (log entry
24). -/
def ProductSummary.bytes (v : ProductSummary) : List Byte :=
  be 1 v.state.code ++ be 1 v.flash.code ++ be 2 v.un ++ be 1 v.inUse

/-- One port's figures (R178). That the error count is two bytes, the requests waiting and the refusal records one
each, and the deferred entries a count byte and then one byte for each tag, in the order of their acceptance, is the
model's choice (log entry 24). -/
def PortFigures.bytes (v : PortFigures) : List Byte :=
  be 2 v.errors ++ be 1 v.waiting ++ be 1 v.records ++ be 1 v.tags.length
    ++ v.tags.flatMap (be 1)

/-- STATUS's body, its groups in the order of R178. Choices of the model (log entry 24): two bytes 0 stand for the day
number while terminal time is UNSET; the level of the shutdown input is one byte, 1 where it is asserted and 0 where it
is not; the deliveries in each state are counted in the order of the state codes, one byte a state; the widths of the
other counts; a bay's presence is one byte, 1 for POLLED and 0 for NOT_POLLED, before its link state; and the figures
of the office port come before those of the gate port. -/
def StatusView.bytes (v : StatusView) : List Byte :=
  be 1 v.lastStart.code ++ be 1 v.store.code ++ beOpt 4 v.time ++ beOpt 2 v.day ++ be 1 v.latch.mask
    ++ mark v.input ++ be 1 v.freeSlots ++ v.inState.flatMap (be 1) ++ be 1 v.freeDrivers
    ++ be 2 v.freeSpace ++ be 1 v.queued ++ be 1 v.lost ++ be 4 v.lastWritten ++ be 4 v.exportMark
    ++ be 1 v.engine.code ++ be 1 v.setSize ++ be 4 v.paperCounter
    ++ v.bays.flatMap (fun x => mark x.1 ++ be 1 x.2.code) ++ v.office.bytes ++ v.gate.bytes

def PaperView.bytes (v : PaperView) : List Byte :=
  be 4 v.ref ++ beOpt 2 v.driver ++ be 2 v.vehicle ++ be 1 v.state.code ++ be 1 v.holds.mask
    ++ v.paper.bytes

/-- The body of a DONE: the fields that the owning rule lists, in its order (R194). Choices of the model (log
entry 24): PRODUCT_DEFINE's entry as stored is preceded by its product code; the nine marks of SETTINGS_WRITE
follow the nine values; DRIVER_REGISTER's entry as it now stands is DRIVER_READ's body, before the created
mark; the provisional mark that DELIVERY_READ shows (R129) follows the version; the in-use counts of PRODUCT_STATE
and PRODUCT_READ are one byte each (R33, R35); HOURS_QUERY's bound delivery is reference 0 and state 0 where the
driver is not bound (R120); DETACH's paper is number 0 and version 0 where none is issued; in the DONEs of ARRIVE
and HOURS_QUERY D0 and R are two bytes each, S is four, and the margins are as wide as in REFUSED HELD (R114, R120);
and HOURS_QUERY's S and SHIFT margin are each followed by a mark that it is present, and ENDORSEMENT is a mark. -/
def DoneBody.bytes : DoneBody → List Byte
  | .booked slot deadline => beSlot (some slot) ++ be 4 deadline
  | .amended v => v.bytes
  | .detached state issued =>
    be 1 state.code ++ beOpt 4 (issued.map Prod.fst) ++ beOpt 1 (issued.map Prod.snd)
  | .delivery v => v.bytes
  | .registered v created => v.bytes ++ mark created
  | .removed => []
  | .driver v => v.bytes
  | .product code e => be 1 code ++ e.bytes
  | .productState state inUse => be 1 state.code ++ be 1 inUse
  | .productRead code e comps orphans => be 1 code ++ e.bytes ++ be 1 comps ++ be 1 orphans
  | .productSummary all => all.flatMap ProductSummary.bytes
  | .settingsWritten stored marks => stored.bytes ++ marks.flatMap mark
  | .settings stored => stored.bytes
  | .timeSet time day => be 4 time ++ be 2 day
  | .cleared causes => be 1 causes.mask
  | .log first es last mk =>
    be 4 first ++ be 1 es.length ++ be 4 last ++ be 4 mk
      ++ es.flatMap fun e => e.bytes.drop 4
  | .acked mk last => be 4 mk ++ be 4 last
  | .bay v => v.bytes
  | .baySummary all => all.flatMap BaySummary.bytes
  | .restart kind => be 1 kind.code
  | .status v => v.bytes
  | .arrived arrival start d0 r s m =>
    be 4 arrival ++ be 4 start ++ be 2 d0 ++ be 2 r ++ be 4 s ++ m.bytes
  | .hours d0 r s bound m expiry ok =>
    be 2 d0 ++ be 2 r ++ bePresent 4 (s.map fun n => (n : Int)) ++ beOpt 4 (bound.map Prod.fst)
      ++ beOpt 1 (bound.map fun x => x.2.code) ++ m.bytesMarked ++ be 2 expiry ++ mark ok
  | .paper v => v.bytes

/-- The kind of a frame: DONE 2, DEFERRED 3, RETRY 4, REFUSED 5, REPLY 6 (R194). -/
def FrameBody.kind : FrameBody → Nat
  | .done _ => 2
  | .deferredEntry _ => 3
  | .deferredPage _ => 3
  | .retry _ => 4
  | .refused _ => 5
  | .refusedHeld .. => 5
  | .replyDone => 6
  | .replyOverride .. => 6
  | .replyReleased .. => 6
  | .replyPage .. => 6

/-- The body of a frame (section 11.2). -/
def FrameBody.bytes : FrameBody → List Byte
  | .done b => b.bytes
  | .deferredEntry seq => be 4 seq
  | .deferredPage page => be 1 page.val
  | .retry r => be 1 r.code
  | .refused r => be 1 r.code
  | .refusedHeld holds raised m number version =>
    be 1 0x0E ++ be 1 holds.mask ++ be 1 raised.mask ++ m.bytes ++ be 4 number ++ be 1 version
  | .replyDone => be 1 0x01
  | .replyOverride set supervisor => be 1 0x01 ++ be 1 set.mask ++ be 2 supervisor
  | .replyReleased ref driver vehicle overrides seq paper =>
    be 1 0x02 ++ be 4 ref ++ beOpt 2 driver ++ be 2 vehicle ++ be 1 overrides.mask ++ be 4 seq
      ++ match paper with
        | none => []
        | some p => p.bytes
  | .replyPage outcome page => be 1 outcome.code ++ be 1 page.val

/-- The bytes of a frame from its length to the last body byte, which its check covers (R194). -/
def OutFrame.covered (f : OutFrame) : List Byte :=
  be 1 (f.body.bytes.length + 2) ++ be 1 (f.body.kind * 16 + f.tag) ++ be 1 f.code ++ f.body.bytes

/-- The bytes of a frame on the line (R194). -/
def OutFrame.wire (f : OutFrame) : List Byte :=
  startByte :: f.covered ++ be 2 (crc16 f.covered)

end Sys2Proof.Machine
end

