-- ==== Sys2Proof/Machine/RackLink.lean ====
section
/-! DEFINITION. The rack link: rounds, visits, exchanges, misses, silence and return, the taking of
answers, ALL_STOP, and a change of the polled set (R56 to R79). -/

namespace Sys2Proof.Machine

/-- The POLLED bays in ascending order (R66). -/
def State.polledBays (s : State) : List BayNo := (List.finRange 12).filter s.polled

/-- A new round begins when no visit is in progress and none is left; with the latch set it owes an
ALL_STOP (R66, R76). -/
def State.settleRound (s : State) : State :=
  if s.rack.visit.isNone && s.rack.roundLeft.isEmpty then
    { s with rack := { s.rack with
        roundLeft := s.polledBays
        roundStop := s.latch.isSet && !s.polledBays.isEmpty } }
  else s

/-- The end of a visit (R68). -/
def State.endVisit (s : State) : State :=
  { s with rack := { s.rack with visit := none, exchange := none } }.settleRound

/-- The visit in which the next exchange falls: the one in progress, or the next of the round (R66). -/
def Rack.nextVisit (r : Rack) : Option (Visit × List BayNo) :=
  match r.visit with
  | some v => some (v, r.roundLeft)
  | none =>
    match r.roundLeft with
    | [] => none
    | b :: rest => some (⟨b, 0, false⟩, rest)

/-- The message of an exchange: the first of the outbox, or none for a POLL (R67). -/
def BayRecord.nextMessage (r : BayRecord) : Option Message :=
  if r.link = .silent then none else r.outbox.head?

/-- Begin an exchange: the message goes out and the answer window opens at its end (R67). -/
def State.beginExchange (s : State) : State :=
  match s.rack.nextVisit with
  | none => s
  | some (v, left) =>
    let sent := (s.bay v.bay).nextMessage
    let words := messageWords v.bay sent
    { s with rack := { s.rack with
        roundLeft := left
        visit := some v
        exchange := some
          ⟨sent, s.elapsed + Config.wordTime * words.length + Config.answerWindow⟩
        out := words } }

/-- One more miss in a count that stops at 65,535 (R60). -/
def countUp (n : Nat) : Nat := min 65535 (n + 1)

/-- The bay record with a miss counted (R69). -/
def BayRecord.countMiss (r : BayRecord) (checkError : Bool) : BayRecord :=
  { r with
    missedTotal := countUp r.missedTotal
    checkErrors := if checkError then countUp r.checkErrors else r.checkErrors }

/-- The silence of a bay (R71). -/
def State.silence (s : State) (b : BayNo) : State :=
  let r := s.bay b
  let silent := s.setBay b { r with link := .silent, missed := 3, outbox := [] }
  ((silent.interruptArm b .A).interruptArm b .B).offer (s.boundRef b) 0
    (.baySilent b r.armA.cond r.armB.cond)

/-- A miss at a bay (R69, R70). -/
def State.miss (s : State) (b : BayNo) (checkError : Bool) : State :=
  let r := (s.bay b).countMiss checkError
  match r.link with
  | .online => s.setBay b { r with link := .suspect, missed := 1 }
  | .suspect =>
    if r.missed ≤ 1 then s.setBay b { r with missed := 2 } else (s.setBay b r).silence b
  | .silent => s.setBay b { r with missed := 3 }

/-- Whether an arm refers to an INTERRUPTED compartment or holds an orphan (R72, step 3). -/
def State.awaitsReturn (s : State) (b : BayNo) (x : Arm) : Bool :=
  match s.arm b x with
  | .free => false
  | .compartment i index =>
    match s.comp i index with
    | none => false
    | some c => c.state == .interrupted
  | .orphan _ => true

/-- A bay ONLINE with no miss (R70). -/
def State.setOnline (s : State) (b : BayNo) : State :=
  s.setBay b { s.bay b with link := .online, missed := 0 }

/-- Steps 1 to 4 of a bay's return (R72). That arm A's STOP joins the outbox before arm B's is the model's choice
(log entry 37). -/
def State.bayReturn (s : State) (b : BayNo) : State :=
  let online := s.setOnline b
  let back := online.offer (s.boundRef b) 0 (.bayBack b (s.bay b).missedTotal)
  let stops := (back.stopIf (s.awaitsReturn b .A) b .A).stopIf (s.awaitsReturn b .B) b .B
  if (s.bay b).bound.isNone then stops.queueDismiss b else stops

/-- The link state after a valid answer (R70, R72). -/
def State.answered (s : State) (b : BayNo) : State :=
  if (s.bay b).link = .silent then s.bayReturn b else s.setOnline b

/-- The bay record once the message of an exchange has been answered: the message leaves the outbox, if it is
still there (R63, R73), and with a DISMISS the bay's note of the cancelled delivery is cleared (log entry 44). -/
def BayRecord.without (r : BayRecord) (m : Message) : BayRecord :=
  { r with
    outbox := r.outbox.erase m
    withdrawn := if m = .dismiss then none else r.withdrawn }

/-- The exchange's message leaves the outbox (R63, R73). -/
def State.removeSent (s : State) (b : BayNo) : Option Message → State
  | none => s
  | some m => s.setBay b ((s.bay b).without m)

/-- Whether an attention answer is taken as a request (R74). -/
def BayRecord.takes (r : BayRecord) (claim : Bool) : Bool :=
  !r.outbox.any Message.isVerdict && !(claim && r.outbox.any Message.isDismiss)

/-- Steps 2 and 3 of taking a valid answer (R73, R74). -/
def State.takeAnswer (s : State) (b : BayNo) : Answer → State
  | .status reports => reports.foldl (fun t r => t.report b r) s
  | .claim ref => if (s.bay b).takes true then s.takeClaim b ref else s
  | .start x index product => if (s.bay b).takes false then s.takeStart b x index product else s
  | .finish => if (s.bay b).takes false then s.takeFinish b else s
  | .fault code => if (s.bay b).takes false then s.takeFault b code else s

/-- A valid answer of bay `b` to an exchange that sent `sent` (R70 to R74). -/
def State.validAnswer (s : State) (b : BayNo) (sent : Option Message) (a : Answer) : State :=
  ((s.answered b).removeSent b sent).takeAnswer b a

/-- The visit after an exchange that ended in a valid answer (R68). -/
def State.afterExchange (s : State) (v : Visit) : State :=
  if (s.bay v.bay).outbox.isEmpty || 3 ≤ v.exchanges + 1 then s.endVisit
  else { s with rack := { s.rack with
      visit := some { v with exchanges := v.exchanges + 1 }
      exchange := none } }

/-- The end of an exchange by an answer (R66, R69). -/
def State.endByAnswer (s : State) (v : Visit) (e : Exchange) (words : List RxWord) : State :=
  if v.dropped then s.endVisit
  else
    match decodeAnswer v.bay words with
    | none => (s.miss v.bay true).endVisit
    | some a => (s.validAnswer v.bay e.sent a).afterExchange v

/-- The end of an exchange by the expiry of its window (R67, R69). In the visit of a bay that has left the polled set
the expiry counts no miss: R66 says so of an answer and not of its absence, and this is the model's choice (log entry
41). -/
def State.endByWindow (s : State) (v : Visit) : State :=
  if v.dropped then s.endVisit else (s.miss v.bay false).endVisit

/-- Send ALL_STOP: first for a latch event, else for the round (R76). -/
def State.sendAllStop (s : State) : State :=
  if s.rack.latchStop then
    { s with rack := { s.rack with latchStop := false, out := allStopWords } }
  else { s with rack := { s.rack with roundStop := false, out := allStopWords } }

/-- The record of a bay that leaves the polled set (R78). -/
def BayRecord.unpolled (r : BayRecord) : BayRecord := { r with outbox := [], link := .silent, missed := 3 }

/-- The visit of a bay that leaves the polled set: it ends at once, or after the exchange in progress,
whose answer is then discarded (R66, R68). -/
def Rack.dropVisit (r : Rack) (stays : BayNo → Bool) : Option Visit :=
  match r.visit with
  | none => none
  | some v =>
    if stays v.bay then some v
    else if r.exchange.isSome then some { v with dropped := true }
    else none

/-- The settings written, with the changes of presence that follow (R66, R78, R185). -/
def State.writeSettings (s : State) (new : Settings) : State :=
  State.settleRound
    { s with
      settings := new
      bays := Vector.ofFn fun b =>
        if s.polled b && !new.polled.get b then (s.bay b).unpolled else s.bay b
      rack := { s.rack with
        roundLeft := s.rack.roundLeft.filter new.polled.get
        visit := s.rack.dropVisit new.polled.get } }

end Sys2Proof.Machine
end

