-- ==== Sys2Proof/Machine/StartUp.lean ====
section
/-! DEFINITION. Starts of either kind, the steps of start-up, the reset input, and the loss and return of
power (R24, R60, R165, R175, R187 to R193). -/

namespace Sys2Proof.Machine

/-! ### The beginning of a start (R189) -/

/-- The delivery after a warm start: active compartments INTERRUPTED (R24). -/
def Delivery.restarted (d : Delivery) : Delivery :=
  { d with comps := d.comps.map Compartment.interrupt }

/-- An arm record after a warm start: a STOPPING orphan INTERRUPTED (R62). -/
def ArmRecord.restarted : ArmRecord → ArmRecord
  | .orphan o => .orphan o.interrupt
  | x => x

/-- A bay record after a warm start (R60). -/
def BayRecord.restarted (r : BayRecord) : BayRecord :=
  ⟨.silent, 3, r.bound, r.withdrawn, r.armA.restarted, r.armB.restarted, [], 0, 0⟩

/-- The store after a start of either kind: a write in progress is cut short, and what it left is for
the scan to find (R165). -/
def LogStore.cut (l : LogStore) : LogStore :=
  { l with
    writing := false
    cutWrite := if l.writing then l.queue.head? else l.cutWrite
    engine := Engine.idle }

/-- The latch with INPUT added where the shutdown input is asserted at a sampling (R99). -/
def Latch.sample (l : Latch) (input : Bool) : Latch := if input then l.add .input else l

/-- What both kinds of start do: the clock, the ports, the rack link, the log store, and the record of
the kind (R175, R183, R189). -/
def State.restartCommon (s : State) (kind : StartKind) : State :=
  { s with
    lastStart := kind
    startErased := 0
    startBad := 0
    elapsed := 0
    rack := Rack.quiet
    log := s.log.cut
    office := PortState.started
    gate := PortState.started }

/-- The state that a warm start takes from retained memory (R189). -/
def State.warmState (s : State) : State :=
  { s.restartCommon .warm with
    dispatch := mapTable (Option.map Delivery.restarted) s.dispatch
    bays := mapTable BayRecord.restarted s.bays
    latch := s.latch.sample s.shutdownInput }

/-- The contents that a cold start writes (R25, R189). -/
def State.coldState (s : State) : State :=
  let common := s.restartCommon .cold
  { common with
    checkWordValid := true
    time := none
    settings := Settings.cold
    dispatch := Vector.replicate 16 none
    bays := Vector.replicate 12 BayRecord.cold
    latch := Latch.sample ⟨false, false, true, false⟩ s.shutdownInput
    products := Vector.replicate 16 Product.undefined
    drivers := []
    log := { common.log with queue := [], lostCount := 0 } }

/-! ### Step 2 (R190) -/

/-- The pages that the marker area shows RECLAIMING, in ascending number (R190). -/
def LogStore.reclaiming (l : LogStore) : List PageNo :=
  (List.finRange 64).filter fun p => (l.page p).state == .reclaiming

/-- The later of two candidates for the tail, by the numbers of their entries (R190). -/
def laterPage : Option (PageNo × Nat) → PageNo × Nat → Option (PageNo × Nat)
  | none, y => some y
  | some x, y => if atOrBefore x.2 y.2 then some y else some x

/-- The FULL page that holds the latest entry, with that entry's number (R190). -/
def LogStore.latestFull (l : LogStore) : Option (PageNo × Nat) :=
  ((List.finRange 64).filterMap fun p =>
    if (l.page p).state = .full then (l.page p).lastEntry.map fun e => (p, e.seq) else none).foldl
      laterPage none

/-- The lowest FREE page becomes FILLING in a store whose FULL pages hold no entry, or which has none: R190 names
no page then, and this is the model's choice (log entry 21). -/
def LogStore.fillFirst (l : LogStore) : LogStore :=
  match (List.finRange 64).find? fun p => (l.page p).state == .free with
  | none => l
  | some p => l.setPage p { l.page p with state := .filling }

/-- The end of step 2: with no page FILLING, the page after the tail becomes FILLING if it is FREE (R190). Where
no FULL page holds an entry there is no tail to find, and the lowest FREE page is filled (log entry 21). -/
def LogStore.findFilling (l : LogStore) : LogStore :=
  match l.filling with
  | some _ => l
  | none =>
    match l.latestFull with
    | none => l.fillFirst
    | some x => l.fillNext x.1

/-- Enter step 2, or pass on to step 3 where no page is left RECLAIMING (R190). -/
def State.enterStep2 (s : State) : State :=
  if s.log.reclaiming.isEmpty then { s with phase := .step3, log := s.log.findFilling }
  else { s with phase := .step2 }

/-- The end of one erase of step 2 (R190). -/
def State.startErase (s : State) (verified : Bool) : State :=
  match s.log.reclaiming with
  | [] => s
  | p :: _ =>
    State.enterStep2
      (if verified then
        { s with log := s.log.setPage p Page.free, startErased := s.startErased + 1 }
      else { s with log := s.log.setPage p ⟨.bad, []⟩, startBad := s.startBad + 1 })

/-! ### A start (R188) -/

/-- Begin start-up: step 1 lasts while the reset input is asserted (R188). -/
def State.enterStep1 (s : State) : State :=
  if s.resetInput then { s with phase := .step1 } else s.enterStep2

/-- The beginning of a start (R188, R189). -/
def State.begin (s : State) : StartKind → State
  | .warm => s.warmState.enterStep1
  | .cold => s.coldState.enterStep1

/-! ### Step 3 (R191) -/

/-- The scan's test of the 32 bytes of a slot: all FFh is an empty slot, and a slot whose bytes 0 to 29 do not
give the check stored in bytes 30 and 31 is void (R196). -/
def slotTest (bytes : List Byte) : CutWrite :=
  if bytes.all fun b => b == 0xFF#8 then .blank
  else if crc16 (bytes.take 30) = number (bytes.drop 30) then .whole
  else .torn

/-- What the slot of a cut write gives when it is scanned (R191); a slot with a good check holds the entry
that was being written there (log entry 12). -/
def cutSlot (e : Entry) : CutWrite → Option PageSlot
  | .blank => none
  | .torn => some .void
  | .whole => some (.entry e)

/-- The slot that the scan finds used beyond those of the record, if any (R191). -/
def LogStore.foundSlot (l : LogStore) (found : CutWrite) : Option PageSlot :=
  match l.cutWrite with
  | none => none
  | some e => cutSlot e found

/-- The page scanned with a slot found used (R191). -/
def LogStore.scanned (l : LogStore) (slot : Option PageSlot) (p : PageNo) : LogStore :=
  (match slot with
    | none => l
    | some u => l.setPage p ⟨.filling, (l.page p).used ++ [u]⟩).rollOver p

/-- The page before `p` in ring order, BAD pages passed over (R146). -/
def LogStore.pageBefore (l : LogStore) (p : PageNo) : Option PageNo :=
  ((ringAfter p).reverse.drop 1).find? fun q => (l.page q).state != .bad

/-- The number of the latest entry of the store, or the export mark in a store that holds none (R191, log
entry 22). -/
def LogStore.latestNumber (l : LogStore) : Nat :=
  ((l.entries.map fun e => ((0 : PageNo), e.seq)).foldl laterPage none).elim l.exportMark Prod.snd

/-- The last entry of the page before the one scanned, if that page is FULL (R191). -/
def LogStore.entryBefore (l : LogStore) (p : PageNo) : Option Entry :=
  match l.pageBefore p with
  | none => none
  | some q => if (l.page q).state = .full then (l.page q).lastEntry else none

/-- The last written number that the scan fixes, `p` being the page scanned; with no page to scan it is the number
of the latest entry on the tail that step 2 found (R191). -/
def LogStore.lastFound (l : LogStore) : Option PageNo → Nat
  | none => l.latestFull.elim l.latestNumber Prod.snd
  | some p =>
    match (l.page p).lastEntry, l.entryBefore p with
    | some e, _ => e.seq
    | none, some e => e.seq
    | none, none => l.latestNumber

/-- The store after the scan, its last written number fixed (R191). -/
def LogStore.scan (l : LogStore) (found : CutWrite) : LogStore :=
  let slot := l.foundSlot found
  let after := match l.filling with
    | none => l
    | some p => l.scanned slot p
  { after with
    cutWrite := none
    everWritten := l.everWritten || slot.any (· != .void)
    lastWritten := after.lastFound l.filling }

/-- Drop the queued entries that the scan found written, from the front, and take their completions
(R24, R191). -/
def State.dropWritten : List Entry → State → State
  | [], s => s
  | e :: rest, s =>
    if atOrBefore e.seq s.log.lastWritten then
      State.dropWritten rest ({ s with log := { s.log with queue := rest } }.complete e)
    else s

/-- A dropped EXPIRE entry is withdrawn: its delivery returns to BOOKED (R191). -/
def State.withdrawExpiry (s : State) (e : Entry) : State :=
  match e.payload, s.find e.ref with
  | .expire .., some (i, d) =>
    if d.state = .expiring then s.setSlot i (some { d with state := .booked }) else s
  | _, _ => s

/-- Whether the queue needs more slots than the FILLING page and the usable FREE pages have (R191). -/
def LogStore.overdrawn (l : LogStore) : Bool :=
  l.emptySlots + Config.pageSlots * l.usablePages < l.queue.length

/-- Drop the entry at the back of an overdrawn queue (R191). That an EXPIRE entry so dropped raises the lost
count like any other is the model's choice (log entry 38). -/
def State.dropBack (s : State) : State :=
  match s.log.queue.getLast? with
  | none => s
  | some e =>
    if s.log.overdrawn then
      { s with log := { s.log with queue := s.log.queue.dropLast }.lose }.withdrawExpiry e
    else s

/-- The next number after the scan (R191). -/
def LogStore.number (l : LogStore) : LogStore :=
  { l with nextNumber := nextSeq ((l.queue.getLast?.map Entry.seq).getD l.lastWritten) }

/-- Step 3 of start-up (R191). -/
def State.scanStep (s : State) (found : CutWrite) : State :=
  let scanned := { s with log := s.log.scan found }
  let dropped := (State.dropWritten scanned.log.queue scanned).dropBack
  { dropped with log := dropped.log.number }

/-! ### Steps 4 to 6 (R192, R193) -/

/-- The store status by the pages that are not BAD (R192). -/
def statusOf (good : Nat) : StoreStatus :=
  if 64 ≤ good then .ready else if 4 ≤ good then .degraded else .failed

/-- Step 4: the store status, and the cause STORE at FAILED (R192). -/
def State.decideStatus (s : State) : State :=
  let status := statusOf s.log.goodPages
  { s with
    log := { s.log with status := status }
    latch := if status = .failed then s.latch.add .store else s.latch }

/-- Step 5: the second sampling, and the START_UP entry (R193, log entry 20). -/
def State.logStart (s : State) (voided dropped : Nat) : State :=
  let set := s.latch.sample s.shutdownInput
  { s with latch := set }.offer 0 0
    (.startUp s.lastStart s.log.status set s.startErased s.startBad voided dropped)

/-- Step 6: the ports open, writes begin, and the first ring round begins (R79, R193). -/
def State.openPorts (s : State) : State :=
  State.settleRound (State.beginWrite { s with phase := .running })

/-- Whether the scan voids a slot. -/
def LogStore.voids (l : LogStore) (found : CutWrite) : Bool :=
  l.filling.isSome && l.foundSlot found == some .void

/-- The end of the scan: steps 3 to 6 of start-up (R191 to R193). -/
def State.scanEnd (s : State) (found : CutWrite) : State :=
  let after := s.scanStep found
  (after.decideStatus.logStart (s.log.voids found).toNat
    (s.log.queue.length - after.log.queue.length)).openPorts

/-! ### Power and reset (R187, R188) -/

/-- The part has power. -/
def State.powered (s : State) : Bool := s.phase != .unpowered

/-- A delivery whose session end issues a paper can be in progress (R187, log entry 14). -/
def State.issueInProgress (s : State) : Bool :=
  s.phase == .running && !s.log.papersExhausted
    && (List.finRange 16).any fun i => (s.slot i).any fun d => d.state == .atBay

/-- The marker area inside the end of the erase of the front page of the set, `f` giving that page's state: with
that page's mark alone, or also with the RECLAIMING mark of the page that the engine takes next in the same event
(R161, R163, R164). -/
def State.cutErase (s : State) (nextMarked : Bool) (f : LogStore → PageNo → LogStore) : LogStore :=
  match s.erasing, s.log.engine.set with
  | true, p :: rest =>
    if nextMarked then
      { s.log with pages := (State.takePages rest { s with log := f s.log p }).log.pages }
    else f s.log p
  | _, _ => s.log

/-- The medium after the scan has recorded what it found, and before retained memory follows (R187, R191). -/
def LogStore.scanRecorded (l : LogStore) (found : CutWrite) : LogStore :=
  let after := l.scan found
  { l with pages := after.pages, everWritten := after.everWritten, cutWrite := none }

/-- The log store after a cut: inside an event that writes both memories, what that event writes to the
marker area first stands, and retained memory is as before the event (R187, log entry 14). -/
def State.cutAt (s : State) : EventCut → LogStore
  | .betweenEvents => s.log
  | .inPaperIssue =>
    if s.issueInProgress then { s.log with paperCounter := s.log.paperCounter + 1 } else s.log
  | .inEraseFailure nextMarked => s.cutErase nextMarked fun l p => l.setPage p ⟨.bad, []⟩
  | .inEraseCompletion nextMarked => s.cutErase nextMarked LogStore.freePage
  | .inScan slot => if s.phase = .step3 then s.log.scanRecorded (slotTest slot) else s.log

/-- The loss of power (R187). -/
def State.losePower (s : State) (cut : EventCut) : State :=
  if s.powered then { s with phase := .unpowered, log := s.cutAt cut } else s

/-- The return of power: warm with a valid check word, else cold (R187, R188). -/
def State.regainPower (s : State) (backupFailed : Bool) : State :=
  if s.powered then s
  else if s.checkWordValid && !backupFailed then s.begin .warm
  else s.begin .cold

/-- The reset input becomes asserted: a warm start of a part that has power (R188). A reset inside an event is
the loss of power inside it, this assertion and the return of power, which leave the same (R187, log entry 14). -/
def State.assertReset (s : State) : State :=
  if s.resetInput then s
  else if s.powered then { s with resetInput := true }.begin .warm
  else { s with resetInput := true }

/-- The reset input becomes deasserted: step 1 gives way to step 2 (R188). -/
def State.deassertReset (s : State) : State :=
  let free := { s with resetInput := false }
  if s.phase = .step1 then free.enterStep2 else free

end Sys2Proof.Machine
end

