-- ==== Sys2Proof/Machine/Terminal.lean ====
section
/-! DEFINITION. The requests that settings, time base, loading control, start-up and the port controllers
own: SETTINGS_WRITE, SETTINGS_READ, TIME_SET, SHUTDOWN_CLEAR, RESTART and STATUS, with BAY_READ of the
rack link controller (R77, R101, R178, R181, R182, R185, R188). -/

namespace Sys2Proof.Machine

/-! ### SETTINGS_WRITE, SETTINGS_READ -/

/-- A value clamped to a range (R185). -/
def clampTo (lo hi n : Nat) : Nat := max lo (min hi n)

/-- The polled bays that a mask names; bits 0 and 13 to 15 are not read (R194). -/
def polledOf (m : Nat) : Vector Bool 12 := Vector.ofFn fun b => m.testBit (b.val + 1)

/-- The settings as a SETTINGS_WRITE stores them: each number clamped to its range (R184, R185). -/
def storedSettings (b : SettingsBody) : Settings where
  daily := clampTo 240 900 b.daily
  rolling := clampTo 1200 6000 b.rolling
  shift := clampTo 360 1080 b.shift
  validity := clampTo 60 4320 b.validity
  allowance := clampTo 0 500 b.allowance
  flowing := clampTo 300 3600 b.flowing
  permit := clampTo 60 900 b.permit
  settle := clampTo 1 10 b.settle
  polled := polledOf b.polled

/-- The marks of the values that were clamped, in the order of the settings; the polled set is never
clamped (R185). -/
def clampMarks (b : SettingsBody) : List Bool :=
  let x := storedSettings b
  [x.daily != b.daily, x.rolling != b.rolling, x.shift != b.shift, x.validity != b.validity,
    x.allowance != b.allowance, x.flowing != b.flowing, x.permit != b.permit, x.settle != b.settle,
    false]

/-- A bay leaving the polled set is bound or has an arm record that is not free (R185). -/
def State.leavingInUse (s : State) (polled : Vector Bool 12) : Bool :=
  (List.finRange 12).any fun b =>
    s.polled b && !polled.get b && ((s.bay b).bound.isSome || (s.bay b).holdsReferences)

/-- SETTINGS_WRITE (R185). -/
def State.settingsWrite (s : State) (b : SettingsBody) : State × FrameBody :=
  if s.leavingInUse (polledOf b.polled) then (s, .refused .inUse)
  else
    (s.writeSettings (storedSettings b), .done (.settingsWritten (storedSettings b) (clampMarks b)))

/-- SETTINGS_READ (R185). -/
def State.settingsRead (s : State) : State × FrameBody := (s, .done (.settings s.settings))

/-! ### Terminal time -/

/-- Terminal time becomes a value, and the deadlines that it meets or passes are reached (R181, R182). -/
def State.moveTime (s : State) (value : Nat) : State :=
  ({ s with time := some value }).reachDeadlines

/-- TIME_SET (R182, log entry 18). -/
def State.timeSet (s : State) (value : Nat) : State × FrameBody :=
  if value = 0 then (s, .refused .badField)
  else if s.time.any fun now => value < now then (s, .refused .backwards)
  else
    match s.log.requesterRefusal with
    | some r => (s, r)
    | none =>
      let logged := s.admitEntry 0 0 (.timeSet value (s.time.map fun now => value - now))
      (if s.time = some value then logged else logged.moveTime value,
        .done (.timeSet value (value / Config.daySeconds)))

/-- The advance of terminal time by one second: none while it is UNSET or at its end; deadlines are
reached only once the ports are open (R181). -/
def State.advanceTime (s : State) : State :=
  match s.time with
  | none => s
  | some now =>
    if now < Config.lastTime then
      if s.phase = .running then s.moveTime (now + 1) else { s with time := some (now + 1) }
    else s

/-! ### SHUTDOWN_CLEAR -/

/-- SHUTDOWN_CLEAR (R101, log entry 17). -/
def State.shutdownClear (s : State) : State × FrameBody :=
  if s.shutdownInput then (s, .refused .shutdownActive)
  else if s.latch.isSet then
    (({ s with
        latch := Latch.clear
        rack := { s.rack with latchStop := false, roundStop := false } }).offer 0 0
      (.shutdownClear s.latch), .done (.cleared s.latch))
  else (s, .done (.cleared s.latch))

/-! ### BAY_READ -/

/-- One arm as BAY_READ carries it (R77). -/
def State.armView (s : State) : ArmRecord → ArmView
  | .free => .free
  | .compartment i index =>
    .compartment i (((s.slot i).map Delivery.ref).getD 0) index
      (((s.comp i index).map Compartment.state).getD .planned)
  | .orphan o => .orphan o o.acc.readout

/-- One message of an outbox as BAY_READ carries it (R77). -/
def Message.view : Message → MessageView
  | .permit x _ _ _ _ => .permit x
  | .stop x => .stop x
  | .verdict _ x _ => .verdict x
  | .dismiss => .dismiss

/-- A bay's bound delivery: slot and reference (R77). -/
def State.boundView (s : State) (b : BayNo) : Option (SlotNo × Nat) :=
  match (s.bay b).bound with
  | none => none
  | some i => (s.slot i).map fun d => (i, d.ref)

/-- BAY_READ's body for a bay (R77). -/
def State.bayView (s : State) (b : BayNo) : BayView where
  polled := s.polled b
  link := (s.bay b).link
  missed := (s.bay b).missed
  bound := s.boundView b
  armA := s.armView (s.bay b).armA
  availableA := (s.bay b).available .A
  armB := s.armView (s.bay b).armB
  availableB := (s.bay b).available .B
  outbox := (s.bay b).outbox.map Message.view
  checkErrors := (s.bay b).checkErrors
  missedTotal := (s.bay b).missedTotal

/-- One line of BAY_READ's summary (R77). -/
def State.baySummary (s : State) (b : BayNo) : BaySummary where
  polled := s.polled b
  link := (s.bay b).link
  bound := (s.boundView b).map Prod.snd
  armA := (s.bay b).armA.cond
  armB := (s.bay b).armB.cond

/-- The readouts of the orphans of a bay, which may set LIMITED (R51, R77). -/
def State.orphanReadouts (s : State) (b : BayNo) : State :=
  (s.updOrphan b .A fun o => { o with acc := o.acc.afterReadouts }).updOrphan b .B
    fun o => { o with acc := o.acc.afterReadouts }

/-- BAY_READ (R77). -/
def State.bayRead (s : State) (n : Nat) : State × FrameBody :=
  if h : 1 ≤ n ∧ n ≤ 12 then
    let b : BayNo := ⟨n - 1, by omega⟩
    let read := s.orphanReadouts b
    (read, .done (.bay (read.bayView b)))
  else if n = 0 then (s, .done (.baySummary ((List.finRange 12).map s.baySummary)))
  else (s, .refused .badField)

/-! ### RESTART -/

/-- RESTART; the start itself begins when the DONE has been sent (R175, R188). -/
def State.restart (s : State) (kind : Nat) : State × FrameBody :=
  match startKindOf kind with
  | none => (s, .refused .badField)
  | some .warm => (s, .done (.restart .warm))
  | some .cold =>
    if s.freeSlots = 16 then (s, .done (.restart .cold)) else (s, .refused .inUse)

/-! ### STATUS -/

/-- The requests that wait in an input queue (R168). -/
def PortState.waiting (x : PortState) : Nat :=
  x.queue.countP fun q =>
    match q with
    | .request _ => true
    | .refusal _ _ => false

/-- The refusal records held (R168). -/
def PortState.records (x : PortState) : Nat := x.queue.length - x.waiting

/-- One port's figures (R178). That the tags of its deferred entries stand in the order in which their requests were
accepted is the model's choice (log entry 24). -/
def PortState.figures (x : PortState) : PortFigures :=
  ⟨x.errors, x.waiting, x.records, x.deferred.map Deferred.tag⟩

/-- The delivery states in the order of R2. -/
def DelState.all : List DelState :=
  [.booked, .arrived, .atBay, .loaded, .held, .releasing, .cancelling, .expiring]

/-- The number of deliveries in a state (R178). -/
def State.countIn (s : State) (x : DelState) : Nat :=
  (List.finRange 16).countP fun i => (s.slot i).any fun d => d.state == x

/-- STATUS's body (R178). -/
def State.statusView (s : State) : StatusView where
  lastStart := s.lastStart
  store := s.log.status
  time := s.time
  day := s.time.map fun now => now / Config.daySeconds
  latch := s.latch
  input := s.shutdownInput
  freeSlots := s.freeSlots
  inState := DelState.all.map s.countIn
  freeDrivers := Config.driverEntries - s.drivers.length
  freeSpace := s.log.freeSpace
  queued := s.log.queue.length
  lost := s.log.lostCount
  lastWritten := s.log.lastWritten
  exportMark := s.log.exportMark
  engine := s.log.engine.state
  setSize := s.log.engine.set.length
  paperCounter := s.log.paperCounter
  bays := (List.finRange 12).map fun b => (s.polled b, (s.bay b).link)
  office := s.office.figures
  gate := s.gate.figures

/-- STATUS (R178). -/
def State.status (s : State) : State × FrameBody := (s, .done (.status s.statusView))

end Sys2Proof.Machine
end

