-- ==== Sys2Proof/Machine/Ports.lean ====
section
/-! DEFINITION. The port controllers: receivers, service in arrival order, the checks made before a request
reaches its owner, and the frames sent (R166 to R177). -/

namespace Sys2Proof.Machine

/-! ### Taking a request (R170) -/

/-- The deferrable requests: CANCEL, OVERRIDE, RECLAIM and RELEASE (section 9.6). -/
def deferrable (code : Nat) : Bool := code == 0x03 || code == 0x05 || code == 0x13 || code == 0x22

/-- The requests that a FAILED store still answers: RESTART and STATUS (R177). -/
def answeredFailed (code : Nat) : Bool := code == 0x15 || code == 0x16

/-- The first check of the port controller that fails (R170). A second RELEASE that comes at the office port is so
refused WRONG_PORT, by check 3, and not answered RETRY OWNED, as R139 has it for either port: that R170 stands over
R139 here is the model's choice (log entry 42). -/
def State.portRefusal (s : State) (p : Port) (r : Request) : Option FrameBody :=
  if s.phase ≠ .running then some (.retry .starting)
  else if !knownCode r.code then some (.refused .unknownRequest)
  else if !belongsTo p r.code then some (.refused .wrongPort)
  else if s.log.status = .failed ∧ !answeredFailed r.code then some (.refused .storeFailed)
  else if r.body = .badLength then some (.refused .badField)
  else if !deferrable r.code && (s.port p).deferred.any (fun e => e.tag == r.tag) then
    some (.refused .tagInUse)
  else none

/-- The owner takes a request and answers it (R170, section 9.6). A body that names no request has been
answered before it could reach an owner. -/
def State.owner (s : State) (p : Port) (tag : Nat) : ReqBody → State × FrameBody
  | .book b => s.book b
  | .amend b => s.amend b
  | .cancel ref => s.cancel p tag ref
  | .detach ref => s.detach ref
  | .override ref set supervisor => s.override p tag ref set supervisor
  | .deliveryRead ref => s.deliveryRead ref
  | .driverRegister driver day => s.driverRegister driver day
  | .driverRemove driver => s.driverRemove driver
  | .driverRead driver => s.driverRead driver
  | .productDefine b => s.productDefine b
  | .productState code state => s.productState code state
  | .productRead code => s.productRead code
  | .settingsWrite b => s.settingsWrite b
  | .settingsRead => s.settingsRead
  | .timeSet value => s.timeSet value
  | .shutdownClear => s.shutdownClear
  | .logRead n count => s.logRead n count
  | .logAck n => s.logAck n
  | .reclaim page => s.reclaim p tag page
  | .bayRead bay => s.bayRead bay
  | .restart kind => s.restart kind
  | .status => s.status
  | .arrive b => s.announce b
  | .hoursQuery driver => s.hoursQuery driver
  | .release ref driver => s.release p tag ref driver
  | .paperRead ref => s.paperRead ref
  | .unknown => (s, .refused .unknownRequest)
  | .badLength => (s, .refused .badField)

/-- A frame joins the back of a port's outgoing list (R169). -/
def State.push (s : State) (p : Port) (f : OutFrame) : State :=
  s.setPort p { s.port p with outgoing := (s.port p).outgoing ++ [f] }

/-- The request in service of a port (R168). -/
def State.setService (s : State) (p : Port) (x : Option (Nat × Nat)) : State :=
  s.setPort p { s.port p with inService := x }

/-- Make the immediate response of the request in service (R169). -/
def State.answer (p : Port) (tag code : Nat) (x : State × FrameBody) : State :=
  x.1.push p ⟨tag, code, x.2⟩

/-- A request enters service: the port's checks, then its owner, then its response (R168, R170). -/
def State.serve (s : State) (p : Port) (r : Request) : State :=
  let taken := s.setService p (some (r.tag, r.code))
  State.answer p r.tag r.code
    (match taken.portRefusal p r with
      | some x => (taken, x)
      | none => taken.owner p r.tag r.body)

/-- A refusal record enters service: its answer is RETRY QUEUE_FULL, during start-up too (R168, log entry
31). -/
def State.serveRecord (s : State) (p : Port) (tag code : Nat) : State :=
  State.answer p tag code (s.setService p (some (tag, code)), .retry .queueFull)

/-- The front of the input queue enters service (R168). -/
def State.serveNext (s : State) (p : Port) : State :=
  match (s.port p).queue with
  | [] => s
  | item :: rest =>
    let left := s.setPort p { s.port p with queue := rest }
    match item with
    | .request r => left.serve p r
    | .refusal tag code => left.serveRecord p tag code

/-! ### Arrival (R168) -/

/-- One more discarded frame in a port's error count, up to 65,535 (R167). -/
def State.countError (s : State) (p : Port) : State :=
  s.setPort p { s.port p with errors := countUp (s.port p).errors }

/-- An item joins the back of the input queue (R168). -/
def State.wait (s : State) (p : Port) (x : QueueItem) : State :=
  s.setPort p { s.port p with queue := (s.port p).queue ++ [x] }

/-- A request arrives (R168). -/
def State.arrive (s : State) (p : Port) (r : Request) : State :=
  let x := s.port p
  if x.inService.isNone && x.queue.isEmpty then s.serve p r
  else if x.waiting < 4 then s.wait p (.request r)
  else if x.records < 8 then s.wait p (.refusal r.tag r.code)
  else s.countError p

/-! ### The receiver (R167) -/

/-- The receiver of a port hunts. -/
def State.hunt (s : State) (p : Port) : State := s.setPort p { s.port p with receiver := none }

/-- Discard a frame: counted, answered with nothing, and the receiver hunts (R167). -/
def State.discard (s : State) (p : Port) : State := (s.hunt p).countError p

/-- A complete frame, from its length to its last check byte: it arrives or is discarded (R167). -/
def State.frameComplete (s : State) (p : Port) (content : List Byte) : State :=
  match parseFrame content with
  | none => s.discard p
  | some r => (s.hunt p).arrive p r

/-- A length byte outside 2..242 (R167). -/
def badLengthByte (n : Nat) : Bool := !within 2 242 n

/-- The number of bytes of a frame from its length to its last check byte (R194). -/
def frameBytes (content : List Byte) : Nat := field content 0 1 + 3

/-- A byte of a frame in progress (R167). -/
def State.frameByte (s : State) (p : Port) (content : List Byte) : State :=
  if badLengthByte (field content 0 1) then s.discard p
  else if content.length < frameBytes content then
    s.setPort p { s.port p with receiver := some ⟨content, s.elapsed + Config.byteGap⟩ }
  else s.frameComplete p content

/-- A byte received (R167); a start byte without its stop bit is a byte of the frame it begins (log entry
15). -/
def State.receiveByte (s : State) (p : Port) (byte : Byte) (stopBit : Bool) : State :=
  match (s.port p).receiver with
  | none =>
    if byte ≠ startByte then s
    else if stopBit then
      s.setPort p { s.port p with receiver := some ⟨[], s.elapsed + Config.byteGap⟩ }
    else s.discard p
  | some f => if stopBit then s.frameByte p (f.bytes ++ [byte]) else s.discard p

/-- The gap after a byte of a frame in progress expires (R167). -/
def State.gapExpired (s : State) (p : Port) : State :=
  match (s.port p).receiver with
  | none => s
  | some f => (s.reach f.gapEnd).discard p

/-! ### Sending (R169, R175) -/

/-- An immediate response, and not a REPLY (R171). -/
def FrameBody.immediate (b : FrameBody) : Bool := b.kind != 6

/-- The start that a frame causes when it has been sent: the DONE of a RESTART (R175, R188). -/
def FrameBody.starts : FrameBody → Option StartKind
  | .done (.restart kind) => some kind
  | _ => none

/-- The front frame has been sent whole: its request leaves service and the next enters, or a start begins
(R168, R175). -/
def State.frameSent (s : State) (p : Port) : State :=
  match (s.port p).outgoing with
  | [] => s
  | f :: rest =>
    let sent := s.setPort p { s.port p with outgoing := rest, sent := f.wire }
    match f.body.starts with
    | some kind => sent.begin kind
    | none =>
      if f.body.immediate then (sent.setService p none).serveNext p else sent

end Sys2Proof.Machine
end

