-- ==== Sys2Proof/Machine/OfficeRequests.lean ====
section
/-! DEFINITION. The requests of the office port, STATUS among them: each arrives at a port as R168 says, and
is judged when it enters service (R170, log entry 6). -/

namespace Sys2Proof.Machine

/-- A request arrives at a port of a part that has power (R168). Where that port's receiver has a frame in
progress, which a line with one request frame at a time cannot bring about, the request arrives all the same
and the frame in progress is kept: that is the model's choice (log entry 5). -/
def State.request (s : State) (p : Port) (r : Request) : State :=
  if s.powered then s.arrive p r else s

/-- BOOK (R12, R13). -/
def execBook (p : Port) (tag : Nat) (b : BookBody) (s : State) : Host.Outcome State Fault Refusal :=
  .next (s.request p ⟨tag, 0x01, .book b⟩)

/-- AMEND (R17, R18). -/
def execAmend (p : Port) (tag : Nat) (b : AmendBody) (s : State) : Host.Outcome State Fault Refusal :=
  .next (s.request p ⟨tag, 0x02, .amend b⟩)

/-- CANCEL (R19 to R21). -/
def execCancel (p : Port) (tag : Nat) (ref : Nat) (s : State) : Host.Outcome State Fault Refusal :=
  .next (s.request p ⟨tag, 0x03, .cancel ref⟩)

/-- DETACH (R22). -/
def execDetach (p : Port) (tag : Nat) (ref : Nat) (s : State) : Host.Outcome State Fault Refusal :=
  .next (s.request p ⟨tag, 0x04, .detach ref⟩)

/-- OVERRIDE (R140 to R143). -/
def execOverride (p : Port) (tag : Nat) (ref set supervisor : Nat) (s : State) : Host.Outcome State Fault Refusal :=
  .next (s.request p ⟨tag, 0x05, .override ref set supervisor⟩)

/-- DELIVERY_READ (R23). -/
def execDeliveryRead (p : Port) (tag : Nat) (ref : Nat) (s : State) : Host.Outcome State Fault Refusal :=
  .next (s.request p ⟨tag, 0x06, .deliveryRead ref⟩)

/-- DRIVER_REGISTER (R108, R109). -/
def execDriverRegister (p : Port) (tag : Nat) (driver day : Nat) (s : State) : Host.Outcome State Fault Refusal :=
  .next (s.request p ⟨tag, 0x07, .driverRegister driver day⟩)

/-- DRIVER_REMOVE (R110). -/
def execDriverRemove (p : Port) (tag : Nat) (driver : Nat) (s : State) : Host.Outcome State Fault Refusal :=
  .next (s.request p ⟨tag, 0x08, .driverRemove driver⟩)

/-- DRIVER_READ (R111). -/
def execDriverRead (p : Port) (tag : Nat) (driver : Nat) (s : State) : Host.Outcome State Fault Refusal :=
  .next (s.request p ⟨tag, 0x09, .driverRead driver⟩)

/-- PRODUCT_DEFINE (R30 to R32). -/
def execProductDefine (p : Port) (tag : Nat) (b : ProductBody) (s : State) : Host.Outcome State Fault Refusal :=
  .next (s.request p ⟨tag, 0x0A, .productDefine b⟩)

/-- PRODUCT_STATE (R33). -/
def execProductState (p : Port) (tag : Nat) (code state : Nat) (s : State) : Host.Outcome State Fault Refusal :=
  .next (s.request p ⟨tag, 0x0B, .productState code state⟩)

/-- PRODUCT_READ (R35). -/
def execProductRead (p : Port) (tag : Nat) (code : Nat) (s : State) : Host.Outcome State Fault Refusal :=
  .next (s.request p ⟨tag, 0x0C, .productRead code⟩)

/-- SETTINGS_WRITE (R185). -/
def execSettingsWrite (p : Port) (tag : Nat) (b : SettingsBody) (s : State) : Host.Outcome State Fault Refusal :=
  .next (s.request p ⟨tag, 0x0D, .settingsWrite b⟩)

/-- SETTINGS_READ (R185). -/
def execSettingsRead (p : Port) (tag : Nat) (s : State) : Host.Outcome State Fault Refusal :=
  .next (s.request p ⟨tag, 0x0E, .settingsRead⟩)

/-- TIME_SET (R182). -/
def execTimeSet (p : Port) (tag : Nat) (value : Nat) (s : State) : Host.Outcome State Fault Refusal :=
  .next (s.request p ⟨tag, 0x0F, .timeSet value⟩)

/-- SHUTDOWN_CLEAR (R101). -/
def execShutdownClear (p : Port) (tag : Nat) (s : State) : Host.Outcome State Fault Refusal :=
  .next (s.request p ⟨tag, 0x10, .shutdownClear⟩)

/-- LOG_READ (R157). -/
def execLogRead (p : Port) (tag : Nat) (number count : Nat) (s : State) : Host.Outcome State Fault Refusal :=
  .next (s.request p ⟨tag, 0x11, .logRead number count⟩)

/-- LOG_ACK (R158). -/
def execLogAck (p : Port) (tag : Nat) (number : Nat) (s : State) : Host.Outcome State Fault Refusal :=
  .next (s.request p ⟨tag, 0x12, .logAck number⟩)

/-- RECLAIM (R159). -/
def execReclaim (p : Port) (tag : Nat) (page : Nat) (s : State) : Host.Outcome State Fault Refusal :=
  .next (s.request p ⟨tag, 0x13, .reclaim page⟩)

/-- BAY_READ (R77). -/
def execBayRead (p : Port) (tag : Nat) (bay : Nat) (s : State) : Host.Outcome State Fault Refusal :=
  .next (s.request p ⟨tag, 0x14, .bayRead bay⟩)

/-- RESTART (R188). -/
def execRestart (p : Port) (tag : Nat) (kind : Nat) (s : State) : Host.Outcome State Fault Refusal :=
  .next (s.request p ⟨tag, 0x15, .restart kind⟩)

/-- STATUS (R178). -/
def execStatus (p : Port) (tag : Nat) (s : State) : Host.Outcome State Fault Refusal :=
  .next (s.request p ⟨tag, 0x16, .status⟩)

end Sys2Proof.Machine
end

