-- ==== Sys2Proof/Machine/GateRequests.lean ====
section
/-! DEFINITION. The requests of the gate port (R112, R120, R131, R134): each arrives at a port as R168 says,
and is judged when it enters service. -/

namespace Sys2Proof.Machine

/-- ARRIVE (R112 to R115). -/
def execArrive (p : Port) (tag : Nat) (b : ArriveBody) (s : State) : Host.Outcome State Fault Refusal :=
  .next (s.request p ⟨tag, 0x20, .arrive b⟩)

/-- HOURS_QUERY (R120). -/
def execHoursQuery (p : Port) (tag : Nat) (driver : Nat) (s : State) : Host.Outcome State Fault Refusal :=
  .next (s.request p ⟨tag, 0x21, .hoursQuery driver⟩)

/-- RELEASE (R134 to R136). -/
def execRelease (p : Port) (tag : Nat) (ref driver : Nat) (s : State) : Host.Outcome State Fault Refusal :=
  .next (s.request p ⟨tag, 0x22, .release ref driver⟩)

/-- PAPER_READ (R131). -/
def execPaperRead (p : Port) (tag : Nat) (ref : Nat) (s : State) : Host.Outcome State Fault Refusal :=
  .next (s.request p ⟨tag, 0x23, .paperRead ref⟩)

end Sys2Proof.Machine
end

