-- ==== Sys2Proof/Machine/LoadingEvents.lean ====
section
/-! DEFINITION. The expiries of loading deadlines and the changes of the shutdown input (R93 to R95, R99). An
event that has no occasion leaves the state unchanged (log entry 5). -/

namespace Sys2Proof.Machine

/-- PERMIT_WINDOW_EXPIRY (R93). -/
def execPermitWindowExpiry (slot : SlotNo) (index : Nat) (s : State) :
    Host.Outcome State Fault Refusal :=
  .next (s.expire (s.compDeadline slot index .permitted) .permitWindow fun t =>
    t.permitExpired slot index)

/-- FLOWING_LIMIT_EXPIRY (R94). -/
def execFlowingLimitExpiry (slot : SlotNo) (index : Nat) (s : State) :
    Host.Outcome State Fault Refusal :=
  .next (s.expire (s.compDeadline slot index .flowing) .flowingLimit fun t =>
    t.flowingExpired slot index)

/-- SETTLE_INTERVAL_EXPIRY (R95, R102). -/
def execSettleIntervalExpiry (target : DeadlineOf) (s : State) : Host.Outcome State Fault Refusal :=
  .next (s.expire (s.stoppingDeadline target) .settleInterval fun t => t.settleExpired target)

/-- STOP_DEADLINE_EXPIRY (R95, R102). -/
def execStopDeadlineExpiry (target : DeadlineOf) (s : State) : Host.Outcome State Fault Refusal :=
  .next (s.expire (s.stoppingDeadline target) .stopDeadline fun t => t.stopExpired target)

/-- The shutdown input becomes asserted: while the part runs INPUT is added; else the level waits for a
sampling (R99). -/
def State.assertInput (s : State) : State :=
  let asserted := { s with shutdownInput := true }
  if s.phase = .running then asserted.addCause .input else asserted

/-- SHUTDOWN_INPUT_ASSERTED (R99, R100). -/
def execShutdownInputAsserted (s : State) : Host.Outcome State Fault Refusal :=
  .next (if s.shutdownInput then s else s.assertInput)

/-- SHUTDOWN_INPUT_DEASSERTED: the level alone; a cause stays in the latch (R99). -/
def execShutdownInputDeasserted (s : State) : Host.Outcome State Fault Refusal :=
  .next { s with shutdownInput := false }

end Sys2Proof.Machine
end

