-- ==== Sys2Proof/Machine/LogEvents.lean ====
section
/-! DEFINITION. The events of the time base and the log store (R154, R160 to R164, R181). An event that has
no occasion leaves the state unchanged (log entry 5). -/

namespace Sys2Proof.Machine

/-- TERMINAL_TIME_ADVANCE, in every phase (R14, R181). -/
def execTerminalTimeAdvance (s : State) : Host.Outcome State Fault Refusal := .next s.advanceTime

/-- WRITE_COMPLETE (R154, R155). -/
def execWriteComplete (s : State) : Host.Outcome State Fault Refusal :=
  .next (if s.phase = .running ∧ s.log.writing then s.writeDone else s)

/-- COLLECTION_WINDOW_EXPIRY (R160). -/
def execCollectionWindowExpiry (s : State) : Host.Outcome State Fault Refusal :=
  .next
    (if s.phase = .running ∧ s.log.engine.state = .collecting then
      (s.reach (s.log.engine.window.getD 0)).windowExpired
    else s)

/-- ERASE_SUSPEND: the suspension of an erase that an admission asked for (R162). -/
def execEraseSuspend (s : State) : Host.Outcome State Fault Refusal :=
  .next (if s.erasing && s.log.engine.suspendBy.isSome then s.suspendErase else s)

/-- ERASE_COMPLETE (R163). -/
def execEraseComplete (s : State) : Host.Outcome State Fault Refusal :=
  .next (if s.erasing then s.eraseDone else s)

/-- ERASE_VERIFY_FAILURE (R164). -/
def execEraseVerifyFailure (s : State) : Host.Outcome State Fault Refusal :=
  .next (if s.erasing then s.eraseFailed else s)

end Sys2Proof.Machine
end

