-- ==== Sys2Proof/Machine/PortEvents.lean ====
section
/-! DEFINITION. The events of the port lines (R166 to R169). An event that has no occasion leaves the state
unchanged (log entry 5). -/

namespace Sys2Proof.Machine

/-- FRAME_RECEIVED: a complete frame, from its length to its last check byte, while the receiver hunts
(R167, R194). -/
def execFrameReceived (p : Port) (content : List Byte) (s : State) :
    Host.Outcome State Fault Refusal :=
  .next (if s.powered && (s.port p).receiver.isNone then s.frameComplete p content else s)

/-- PORT_BYTE_GAP_EXPIRY (R167). -/
def execPortByteGapExpiry (p : Port) (s : State) : Host.Outcome State Fault Refusal :=
  .next (if s.powered then s.gapExpired p else s)

/-- FRAME_SENT (R168, R169, R175). -/
def execFrameSent (p : Port) (s : State) : Host.Outcome State Fault Refusal :=
  .next (if s.powered then s.frameSent p else s)

/-- PORT_BYTE_RECEIVED (R167). -/
def execPortByteReceived (p : Port) (byte : Byte) (stopBit : Bool) (s : State) :
    Host.Outcome State Fault Refusal :=
  .next (if s.powered then s.receiveByte p byte stopBit else s)

end Sys2Proof.Machine
end

