-- ==== Sys2Proof/Machine/RackEvents.lean ====
section
/-! DEFINITION. The events of the rack link (R66 to R76). The link carries nothing until the ports open
(R79), and an event that has no occasion leaves the state unchanged (log entry 5). -/

namespace Sys2Proof.Machine

/-- The part has opened its ports (R193). -/
def State.running (s : State) : Bool := s.phase == .running

/-- Whether an exchange may begin: none is in progress and no ALL_STOP is owed first (R66, R67, R76). -/
def State.lineFree (s : State) : Bool :=
  s.running && s.rack.exchange.isNone && !s.rack.latchStop && !s.rack.roundStop

/-- EXCHANGE_START (R66, R67). -/
def execExchangeStart (s : State) : Host.Outcome State Fault Refusal :=
  .next (if s.lineFree then s.beginExchange else s)

/-- ANSWER_RECEIVED: the end of an answer to the exchange in progress (R69 to R74). -/
def execAnswerReceived (words : List RxWord) (s : State) : Host.Outcome State Fault Refusal :=
  match s.rack.visit, s.rack.exchange with
  | some v, some e => .next (if s.running then s.endByAnswer v e words else s)
  | _, _ => .next s

/-- ANSWER_WINDOW_EXPIRY (R67, R69). -/
def execAnswerWindowExpiry (s : State) : Host.Outcome State Fault Refusal :=
  match s.rack.visit, s.rack.exchange with
  | some v, some e => .next (if s.running then (s.reach e.windowEnd).endByWindow v else s)
  | _, _ => .next s

/-- ALL_STOP_BROADCAST: between two exchanges, where one is owed (R76). -/
def execAllStopBroadcast (s : State) : Host.Outcome State Fault Refusal :=
  .next
    (if s.running && s.rack.exchange.isNone && (s.rack.latchStop || s.rack.roundStop) then
      s.sendAllStop
    else s)

end Sys2Proof.Machine
end

