-- ==== Sys2Proof/Machine/StartEvents.lean ====
section
/-! DEFINITION. The events that begin starts and end the steps of start-up (R187 to R193). An event that has
no occasion leaves the state unchanged (log entry 5). -/

namespace Sys2Proof.Machine

/-- RESET_ASSERTED (R188). -/
def execResetAsserted (s : State) : Host.Outcome State Fault Refusal := .next s.assertReset

/-- RESET_DEASSERTED (R188). -/
def execResetDeasserted (s : State) : Host.Outcome State Fault Refusal := .next s.deassertReset

/-- POWER_LOSS (R187). -/
def execPowerLoss (cut : EventCut) (s : State) : Host.Outcome State Fault Refusal :=
  .next (s.losePower cut)

/-- POWER_RETURN (R187, R188). -/
def execPowerReturn (backupFailed : Bool) (s : State) : Host.Outcome State Fault Refusal :=
  .next (s.regainPower backupFailed)

/-- START_UP_ERASE_END: one erase of step 2 ends, verified or not (R190). -/
def execStartUpEraseEnd (verified : Bool) (s : State) : Host.Outcome State Fault Refusal :=
  .next (if s.phase = .step2 then s.startErase verified else s)

/-- START_UP_SCAN_END: the scan ends, and steps 4 to 6 follow (R191 to R193). -/
def execStartUpScanEnd (slot : List Byte) (s : State) : Host.Outcome State Fault Refusal :=
  .next (if s.phase = .step3 then s.scanEnd (slotTest slot) else s)

end Sys2Proof.Machine
end

