-- ==== Sys2Proof/Machine/Dispatch.lean ====
section
/-! DEFINITION. One arm for each command of the table. -/

namespace Sys2Proof.Machine

def exec (i : Instr) (s : State) : Host.Outcome State Fault Refusal :=
  match i with
  | .book p tag b => Sys2Proof.Machine.execBook p tag b s
  | .amend p tag b => Sys2Proof.Machine.execAmend p tag b s
  | .cancel p tag ref => Sys2Proof.Machine.execCancel p tag ref s
  | .detach p tag ref => Sys2Proof.Machine.execDetach p tag ref s
  | .override p tag ref set supervisor => Sys2Proof.Machine.execOverride p tag ref set supervisor s
  | .deliveryRead p tag ref => Sys2Proof.Machine.execDeliveryRead p tag ref s
  | .driverRegister p tag driver day => Sys2Proof.Machine.execDriverRegister p tag driver day s
  | .driverRemove p tag driver => Sys2Proof.Machine.execDriverRemove p tag driver s
  | .driverRead p tag driver => Sys2Proof.Machine.execDriverRead p tag driver s
  | .productDefine p tag b => Sys2Proof.Machine.execProductDefine p tag b s
  | .productState p tag code state => Sys2Proof.Machine.execProductState p tag code state s
  | .productRead p tag code => Sys2Proof.Machine.execProductRead p tag code s
  | .settingsWrite p tag b => Sys2Proof.Machine.execSettingsWrite p tag b s
  | .settingsRead p tag => Sys2Proof.Machine.execSettingsRead p tag s
  | .timeSet p tag value => Sys2Proof.Machine.execTimeSet p tag value s
  | .shutdownClear p tag => Sys2Proof.Machine.execShutdownClear p tag s
  | .logRead p tag number count => Sys2Proof.Machine.execLogRead p tag number count s
  | .logAck p tag number => Sys2Proof.Machine.execLogAck p tag number s
  | .reclaim p tag page => Sys2Proof.Machine.execReclaim p tag page s
  | .bayRead p tag bay => Sys2Proof.Machine.execBayRead p tag bay s
  | .restart p tag kind => Sys2Proof.Machine.execRestart p tag kind s
  | .status p tag => Sys2Proof.Machine.execStatus p tag s
  | .arrive p tag b => Sys2Proof.Machine.execArrive p tag b s
  | .hoursQuery p tag driver => Sys2Proof.Machine.execHoursQuery p tag driver s
  | .release p tag ref driver => Sys2Proof.Machine.execRelease p tag ref driver s
  | .paperRead p tag ref => Sys2Proof.Machine.execPaperRead p tag ref s
  | .frameReceived p content => Sys2Proof.Machine.execFrameReceived p content s
  | .portByteGapExpiry p => Sys2Proof.Machine.execPortByteGapExpiry p s
  | .frameSent p => Sys2Proof.Machine.execFrameSent p s
  | .exchangeStart => Sys2Proof.Machine.execExchangeStart s
  | .answerReceived words => Sys2Proof.Machine.execAnswerReceived words s
  | .answerWindowExpiry => Sys2Proof.Machine.execAnswerWindowExpiry s
  | .allStopBroadcast => Sys2Proof.Machine.execAllStopBroadcast s
  | .permitWindowExpiry slot index => Sys2Proof.Machine.execPermitWindowExpiry slot index s
  | .flowingLimitExpiry slot index => Sys2Proof.Machine.execFlowingLimitExpiry slot index s
  | .settleIntervalExpiry target => Sys2Proof.Machine.execSettleIntervalExpiry target s
  | .stopDeadlineExpiry target => Sys2Proof.Machine.execStopDeadlineExpiry target s
  | .shutdownInputAsserted => Sys2Proof.Machine.execShutdownInputAsserted s
  | .shutdownInputDeasserted => Sys2Proof.Machine.execShutdownInputDeasserted s
  | .terminalTimeAdvance => Sys2Proof.Machine.execTerminalTimeAdvance s
  | .writeComplete => Sys2Proof.Machine.execWriteComplete s
  | .collectionWindowExpiry => Sys2Proof.Machine.execCollectionWindowExpiry s
  | .eraseSuspend => Sys2Proof.Machine.execEraseSuspend s
  | .eraseComplete => Sys2Proof.Machine.execEraseComplete s
  | .eraseVerifyFailure => Sys2Proof.Machine.execEraseVerifyFailure s
  | .resetAsserted => Sys2Proof.Machine.execResetAsserted s
  | .resetDeasserted => Sys2Proof.Machine.execResetDeasserted s
  | .powerLoss cut => Sys2Proof.Machine.execPowerLoss cut s
  | .powerReturn backupFailed => Sys2Proof.Machine.execPowerReturn backupFailed s
  | .startUpEraseEnd verified => Sys2Proof.Machine.execStartUpEraseEnd verified s
  | .startUpScanEnd slot => Sys2Proof.Machine.execStartUpScanEnd slot s
  | .portByteReceived p byte stopBit => Sys2Proof.Machine.execPortByteReceived p byte stopBit s

end Sys2Proof.Machine
end

