-- ==== Sys2Proof/Machine/Step.lean ====
section
/-! DEFINITION. The step of the part: the command at the front of the queue, or a microsecond that passes. -/

namespace Sys2Proof.Machine

/-- With no command waiting, a part that has power lets one microsecond pass on the elapsed-time counter,
and nothing else happens (R183, log entry 4). -/
def State.idle (s : State) : State := if s.powered then { s with elapsed := s.elapsed + 1 } else s

/-- One step: the command at the front of the queue is taken whole, with the rest still waiting. -/
def step (s : State) : Host.Outcome State Fault Refusal :=
  match s.pending with
  | [] => .next s.idle
  | c :: rest => exec c { s with pending := rest }

/-- The state with the command that a word spells put at the front of the queue; unchanged where the word
spells none. No row of the table has bits, so no word spells a command (log entry 7). -/
def State.withFetchWord (s : State) (nbits w : Nat) : State :=
  match Sys2Proof.decodeTableWord nbits w with
  | none => s
  | some c => { s with pending := c :: s.pending }

end Sys2Proof.Machine
end

