-- ==== Sys2Proof/WellFormed.lean ====
section
/-! DEFINITION. Which commands the outside can send: every field fits the bytes or bits that
chapter 11 gives it, and a body fits a frame. -/

namespace Sys2Proof

/-- A number that `bytes` bytes can carry. -/
def fits (bytes n : Nat) : Bool := n < 256 ^ bytes

/-- A tag is 0..15 (R166). -/
def wfTag (t : Nat) : Bool := t < 16

def BookComp.wellFormed (c : BookComp) : Bool :=
  fits 1 c.index && fits 1 c.product && fits 2 c.planned && fits 2 c.capacity && fits 1 c.last
    && fits 1 c.purge

/-- 13 + 8 × count bytes fit the 240-byte body (R166, section 11.3). -/
def BookBody.wellFormed (b : BookBody) : Bool :=
  fits 4 b.ref && fits 2 b.driver && fits 2 b.vehicle && fits 2 b.driving && fits 2 b.duty
    && 13 + 8 * b.comps.length ≤ 240 && b.comps.all BookComp.wellFormed

/-- 11 + 3 × count bytes fit the body; a trip part has both figures (section 11.3). -/
def AmendBody.wellFormed (b : AmendBody) : Bool :=
  fits 4 b.ref && fits 2 b.driving && fits 2 b.duty && fits 2 b.driver
    && 11 + 3 * b.changes.length ≤ 240
    && b.changes.all fun c => fits 1 c.index && fits 2 c.planned

/-- A temperature of two bytes, signed (section 11.1). -/
def fitsTemp (t : Int) : Bool := -32768 ≤ t && t ≤ 32767

def ProductData.wellFormed (d : ProductData) : Bool :=
  fits 2 d.un && fits 1 d.cls && fits 1 d.division && fits 1 d.packing && fits 1 d.flash
    && 17 + 5 * d.points.length ≤ 240
    && d.points.all fun p => fitsTemp p.temp && fits 3 p.factor

/-- The data are absent exactly when the state is UNDEFINED, value 0 (section 11.3). -/
def ProductBody.wellFormed (b : ProductBody) : Bool :=
  fits 1 b.code && fits 1 b.state
    && match b.data with
      | none => b.state == 0
      | some d => b.state != 0 && d.wellFormed

def SettingsBody.wellFormed (b : SettingsBody) : Bool :=
  fits 2 b.daily && fits 2 b.rolling && fits 2 b.shift && fits 2 b.validity && fits 2 b.allowance
    && fits 2 b.flowing && fits 2 b.permit && fits 1 b.settle && fits 2 b.polled

def Declaration.wellFormed (d : Declaration) : Bool :=
  fits 4 d.restEnd && 11 + 6 * d.days.length ≤ 240
    && d.days.all fun e => fits 2 e.day && fits 2 e.driving && fits 2 e.duty

def ArriveBody.wellFormed (b : ArriveBody) : Bool :=
  fits 4 b.ref && fits 2 b.driver
    && match b.declaration with
      | none => true
      | some d => d.wellFormed

/-- The bytes of a complete frame from its length to its last check byte (R194): a length of
2..242, then that many bytes, then two check bytes. -/
def wfFrame : List Byte → Bool
  | [] => false
  | len :: rest => 2 ≤ len.toNat && len.toNat ≤ 242 && rest.length == len.toNat + 2

/-- A compartment index is 1..6 (R3). -/
def wfIndex (i : Nat) : Bool := 1 ≤ i && i ≤ 6

def DeadlineOf.wellFormed : DeadlineOf → Bool
  | .compartment _ i => wfIndex i
  | .orphan _ _ => true

/-- The bytes of one slot (R196). -/
def wfSlot (bytes : List Byte) : Bool := bytes.length == 32

def EventCut.wellFormed : EventCut → Bool
  | .inScan slot => wfSlot slot
  | .betweenEvents | .inPaperIssue | .inEraseFailure _ | .inEraseCompletion _ => true

/-- What the outside can send. -/
def Instr.wellFormed : Instr → Bool
  | .book _ t b => wfTag t && b.wellFormed
  | .amend _ t b => wfTag t && b.wellFormed
  | .cancel _ t r => wfTag t && fits 4 r
  | .detach _ t r => wfTag t && fits 4 r
  | .override _ t r set sup => wfTag t && fits 4 r && fits 1 set && fits 2 sup
  | .deliveryRead _ t r => wfTag t && fits 4 r
  | .driverRegister _ t d day => wfTag t && fits 2 d && fits 2 day
  | .driverRemove _ t d => wfTag t && fits 2 d
  | .driverRead _ t d => wfTag t && fits 2 d
  | .productDefine _ t b => wfTag t && b.wellFormed
  | .productState _ t c st => wfTag t && fits 1 c && fits 1 st
  | .productRead _ t c => wfTag t && fits 1 c
  | .settingsWrite _ t b => wfTag t && b.wellFormed
  | .settingsRead _ t => wfTag t
  | .timeSet _ t v => wfTag t && fits 4 v
  | .shutdownClear _ t => wfTag t
  | .logRead _ t n c => wfTag t && fits 4 n && fits 1 c
  | .logAck _ t n => wfTag t && fits 4 n
  | .reclaim _ t page => wfTag t && fits 1 page
  | .bayRead _ t bay => wfTag t && fits 1 bay
  | .restart _ t k => wfTag t && fits 1 k
  | .status _ t => wfTag t
  | .arrive _ t b => wfTag t && b.wellFormed
  | .hoursQuery _ t d => wfTag t && fits 2 d
  | .release _ t r d => wfTag t && fits 4 r && fits 2 d
  | .paperRead _ t r => wfTag t && fits 4 r
  | .frameReceived _ bytes => wfFrame bytes
  | .portByteGapExpiry _ => true
  | .frameSent _ => true
  | .exchangeStart => true
  | .answerReceived ws => !ws.isEmpty
  | .answerWindowExpiry => true
  | .allStopBroadcast => true
  | .permitWindowExpiry _ i => wfIndex i
  | .flowingLimitExpiry _ i => wfIndex i
  | .settleIntervalExpiry x => x.wellFormed
  | .stopDeadlineExpiry x => x.wellFormed
  | .shutdownInputAsserted => true
  | .shutdownInputDeasserted => true
  | .terminalTimeAdvance => true
  | .writeComplete => true
  | .collectionWindowExpiry => true
  | .eraseSuspend => true
  | .eraseComplete => true
  | .eraseVerifyFailure => true
  | .resetAsserted => true
  | .resetDeasserted => true
  | .powerLoss cut => cut.wellFormed
  | .powerReturn _ => true
  | .startUpEraseEnd _ => true
  | .startUpScanEnd slot => wfSlot slot
  | .portByteReceived _ _ _ => true

end Sys2Proof
end

