-- ==== Sys2Proof/Machine/Partners.lean ====
section
/-! DEFINITION. What the partners send, written from chapter 11: the frames of requests (R194, section 11.3)
and the words of a bay's answers (R57, R58, R195). No step of the part uses these; statements and tests do. -/

namespace Sys2Proof.Machine

/-! ### Request frames -/

/-- The body bytes of a request (section 11.3). -/
def ReqBody.bytes : ReqBody → List Byte
  | .book b =>
    be 4 b.ref ++ be 2 b.driver ++ be 2 b.vehicle ++ be 2 b.driving ++ be 2 b.duty
      ++ be 1 b.comps.length ++ b.comps.flatMap fun c =>
        be 1 c.index ++ be 1 c.product ++ be 2 c.planned ++ be 2 c.capacity ++ be 1 c.last ++ be 1 c.purge
  | .amend b =>
    be 4 b.ref ++ be 2 b.driving ++ be 2 b.duty ++ be 2 b.driver ++ be 1 b.changes.length
      ++ b.changes.flatMap fun c => be 1 c.index ++ be 2 c.planned
  | .cancel ref => be 4 ref
  | .detach ref => be 4 ref
  | .override ref set supervisor => be 4 ref ++ be 1 set ++ be 2 supervisor
  | .deliveryRead ref => be 4 ref
  | .driverRegister driver day => be 2 driver ++ be 2 day
  | .driverRemove driver => be 2 driver
  | .driverRead driver => be 2 driver
  | .productDefine b =>
    be 1 b.code ++ be 1 b.state ++ match b.data with
      | none => []
      | some d =>
        d.name.toArray.toList ++ be 2 d.un ++ be 1 d.cls ++ be 1 d.division ++ be 1 d.packing
          ++ be 1 d.flash ++ be 1 d.points.length ++ d.points.flatMap fun p =>
            beInt 2 p.temp ++ be 3 p.factor
  | .productState code state => be 1 code ++ be 1 state
  | .productRead code => be 1 code
  | .settingsWrite b =>
    be 2 b.daily ++ be 2 b.rolling ++ be 2 b.shift ++ be 2 b.validity ++ be 2 b.allowance
      ++ be 2 b.flowing ++ be 2 b.permit ++ be 1 b.settle ++ be 2 b.polled
  | .settingsRead => []
  | .timeSet value => be 4 value
  | .shutdownClear => []
  | .logRead n count => be 4 n ++ be 1 count
  | .logAck n => be 4 n
  | .reclaim page => be 1 page
  | .bayRead bay => be 1 bay
  | .restart kind => be 1 kind
  | .status => []
  | .arrive b =>
    be 4 b.ref ++ be 2 b.driver ++ match b.declaration with
      | none => []
      | some y =>
        be 4 y.restEnd ++ be 1 y.days.length ++ y.days.flatMap fun e =>
          be 2 e.day ++ be 2 e.driving ++ be 2 e.duty
  | .hoursQuery driver => be 2 driver
  | .release ref driver => be 4 ref ++ be 2 driver
  | .paperRead ref => be 4 ref
  | .unknown => []
  | .badLength => []

/-- The bytes of a request's frame from its length to its last body byte: kind REQUEST is 1 (R194). -/
def Request.covered (r : Request) : List Byte :=
  be 1 (r.body.bytes.length + 2) ++ be 1 (16 + r.tag) ++ be 1 r.code ++ r.body.bytes

/-- The bytes of a request's frame from its length to its last check byte (R194). -/
def Request.content (r : Request) : List Byte := r.covered ++ be 2 (crc16 r.covered)

/-- The request that a request command stands for, with the port it arrives on (section 11.3). -/
def requestOf : Instr → Option (Port × Request)
  | .book p t b => some (p, ⟨t, 0x01, .book b⟩)
  | .amend p t b => some (p, ⟨t, 0x02, .amend b⟩)
  | .cancel p t r => some (p, ⟨t, 0x03, .cancel r⟩)
  | .detach p t r => some (p, ⟨t, 0x04, .detach r⟩)
  | .override p t r set sup => some (p, ⟨t, 0x05, .override r set sup⟩)
  | .deliveryRead p t r => some (p, ⟨t, 0x06, .deliveryRead r⟩)
  | .driverRegister p t n day => some (p, ⟨t, 0x07, .driverRegister n day⟩)
  | .driverRemove p t n => some (p, ⟨t, 0x08, .driverRemove n⟩)
  | .driverRead p t n => some (p, ⟨t, 0x09, .driverRead n⟩)
  | .productDefine p t b => some (p, ⟨t, 0x0A, .productDefine b⟩)
  | .productState p t c st => some (p, ⟨t, 0x0B, .productState c st⟩)
  | .productRead p t c => some (p, ⟨t, 0x0C, .productRead c⟩)
  | .settingsWrite p t b => some (p, ⟨t, 0x0D, .settingsWrite b⟩)
  | .settingsRead p t => some (p, ⟨t, 0x0E, .settingsRead⟩)
  | .timeSet p t v => some (p, ⟨t, 0x0F, .timeSet v⟩)
  | .shutdownClear p t => some (p, ⟨t, 0x10, .shutdownClear⟩)
  | .logRead p t n c => some (p, ⟨t, 0x11, .logRead n c⟩)
  | .logAck p t n => some (p, ⟨t, 0x12, .logAck n⟩)
  | .reclaim p t n => some (p, ⟨t, 0x13, .reclaim n⟩)
  | .bayRead p t n => some (p, ⟨t, 0x14, .bayRead n⟩)
  | .restart p t k => some (p, ⟨t, 0x15, .restart k⟩)
  | .status p t => some (p, ⟨t, 0x16, .status⟩)
  | .arrive p t b => some (p, ⟨t, 0x20, .arrive b⟩)
  | .hoursQuery p t n => some (p, ⟨t, 0x21, .hoursQuery n⟩)
  | .release p t r n => some (p, ⟨t, 0x22, .release r n⟩)
  | .paperRead p t r => some (p, ⟨t, 0x23, .paperRead r⟩)
  | .frameReceived _ _ | .portByteGapExpiry _ | .frameSent _ | .exchangeStart | .answerReceived _
  | .answerWindowExpiry | .allStopBroadcast | .permitWindowExpiry _ _ | .flowingLimitExpiry _ _
  | .settleIntervalExpiry _ | .stopDeadlineExpiry _ | .shutdownInputAsserted
  | .shutdownInputDeasserted | .terminalTimeAdvance | .writeComplete | .collectionWindowExpiry
  | .eraseSuspend | .eraseComplete | .eraseVerifyFailure | .resetAsserted | .resetDeasserted
  | .powerLoss _ | .powerReturn _ | .startUpEraseEnd _ | .startUpScanEnd _
  | .portByteReceived _ _ _ => none

/-! ### Answers of a bay -/

/-- A word sent well: its sync and transitions in order, and its check (R56, R195). -/
def goodRx (value : Nat) : RxWord := ⟨true, BitVec.ofNat 24 value, BitVec.ofNat 6 (wordCheck value)⟩

/-- The head word of an answer of bay `b` (R195). -/
def answerHead (b : BayNo) (kind count argument : Nat) : RxWord :=
  goodRx ((b.val + 1) * 2 ^ 20 + kind * 2 ^ 15 + count * 2 ^ 12 + argument)

/-- A temperature in 12 bits, two's complement (R195). -/
def twelveBits (t : Int) : Nat := (t % 4096).toNat

/-- The two data words of an arm report (R58, R195). -/
def reportWords (r : Report) : List RxWord :=
  [goodRx (armCode r.arm * 2 ^ 23 + r.valveOpen.toNat * 2 ^ 22 + r.settled.toNat * 2 ^ 21
      + twelveBits r.temp), goodRx r.cumulative]

/-- The words of an answer of bay `b` (R57, R195). -/
def answerWords (b : BayNo) : Answer → List RxWord
  | .status reports => answerHead b 0x10 (2 * reports.length) 0 :: reports.flatMap reportWords
  | .claim ref => [answerHead b 0x11 2 0, goodRx (ref / 65536), goodRx (ref % 65536)]
  | .start x index product => [answerHead b 0x12 0 (armCode x * 2 ^ 11 + index * 2 ^ 8 + product)]
  | .finish => [answerHead b 0x13 0 0]
  | .fault code => [answerHead b 0x14 0 code]

/-- What an arm report can carry (R58). -/
def Report.wellFormed (r : Report) : Bool :=
  r.cumulative < 2 ^ 24 && -2048 ≤ r.temp && r.temp ≤ 2047

/-- What an answer can carry (R57, R195). -/
def Answer.wellFormed : Answer → Bool
  | .status reports => reports.length ≤ 2 && reports.all Report.wellFormed
  | .claim ref => ref < 2 ^ 32
  | .start _ index product => index < 8 && product < 32
  | .finish => true
  | .fault code => 1 ≤ code && code ≤ 4

end Sys2Proof.Machine
end

