-- ==== Sys2Proof/Safety.lean ====
section
/-! DEFINITION. The laws that the spec states of the part at every moment, in the terms that the
statements use. -/

namespace Sys2Proof.Machine

/-! ### When a request is taken at once -/

/-- A request with this tag is taken at once on a port: the ports are open, the store has not FAILED, no
request is in service or waits, and no deferred request has the tag (R168, R170). -/
def State.ready (s : State) (p : Port) (tag : Nat) : Prop :=
  s.phase = .running ∧ s.log.status ≠ .failed ∧ (s.port p).inService = none ∧ (s.port p).queue = []
    ∧ ∀ e ∈ (s.port p).deferred, e.tag ≠ tag

/-- A request with this tag is taken at once on a port that is open, whatever the store status: only RESTART and
STATUS are then answered in any case (R168, R170, R177). -/
def State.taking (s : State) (p : Port) (tag : Nat) : Prop :=
  s.phase = .running ∧ (s.port p).inService = none ∧ (s.port p).queue = []
    ∧ ∀ e ∈ (s.port p).deferred, e.tag ≠ tag

/-- A port with a request in service whose immediate response has been made (R168, R169). -/
def PortState.respond (x : PortState) (tag code : Nat) (body : FrameBody) : PortState :=
  { x with inService := some (tag, code), outgoing := x.outgoing ++ [⟨tag, code, body⟩] }

/-- The state in which a port has answered a request and nothing else has changed. -/
def State.responded (s : State) (p : Port) (tag code : Nat) (body : FrameBody) : State :=
  s.setPort p ((s.port p).respond tag code body)

/-- A port with a request entered in its deferred table (R172). -/
def PortState.holding (x : PortState) (e : Deferred) : PortState :=
  { x with deferred := x.deferred ++ [e] }

/-- The queue and free space admit a requester entry (R151). -/
def LogStore.accepts (l : LogStore) : Prop := l.queue.length < 16 ∧ 65 ≤ l.freeSpace

/-- The one delivery record of its reference stands in this slot (R1). -/
def State.holdsAt (s : State) (i : SlotNo) (d : Delivery) : Prop :=
  s.slot i = some d ∧ ∀ j e, s.slot j = some e → e.ref = d.ref → j = i

/-- A request waits in a port's deferred table and its DEFERRED answer has been made (R169, R172). -/
def PortState.deferring (x : PortState) (e : Deferred) (body : FrameBody) : PortState :=
  (x.holding e).respond e.tag e.code body

/-! ### Checks made in order -/

/-- A request is taken at once on a port, whatever its tag (R168, R170). -/
def State.portFree (s : State) (p : Port) : Prop :=
  s.phase = .running ∧ s.log.status ≠ .failed ∧ (s.port p).inService = none ∧ (s.port p).queue = []

/-- Of checks made in order, each with the answer it gives where it fails, the answer of the first that
fails. -/
def firstFailing : List (Prop × FrameBody) → FrameBody → Prop
  | [], _ => False
  | (fails, answer) :: rest, y => (fails ∧ y = answer) ∨ (¬ fails ∧ firstFailing rest y)

/-- No two records of the dispatch table carry one reference (R1). -/
def State.refsDiffer (s : State) : Prop :=
  ∀ i j d e, s.slot i = some d → s.slot j = some e → d.ref = e.ref → i = j

/-- The table holds a delivery of this reference of which something holds. -/
def State.holdsOne (s : State) (ref : Nat) (P : Delivery → Prop) : Prop :=
  ∃ i d, s.slot i = some d ∧ d.ref = ref ∧ P d

/-- The checks of a requester entry: 16 entries queued, or free space that would fall below 64 (R151). -/
def LogStore.requesterChecks (l : LogStore) : List (Prop × FrameBody) :=
  [(16 ≤ l.queue.length, .retry .logBusy), (l.freeSpace < 65, .refused .logFull)]

/-- The deferral checks of a port: the tag, then the table's eight places (R172). -/
def PortState.deferralChecks (x : PortState) (tag : Nat) : List (Prop × FrameBody) :=
  [(∃ e ∈ x.deferred, e.tag = tag, .refused .tagInUse), (8 ≤ x.deferred.length, .retry .deferLimit)]

/-- The body lengths that section 11.3 allows a request of a code. -/
def lengthAllowed (code : Nat) (body : List Byte) : Bool :=
  let n := body.length
  let count := fun k => (body.getD k 0).toNat
  if code = 0x01 then n == 13 + 8 * count 12
  else if code = 0x02 then n == 11 + 3 * count 10
  else if code = 0x0A then if count 1 = 0 then n == 2 else n == 17 + 5 * count 16
  else if code = 0x20 then n == 6 || n == 11 + 6 * count 10
  else ((code, n) ∈ [(0x03, 4), (0x04, 4), (0x05, 7), (0x06, 4), (0x07, 4), (0x08, 2), (0x09, 2), (0x0B, 2),
    (0x0C, 1), (0x0D, 17), (0x0E, 0), (0x0F, 4), (0x10, 0), (0x11, 5), (0x12, 4), (0x13, 1), (0x14, 1),
    (0x15, 1), (0x16, 0), (0x21, 2), (0x22, 6), (0x23, 4)])

/-- The bytes of a request frame from its length to its last check byte: tag, code and body (R194). -/
def requestFrame (tag code : Nat) (body : List Byte) : List Byte :=
  let covered := be 1 (body.length + 2) ++ be 1 (16 + tag) ++ be 1 code ++ body
  covered ++ be 2 (crc16 covered)

/-! ### Requests -/

/-- What R12, check 1, asks of the fields of a BOOK. -/
def bookable (b : BookBody) : Prop :=
  b.ref ≠ 0 ∧ b.driver ≤ 65534 ∧ (1 ≤ b.comps.length ∧ b.comps.length ≤ 6)
    ∧ (b.comps.map BookComp.index).Nodup ∧ (1 ≤ b.driving ∧ b.driving ≤ 900)
    ∧ (b.driving ≤ b.duty ∧ b.duty ≤ 1200)
    ∧ ∀ c ∈ b.comps, (1 ≤ c.index ∧ c.index ≤ 6) ∧ (1 ≤ c.product ∧ c.product ≤ 16) ∧ c.last ≤ 16
      ∧ (100 ≤ c.capacity ∧ c.capacity ≤ 40000) ∧ (100 ≤ c.planned ∧ c.planned ≤ 40000)
      ∧ c.planned ≤ c.capacity ∧ c.purge ≤ 1

/-- What R17 asks of an AMEND for a delivery: a trip of 0 and 0, a driver of 65,535 and an empty list are
parts not given. -/
def amendable (b : AmendBody) (d : Delivery) : Prop :=
  (b.driving ≠ 0 ∨ b.duty ≠ 0 ∨ b.driver ≠ 65535 ∨ b.changes ≠ [])
    ∧ (b.driving ≠ 0 ∨ b.duty ≠ 0 →
      (1 ≤ b.driving ∧ b.driving ≤ 900) ∧ (b.driving ≤ b.duty ∧ b.duty ≤ 1200)
        ∧ d.state.owning = false)
    ∧ b.changes.length ≤ 6 ∧ (b.changes.map PlanChange.index).Nodup
    ∧ (∀ x ∈ b.changes, (100 ≤ x.planned ∧ x.planned ≤ 40000)
      ∧ ∃ c, d.comp x.index = some c ∧ c.state = .planned ∧ x.planned ≤ c.capacity)
    ∧ (b.driver ≠ 65535 → b.driver ≤ 65534 ∧ d.state = .booked)

/-- A correction table as R28 asks: two to eight points, factors and temperatures in range, temperatures
rising strictly. -/
def tableValid (points : List CorrPoint) : Prop :=
  (2 ≤ points.length ∧ points.length ≤ 8)
    ∧ (∀ p ∈ points, (-500 ≤ p.temp ∧ p.temp ≤ 700) ∧ 58982 ≤ p.factor ∧ p.factor ≤ 72090)
    ∧ points.Pairwise fun p q => p.temp < q.temp

/-- The checks of BOOK before those of its entry (R12). -/
def State.bookChecks (s : State) (b : BookBody) : List (Prop × FrameBody) :=
  [(¬ bookable b, .refused .badField),
    (s.holdsOne b.ref fun d => s.owned d = true, .retry .owned),
    (s.holdsOne b.ref fun _ => True, .refused .duplicate),
    (∃ c ∈ b.comps, (s.product c.product).state ≠ .enabled, .refused .productUnusable),
    (s.time = none, .refused .noTime),
    (∀ i, s.slot i ≠ none, .refused .tableFull)]

/-- The checks of AMEND before those of its entry (R17). -/
def State.amendChecks (s : State) (b : AmendBody) : List (Prop × FrameBody) :=
  [((b.driving = 0 ∧ b.duty = 0 ∧ b.driver = 65535 ∧ b.changes = [])
      ∨ ((b.driving ≠ 0 ∨ b.duty ≠ 0)
        ∧ ¬ ((1 ≤ b.driving ∧ b.driving ≤ 900) ∧ b.driving ≤ b.duty ∧ b.duty ≤ 1200))
      ∨ 6 < b.changes.length ∨ ¬ (b.changes.map PlanChange.index).Nodup
      ∨ (∃ x ∈ b.changes, x.planned < 100 ∨ 40000 < x.planned) ∨ 65535 < b.driver, .refused .badField),
    (¬ s.holdsOne b.ref fun _ => True, .refused .noDelivery),
    (s.holdsOne b.ref fun d => s.owned d = true, .retry .owned),
    (s.holdsOne b.ref fun d => ∃ x ∈ b.changes, ∀ c, d.comp x.index = some c → c.capacity < x.planned,
      .refused .badField),
    (s.holdsOne b.ref fun d =>
      ((b.driving ≠ 0 ∨ b.duty ≠ 0) ∧ d.state ∉ [.booked, .arrived, .atBay, .loaded, .held])
        ∨ (∃ x ∈ b.changes, ∃ c, d.comp x.index = some c ∧ c.state ≠ .planned)
        ∨ (b.driver ≠ 65535 ∧ d.state ≠ .booked), .refused .wrongState)]

/-- The checks of CANCEL before those of its deferral and its entry (R19). -/
def State.cancelChecks (s : State) (ref : Nat) : List (Prop × FrameBody) :=
  [(¬ s.holdsOne ref fun _ => True, .refused .noDelivery),
    (s.holdsOne ref fun d => s.owned d = true, .retry .owned),
    (s.holdsOne ref fun d => d.state = .loaded ∨ d.state = .held ∨ ∃ c ∈ d.comps, 0 < c.acc.G
      ∨ c.state ∈ [.permitted, .flowing, .stopping, .interrupted], .refused .wrongState)]

/-- The checks of DETACH before those of its entry (R22). -/
def State.detachChecks (s : State) (ref : Nat) : List (Prop × FrameBody) :=
  [(¬ s.holdsOne ref fun _ => True, .refused .noDelivery),
    (s.holdsOne ref fun d => s.owned d = true, .retry .owned),
    (s.holdsOne ref fun d => ¬ (d.state = .atBay ∧ ∃ b, d.bay = some b ∧ (s.bay b).link = .silent),
      .refused .wrongState)]

/-- The checks of OVERRIDE before those of its deferral and its entry (R140). -/
def State.overrideChecks (s : State) (ref set supervisor : Nat) : List (Prop × FrameBody) :=
  [(ref = 0 ∨ supervisor = 0 ∨ 32 ≤ set, .refused .badField),
    (¬ s.holdsOne ref fun _ => True, .refused .noDelivery),
    (s.holdsOne ref fun d => s.owned d = true, .retry .owned),
    (s.holdsOne ref fun d => d.state = .booked, .refused .wrongState)]

/-- The checks of ARRIVE before those of its entry (R112, R113). -/
def State.arriveChecks (s : State) (ref n : Nat) (w : Option Declaration) : List (Prop × FrameBody) :=
  [(ref = 0 ∨ n = 0 ∨ 65534 < n ∨ ∃ x, w = some x ∧ (x.days = [] ∨ 14 < x.days.length), .refused .badField),
    (s.time = none, .refused .noTime),
    (¬ s.holdsOne ref fun _ => True, .refused .noDelivery),
    ((s.holdsOne ref fun d => s.owned d = true) ∨ ∃ x, s.driver n = some x ∧ s.driverOwned x = true,
      .retry .owned),
    (s.holdsOne ref fun d => d.state ≠ .booked, .refused .wrongState),
    (s.driver n = none, .refused .unknownDriver),
    (s.holdsOne ref fun d => d.driver ≠ none ∧ d.driver ≠ some n, .refused .driverMismatch),
    (∃ x, s.driver n = some x ∧ x.bound ≠ none, .refused .driverBusy),
    ((∃ x, s.driver n = some x ∧ x.shiftStart = none) ∧ w = none, .refused .needDeclaration)]

/-- The checks of RELEASE before its hold computation: its steps 1 to 6 (R134). -/
def State.releaseChecks (s : State) (ref n : Nat) : List (Prop × FrameBody) :=
  [(ref = 0 ∨ n = 0 ∨ 65534 < n, .refused .badField),
    (¬ s.holdsOne ref fun _ => True, .refused .noDelivery),
    (s.holdsOne ref fun d => s.owned d = true, .retry .owned),
    (s.holdsOne ref fun d => (d.state ≠ .loaded ∧ d.state ≠ .held) ∨ (d.state = .loaded ∧ d.paper = none),
      .refused .notLoaded),
    (s.holdsOne ref fun d => d.driver ≠ some n, .refused .driverMismatch),
    (s.holdsOne ref fun d => ∃ c ∈ d.comps, c.state = .stopping, .refused .wrongState)]

/-- The driver numbers that a request may carry (R108, R110, R111, R120). -/
def driverNumber (n : Nat) : Prop := 1 ≤ n ∧ n ≤ 65534

/-- The checks of DRIVER_REGISTER (R108). -/
def State.registerChecks (s : State) (n : Nat) : List (Prop × FrameBody) :=
  [(¬ driverNumber n, .refused .badField),
    (∃ x, s.driver n = some x ∧ s.driverOwned x = true, .retry .owned),
    (s.driver n = none ∧ 128 ≤ s.drivers.length, .refused .tableFull)]

/-- The checks of DRIVER_REMOVE (R110). -/
def State.removeChecks (s : State) (n : Nat) : List (Prop × FrameBody) :=
  [(¬ driverNumber n, .refused .badField),
    (s.driver n = none, .refused .unknownDriver),
    (∃ x, s.driver n = some x ∧ s.driverOwned x = true, .retry .owned),
    (∃ x, s.driver n = some x ∧ x.bound ≠ none, .refused .inUse)]

/-- The checks of DRIVER_READ (R111). -/
def State.driverReadChecks (s : State) (n : Nat) : List (Prop × FrameBody) :=
  [(¬ driverNumber n, .refused .badField), (s.driver n = none, .refused .unknownDriver)]

/-- The checks of HOURS_QUERY (R120). -/
def State.hoursQueryChecks (s : State) (n : Nat) : List (Prop × FrameBody) :=
  [(¬ driverNumber n, .refused .badField),
    (s.time = none, .refused .noTime),
    (s.driver n = none, .refused .unknownDriver)]

/-- The checks of PAPER_READ (R131). -/
def State.paperReadChecks (s : State) (ref : Nat) : List (Prop × FrameBody) :=
  [(ref = 0, .refused .badField),
    (¬ s.holdsOne ref fun _ => True, .refused .noDelivery),
    (s.holdsOne ref fun d => d.state ∉ [.loaded, .held, .releasing] ∨ d.paper = none, .refused .notLoaded)]

/-- The checks of LOG_READ (R157). -/
def LogStore.readChecks (l : LogStore) (n count : Nat) : List (Prop × FrameBody) :=
  [(count = 0 ∨ 8 < count, .refused .badField),
    (l.everWritten = false ∨ atOrBefore n l.lastWritten = false, .refused .notWritten),
    (∃ p, l.pageOf n = some p ∧ (l.page p).state = .reclaiming, .retry .pageBusy),
    (l.pageOf n = none, .refused .gone)]

/-- The entries that a LOG_READ of `n` and a count gives: those of the numbers n, n + 1, … in order, each stored and
none after the last written number; as many as the count, or all before the first number after the last written
number (R157). -/
def LogStore.reads (l : LogStore) (n count : Nat) (es : List Entry) : Prop :=
  es.length ≤ count
    ∧ (∀ j e, es[j]? = some e → e.seq = (n + j) % 4294967296 ∧ atOrBefore e.seq l.lastWritten = true
      ∧ ∃ p, .entry e ∈ (l.page p).used)
    ∧ (es.length = count ∨ atOrBefore ((n + es.length) % 4294967296) l.lastWritten = false)

/-- No two entries in the store carry one number (R149). -/
def LogStore.seqsDiffer (l : LogStore) : Prop :=
  ∀ p q e f, .entry e ∈ (l.page p).used → .entry f ∈ (l.page q).used → e.seq = f.seq → e = f

/-- The checks of RECLAIM before those of its deferral (R159). -/
def LogStore.reclaimChecks (l : LogStore) (n : Nat) : List (Prop × FrameBody) :=
  [(64 ≤ n, .refused .badField),
    (l.engine.state = .erasing ∨ l.engine.state = .suspended, .retry .reclaimBusy)]

/-- The checks of TIME_SET before those of its entry (R182). -/
def State.timeSetChecks (s : State) (value : Nat) : List (Prop × FrameBody) :=
  [(value = 0, .refused .badField), (∃ now, s.time = some now ∧ value < now, .refused .backwards)]

/-- What R30, check 2, asks of the data of a PRODUCT_DEFINE. -/
def definable (d : ProductData) : Prop :=
  (∀ c ∈ d.name.toList, 0x20 ≤ c.toNat ∧ c.toNat ≤ 0x7E) ∧ d.un ≤ 3600
    ∧ (d.un = 0 → d.cls = 0 ∧ d.division = 0 ∧ d.packing = 0)
    ∧ (d.un ≠ 0 → (1 ≤ d.cls ∧ d.cls ≤ 9) ∧ d.division ≤ 9 ∧ (1 ≤ d.packing ∧ d.packing ≤ 3))
    ∧ d.flash ≤ 1 ∧ tableValid d.points

/-- The checks of PRODUCT_DEFINE, the states UNDEFINED 0, ENABLED 1 and DISABLED 2 (R30). -/
def State.defineChecks (s : State) (b : ProductBody) : List (Prop × FrameBody) :=
  [(b.code = 0 ∨ 16 < b.code ∨ 2 < b.state, .refused .badField),
    (b.state ≠ 0 ∧ ¬ ∃ d, b.data = some d ∧ definable d, .refused .badField),
    (0 < s.inUse b.code, .refused .inUse)]

/-- The bay visited in the exchange in progress is still POLLED, and the exchange sent `sent` (R66, R67). -/
def State.exchanging (s : State) (v : Visit) (sent : Option Message) : Prop :=
  s.phase = .running ∧ s.rack.visit = some v ∧ v.dropped = false
    ∧ ∃ e, s.rack.exchange = some e ∧ e.sent = sent

/-- An outbox without the message that an exchange carried (R63, R73). -/
def withoutSent (box : List Message) : Option Message → List Message
  | none => box
  | some m => box.erase m

/-- A line between two exchanges of a visit, `n` of which have ended (R68). -/
def Rack.between (r : Rack) (b : BayNo) (n : Nat) : Rack :=
  { r with visit := some ⟨b, n, false⟩, exchange := none }

/-- The line once a visit has ended: the next bay of the round is to be visited, or, with none left, a new
round of the POLLED bays begins in ascending order, with an ALL_STOP owed first while the latch is set (R66,
R68, R76). -/
def State.lineAfterVisit (s : State) : Rack :=
  if s.rack.roundLeft = [] then
    { s.rack with
      visit := none
      exchange := none
      roundLeft := (List.finRange 12).filter fun b => s.polled b
      roundStop := s.latch.isSet && (List.finRange 12).any fun b => s.polled b }
  else { s.rack with visit := none, exchange := none }

/-- The bay of a visit, not SILENT, after a valid answer to an exchange that carried `sent`: ONLINE with no
miss, the message out of its outbox, and, with a DISMISS, its cancelled delivery left behind (R20, R70, R73). -/
def BayRecord.heard (r : BayRecord) (sent : Option Message) : BayRecord :=
  { r with
    link := .online
    missed := 0
    outbox := withoutSent r.outbox sent
    withdrawn := if sent = some .dismiss then none else r.withdrawn }

/-- The state in which an answer of the visited bay is taken (R73). -/
def State.heard (s : State) (v : Visit) (sent : Option Message) : State :=
  { s with bays := s.bays.set v.bay.val ((s.bay v.bay).heard sent) v.bay.isLt }

/-- An exchange that ended in a valid answer is over: the visit ends with an empty outbox or at its third
exchange, else its next exchange is due (R68). -/
def State.exchangeOver (s : State) (v : Visit) : State :=
  { s with rack := if (s.bay v.bay).outbox = [] ∨ 2 ≤ v.exchanges then s.lineAfterVisit
    else s.rack.between v.bay (v.exchanges + 1) }

/-- The outcome of a bay's request: its VERDICT stands at the front of the outbox, and the exchange is over
(R74). -/
def State.judged (s : State) (v : Visit) (q : BayRequest) (x : Option Arm) (deny : Option DenyReason) : State :=
  State.exchangeOver
    { s with
      bays := s.bays.set v.bay.val
        { s.bay v.bay with outbox := .verdict q x deny :: (s.bay v.bay).outbox } v.bay.isLt } v

/-- The end of the session of the delivery `d` of slot `i` at bay `b`: PLANNED compartments are VOID, the
binding is cleared on both sides, and a loaded delivery goes to LOADED with the first version of a new paper,
or without one once the counter is exhausted; any other goes back to ARRIVED (R8, R125 to R127). -/
def State.sessionOver (s : State) (i : SlotNo) (d : Delivery) (b : BayNo) : State :=
  let e := { d with
    comps := d.comps.map fun c => if c.state = .planned then { c with state := .void } else c
    bay := none }
  let bays := s.bays.set b.val { s.bay b with bound := none } b.isLt
  if ∀ c ∈ d.comps, c.state ≠ .interrupted ∧ (c.state = .done → c.acc.G = 0) then
    { s with dispatch := s.dispatch.set i.val (some { e with state := .arrived }) i.isLt, bays := bays }
  else if s.log.paperCounter < 4294967295 then
    let paper : Paper := ⟨s.log.paperCounter + 1, 1, s.now, d.comps.any fun c => c.state == .interrupted,
      s.paperLines e⟩
    { s with
      dispatch := s.dispatch.set i.val (some { e with
        state := .loaded
        comps := e.comps.map fun c =>
          if c.state = .done ∨ c.state = .interrupted then { c with acc := c.acc.afterReadouts } else c
        paper := some paper }) i.isLt
      bays := bays
      log := (State.offer { s with log := { s.log with paperCounter := s.log.paperCounter + 1 } }
        d.ref (d.driver.getD 0) (.paper paper.number 1 paper.provisional paper.lines.length
          (paper.lines.map PaperLine.net).sum (paper.lines.map PaperLine.gross).sum)).log }
  else { s with dispatch := s.dispatch.set i.val (some { e with state := .loaded }) i.isLt, bays := bays }

/-- The store with the front entry in the lowest empty slot of page `p` (R154). -/
def LogStore.stored (l : LogStore) (e : Entry) (rest : List Entry) (pages : Vector Page 64) :
    LogStore :=
  { l with
    pages := pages
    queue := rest
    lastWritten := e.seq
    everWritten := true
    writing := false }

/-- The tail in a store with no FILLING page: the FULL page whose last entry is after that of every other FULL
page in serial order (R149, R190). -/
def LogStore.tailIs (l : LogStore) (tail : PageNo) (e : Entry) : Prop :=
  (l.page tail).state = .full ∧ (l.page tail).lastEntry = some e
    ∧ ∀ q x, q ≠ tail → (l.page q).state = .full → (l.page q).lastEntry = some x →
      atOrBefore x.seq e.seq = true ∧ atOrBefore e.seq x.seq = false

/-- The pages at the end of step 2: where none is FILLING, the page after the tail becomes FILLING if it is FREE
(R190). Where no FULL page holds an entry R190 names no page, and the lowest FREE page becomes FILLING (log entry
21). -/
def LogStore.pagesFound (l : LogStore) (pages : Vector Page 64) : Prop :=
  let filled := fun p : PageNo => l.pages.set p.val ⟨.filling, (l.page p).used⟩ p.isLt
  ((∃ p, (l.page p).state = .filling) ∧ pages = l.pages)
    ∨ ((∀ p, (l.page p).state ≠ .filling)
      ∧ ((∃ tail e, l.tailIs tail e
          ∧ ((∃ p, l.nextPage tail = some p ∧ (l.page p).state = .free ∧ pages = filled p)
            ∨ ((∀ p, l.nextPage tail = some p → (l.page p).state ≠ .free) ∧ pages = l.pages)))
        ∨ ((∀ q, (l.page q).state = .full → (l.page q).lastEntry = none)
          ∧ ((∃ p, (l.page p).state = .free ∧ (∀ q, q < p → (l.page q).state ≠ .free) ∧ pages = filled p)
            ∨ ((∀ p, (l.page p).state ≠ .free) ∧ pages = l.pages)))))

/-- Where start-up goes on to once step 1 or an erase of step 2 is over: to step 2 while a page is RECLAIMING, else
to step 3 with the pages found (R190). -/
def LogStore.goesOn (l : LogStore) (phase : Phase) (pages : Vector Page 64) : Prop :=
  ((∃ p, (l.page p).state = .reclaiming) ∧ phase = .step2 ∧ pages = l.pages)
    ∨ ((∀ p, (l.page p).state ≠ .reclaiming) ∧ phase = .step3 ∧ l.pagesFound pages)

/-- Where a start begins: at step 1 while the reset input is asserted, else as at its end (R188, R190). -/
def State.startsAt (s : State) (phase : Phase) (pages : Vector Page 64) : Prop :=
  (s.resetInput = true ∧ phase = .step1 ∧ pages = s.log.pages)
    ∨ (s.resetInput = false ∧ s.log.goesOn phase pages)

/-- The last written number that the scan fixes where no write was cut short: that of the last entry on the page
scanned; else of the last entry on the page before it, if that is FULL; else, in a store without entries, the export
mark; and, where no page is FILLING, of the latest entry on the tail (R191). -/
def LogStore.scanFinds (l : LogStore) (n : Nat) : Prop :=
  (∃ p, (l.page p).state = .filling ∧ (∀ q, (l.page q).state = .filling → q = p) ∧ (l.page p).used.length < 32
      ∧ ((∃ e, (l.page p).lastEntry = some e ∧ n = e.seq)
        ∨ ((l.page p).lastEntry = none ∧ ∃ q e, l.pageBefore p = some q ∧ (l.page q).state = .full
          ∧ (l.page q).lastEntry = some e ∧ n = e.seq)
        ∨ (l.entries = [] ∧ n = l.exportMark)))
    ∨ ((∀ p, (l.page p).state ≠ .filling) ∧ ∃ tail e, l.tailIs tail e ∧ n = e.seq)

/-- The store at the next moment: an erase that waited for the queue to empty goes on, and the next write
begins, its entry taking the lost count (R152, R154, R162). -/
def LogStore.onward (l : LogStore) : LogStore :=
  match l.queue with
  | [] => if l.engine.state = .suspended then
      { l with engine := { l.engine with state := .erasing, suspendBy := none } } else l
  | e :: rest =>
    if l.engine.state = .erasing then l
    else
      match e.lost with
      | some _ => { l with writing := true }
      | none =>
        { l with
          writing := true
          queue := { e with lost := some l.lostCount } :: rest
          lostCount := 0 }

/-- An outbox with a STOP queued for an arm: a STOP that waits serves, a PERMIT gives its place, else the STOP
joins the back (R64). -/
def stopQueued (a : Arm) (box : List Message) : List Message :=
  if Message.stop a ∈ box then box
  else if box.any (Message.isPermit a) then
    box.map fun m => if m.isPermit a then .stop a else m
  else box ++ [.stop a]

/-- A bay's outbox with a STOP queued, unless the bay is SILENT or NOT_POLLED (R65). -/
def State.boxWithStop (s : State) (b : BayNo) (a : Arm) : List Message :=
  if s.polled b = true ∧ (s.bay b).link ≠ .silent then stopQueued a (s.bay b).outbox
  else (s.bay b).outbox

/-- A delivery with the compartment of an index changed. -/
def Delivery.withComp (d : Delivery) (index : Nat) (c : Compartment) : Delivery :=
  { d with comps := d.comps.map fun y => if y.index = index then c else y }

/-- The next version of a delivery's paper (R126, R128, R129). -/
def State.nextVersion (s : State) (d : Delivery) (p : Paper) : Paper :=
  ⟨p.number, p.version + 1, s.now, d.comps.any fun c => c.state == .interrupted, s.paperLines d⟩

/-- The record after the readouts of the compartments on its paper (R51, R126). -/
def Delivery.withReadouts (d : Delivery) : Delivery :=
  { d with comps := d.comps.map fun c =>
    if c.state = .done ∨ c.state = .interrupted then { c with acc := c.acc.afterReadouts } else c }

/-- What a report finds: the set after its increment and its net readout, with the flags of the checks and, where
it ends an interruption, GAP; and whether it found a cut-off (R47, R89, R92). -/
def Report.found (q : Report) (points : List CorrPoint) (a : Acc) (planned capacity allowance : Nat)
    (interrupted : Bool) : Acc × Bool :=
  let inc := increment points a q.cumulative q.temp
  let full := decide (10 * capacity ≤ inc.acc.G)
  let past := decide (planned + allowance < inc.acc.net)
  ({ inc.acc with flags := { inc.acc.flags with
      limited := inc.acc.flags.limited || decide (42949345280 ≤ inc.acc.A)
      capacity := inc.acc.flags.capacity || full
      overplan := inc.acc.flags.overplan || past
      gap := inc.acc.flags.gap || interrupted } },
    full || past || decide (q.cumulative < a.L))

/-- A compartment once it has reached DONE: VOID where nothing was metered (R96). -/
def Compartment.ended (c : Compartment) : Compartment :=
  { c with
    acc := c.acc.afterReadouts
    state := if c.acc.G = 0 then .void else .done
    deadline := none
    arm := none }

/-- The compartment `c` of the delivery `d` in slot `i` has reached DONE at an arm: the arm is free, the
COMPARTMENT entry is offered, and the paper of a LOADED or HELD delivery has its next version, with its PAPER
entry (R96, R127, R128). -/
def State.doneAt (s : State) (i : SlotNo) (d : Delivery) (c : Compartment) (b : BayNo) (a : Arm) : State :=
  let e := d.withComp c.index c.ended
  let logged := s.offer d.ref 0 (.compartment b a c.index c.product c.ended.state c.acc.net c.acc.gross
    c.acc.average c.ended.acc.flags)
  let freed := s.bays.set b.val ((s.bay b).setArmRecord a .free) b.isLt
  match if d.state = .loaded ∨ d.state = .held then d.paper else none with
  | none =>
    { s with dispatch := s.dispatch.set i.val (some e) i.isLt, bays := freed, log := logged.log }
  | some p =>
    let q := s.nextVersion e p
    { s with
      dispatch := s.dispatch.set i.val (some { e.withReadouts with paper := some q }) i.isLt
      bays := freed
      log := (logged.offer d.ref (d.driver.getD 0) (.paper q.number q.version q.provisional q.lines.length
        (q.lines.map PaperLine.net).sum (q.lines.map PaperLine.gross).sum)).log }

/-- The orphan `o` of an arm has reached DONE: its LATE_QUANTITY entry is offered and the arm is free (R103). -/
def State.orphanDone (s : State) (b : BayNo) (a : Arm) (o : Orphan) : State :=
  { s with
    bays := s.bays.set b.val ((s.bay b).setArmRecord a .free) b.isLt
    log := (s.offer o.ref 0 (.lateQuantity b a o.index o.product o.acc.net o.acc.gross o.acc.average
      o.acc.afterReadouts.flags)).log }

/-- What an arm refers to is an active compartment or a STOPPING orphan. -/
def State.armActive (s : State) (b : BayNo) (a : Arm) : Bool :=
  match s.arm b a with
  | .free => false
  | .compartment i index => (s.comp i index).any fun c =>
    c.state == .permitted || c.state == .flowing || c.state == .stopping
  | .orphan o => o.state == .stopping

/-- The arm refers to an INTERRUPTED compartment or holds an orphan (R72, step 3). -/
def State.armInterrupted (s : State) (b : BayNo) (a : Arm) : Bool :=
  match s.arm b a with
  | .free => false
  | .compartment i index => (s.comp i index).any fun c => c.state == .interrupted
  | .orphan _ => true

/-- A compartment at a latch event: a PERMITTED one returns to PLANNED and lets go of its arm, a FLOWING one sets
SHUTDOWN and goes to STOPPING until `stop` (R100). -/
def Compartment.atLatch (stop : Nat) (c : Compartment) : Compartment :=
  if c.state = .permitted then { c with state := .planned, deadline := none, arm := none }
  else if c.state = .flowing then
    { c with
      state := .stopping
      deadline := some ⟨.stopDeadline, stop⟩
      acc := { c.acc with flags := { c.acc.flags with shutdown := true } } }
  else c

/-- The compartments that are PERMITTED or FLOWING (R100). -/
def State.flows (s : State) : Nat :=
  ((List.finRange 16).map fun i => match s.slot i with
    | none => 0
    | some d => d.comps.countP fun c => c.state == .permitted || c.state == .flowing).sum

/-- The arms of a bay that a latch event stops: those of its PERMITTED and FLOWING compartments, in slot and booking
order, which is the model's choice (R100, log entry 37). -/
def State.armsStopped (s : State) (b : BayNo) : List Arm :=
  (List.finRange 16).flatMap fun i => match s.slot i with
    | none => []
    | some d => d.comps.filterMap fun c => match c.arm with
      | none => none
      | some x => if x.bay = b ∧ (c.state = .permitted ∨ c.state = .flowing) then some x.arm else none

/-- What a latch event makes of `s`, in the tables of `t`: each PERMITTED compartment returns to PLANNED and frees
its arm, each FLOWING one goes to STOPPING for 30 s, every other compartment and every other arm record stays; and
in the outbox of a bay that can be told a STOP is queued for each arm concerned, in the place of a PERMIT that
waits, while every other message stays, and every other outbox (R64, R65, R100). -/
def State.stoppedBy (s t : State) : Prop :=
  (∀ i, t.slot i = (s.slot i).map fun d =>
    { d with comps := d.comps.map (Compartment.atLatch (s.elapsed + 30000000)) })
  ∧ (∀ b, t.bay b = { s.bay b with
    armA := (t.bay b).armA, armB := (t.bay b).armB, outbox := (t.bay b).outbox })
  ∧ (∀ b a, t.arm b a = .free ∨ t.arm b a = s.arm b a)
  ∧ (∀ i d c b a, s.slot i = some d → c ∈ d.comps → c.arm = some ⟨b, a⟩ →
    c.state = .permitted → t.arm b a = .free)
  ∧ (∀ b a, (∀ i d c, s.slot i = some d → c ∈ d.comps → c.arm = some ⟨b, a⟩ → c.state ≠ .permitted) →
    t.arm b a = s.arm b a)
  ∧ ∀ b, (t.bay b).outbox = if s.polled b = true ∧ (s.bay b).link ≠ .silent then
      (s.armsStopped b).foldl (fun box a => stopQueued a box) (s.bay b).outbox
    else (s.bay b).outbox

/-- A compartment after a granted FAULT: an active or INTERRUPTED one gets FAULT, and a PERMITTED or FLOWING one
goes to STOPPING until `stop` (R87). -/
def Compartment.faulted (stop : Nat) (c : Compartment) : Compartment :=
  let flagged := { c with acc := { c.acc with flags := { c.acc.flags with fault := true } } }
  if c.state = .permitted ∨ c.state = .flowing then
    { flagged with state := .stopping, deadline := some ⟨.stopDeadline, stop⟩ }
  else if c.state = .stopping ∨ c.state = .interrupted then flagged
  else c

/-- An arm record with FAULT set on its orphan, if it holds one (R87). -/
def ArmRecord.faulted : ArmRecord → ArmRecord
  | .orphan o => .orphan { o with acc := { o.acc with flags := { o.acc.flags with fault := true } } }
  | x => x

/-- A port after the REPLY to the request that awaits the entry of a number, if one does (R173). -/
def PortState.replied (x : PortState) (seq : Nat) (body : FrameBody) : PortState :=
  { x with
    outgoing := x.outgoing ++ (x.deferred.filter (Deferred.awaits seq)).map fun y =>
      ⟨y.tag, y.code, body⟩
    deferred := x.deferred.filter fun y => !Deferred.awaits seq y }

/-- The office port after the REPLYs to the RECLAIMs that name a page (R173). -/
def PortState.repliedPage (x : PortState) (page : PageNo) (outcome : PageOutcome) : PortState :=
  { x with
    outgoing := x.outgoing ++ (x.deferred.filter (Deferred.namesPage page)).map fun y =>
      ⟨y.tag, y.code, .replyPage outcome page⟩
    deferred := x.deferred.filter fun y => !Deferred.namesPage page y }

/-- The outcome of a page that the engine skips, or none where it takes the page (R161). -/
def LogStore.outcomeOf (l : LogStore) (p : PageNo) : Option PageOutcome :=
  if (l.page p).state = .bad then some .bad
  else if (l.page p).state = .free ∨ (l.page p).state = .filling then some .notFull
  else if ((l.page p).lastEntry.all fun e => atOrBefore e.seq l.exportMark) = false then some .notExported
  else if l.head ≠ some p then some .notOldest
  else none

/-- Pages taken in order: those before the first that is erased are skipped, each with its outcome; that one is
RECLAIMING, and its erase begins at once or waits SUSPENDED for the writes; with none to erase the engine is
IDLE (R160 to R162). -/
def State.pagesTaken (s : State) (order : List PageNo) : State :=
  { s with
    office := (order.takeWhile fun p => (s.log.outcomeOf p).isSome).foldl
      (fun x p => x.repliedPage p ((s.log.outcomeOf p).getD .bad)) s.office
    log := match order.dropWhile fun p => (s.log.outcomeOf p).isSome with
      | [] => { s.log with engine := ⟨.idle, [], none, none⟩ }
      | p :: rest =>
        { s.log with
          pages := s.log.pages.set p.val ⟨.reclaiming, (s.log.page p).used⟩ p.isLt
          engine := ⟨if s.log.queue = [] ∧ s.log.writing = false then .erasing else .suspended, p :: rest,
            none, none⟩ } }

/-- The part once steps 4 to 6 have followed a scan: the store status by the pages that are not BAD, the shutdown
latch sampled again with STORE in it at FAILED, the START_UP entry offered with what the scan voided and dropped, and
the ports open with the first ring round, an ALL_STOP before it while the latch is set (R79, R192, R193). -/
def State.opened (s : State) (voided dropped : Nat) : State :=
  let good := (List.finRange 64).countP fun q => (s.log.page q).state != .bad
  let status := if good = 64 then StoreStatus.ready else if 4 ≤ good then .degraded else .failed
  let latch := { s.latch with
    input := s.latch.input || s.shutdownInput
    store := s.latch.store || decide (status = .failed) }
  { s with
    phase := .running
    latch := latch
    rack := ⟨(List.finRange 12).filter fun b => s.polled b, none, none, false,
      latch.isSet && (List.finRange 12).any fun b => s.polled b, []⟩
    log := (State.offer { s with log := { s.log with status := status } } 0 0
      (.startUp s.lastStart status latch s.startErased s.startBad voided dropped)).log.onward }

/-- The table with an EXPIRING delivery back in BOOKED where the entry `x`, dropped unwritten, is its EXPIRE entry
(R191). -/
def Delivery.withdrawnBy (x : Entry) (d : Delivery) : Delivery :=
  if x.payload.code = 12 ∧ d.ref = x.ref ∧ d.state = .expiring then { d with state := .booked } else d

/-- The part once the EXPIRE entries of the deliveries in some slots have been admitted one after another, whatever
the queue holds; a statement that uses it says of each that the queue admits it (R14, R151). -/
def State.expiriesAdmitted (s : State) (slots : List SlotNo) (u : State) : State :=
  slots.foldl (fun x i => match s.slot i with
    | none => x
    | some d => x.admitEntry d.ref 0 (.expire d.deadline d.vehicle)) u

/-- A compartment after a start: an active one is INTERRUPTED and has lost its deadline (R24). -/
def afterStart (c : Compartment) : Compartment :=
  if c.state = .permitted ∨ c.state = .flowing ∨ c.state = .stopping then
    { c with state := .interrupted, deadline := none }
  else c

/-- An arm record after a warm start: an orphan is INTERRUPTED and has no deadline (R62). -/
def armAfterStart : ArmRecord → ArmRecord
  | .orphan o => .orphan { o with state := .interrupted, deadline := none }
  | x => x

/-! ### Averages and paper lines -/

/-- An average temperature: the quotient of a temperature sum by a gross total, rounded toward zero, absent where
the gross total is 0 (R50, R54). -/
def averages (sum : Int) (gross : Nat) (x : Option Int) : Prop :=
  if gross = 0 then x = none
  else ∃ t, x = some t ∧ t.natAbs * gross ≤ sum.natAbs ∧ sum.natAbs < (t.natAbs + 1) * gross
    ∧ (0 ≤ sum → 0 ≤ t) ∧ (sum ≤ 0 → t ≤ 0)

/-- The compartments of a product's line: those of that product that are DONE or INTERRUPTED (R52). -/
def Delivery.onLine (d : Delivery) (code : Nat) : List Compartment :=
  d.comps.filter fun c => c.product == code && (c.state == .done || c.state == .interrupted)

/-! ### Settings, ports, queue -/

/-- Each stored value lies within its range (R184). -/
def SettingsLaw (s : State) : Prop :=
  (240 ≤ s.settings.daily ∧ s.settings.daily ≤ 900)
    ∧ (1200 ≤ s.settings.rolling ∧ s.settings.rolling ≤ 6000)
    ∧ (360 ≤ s.settings.shift ∧ s.settings.shift ≤ 1080)
    ∧ (60 ≤ s.settings.validity ∧ s.settings.validity ≤ 4320)
    ∧ s.settings.allowance ≤ 500
    ∧ (300 ≤ s.settings.flowing ∧ s.settings.flowing ≤ 3600)
    ∧ (60 ≤ s.settings.permit ∧ s.settings.permit ≤ 900)
    ∧ (1 ≤ s.settings.settle ∧ s.settings.settle ≤ 10)

/-- A deferred table holds at most 8 requests, with pairwise different tags (R172). -/
def PortState.deferredLaw (x : PortState) : Prop :=
  x.deferred.length ≤ 8 ∧ (x.deferred.map Deferred.tag).Nodup

def DeferredLaw (s : State) : Prop := s.office.deferredLaw ∧ s.gate.deferredLaw

/-- A port serves one request at a time: at most 4 wait, with at most 8 refusal records; with none in
service none waits; and the outgoing list holds an immediate response exactly while a request is in
service (R168, R169). -/
def PortState.serviceLaw (x : PortState) : Prop :=
  x.waiting ≤ 4 ∧ x.records ≤ 8 ∧ (x.inService = none → x.queue = [])
    ∧ (x.outgoing.countP fun f => f.body.immediate) = x.inService.toList.length
    ∧ x.errors ≤ 65535

def ServiceLaw (s : State) : Prop := s.office.serviceLaw ∧ s.gate.serviceLaw

/-- The append queue holds at most 24 entries, and the lost count stays within 255 (R151, R152). -/
def QueueLaw (s : State) : Prop := s.log.queue.length ≤ Config.queueCapacity ∧ s.log.lostCount ≤ 255

/-- The numbers that follow the last written number, in order (R149). -/
def numbersAfter (last count : Nat) : List Nat :=
  (List.range count).map fun k => (last + 1 + k) % Config.wrap32

/-- Queued entries carry the consecutive numbers that follow the last written number, and the next number
is the one after them (R149). -/
def NumberLaw (s : State) : Prop :=
  s.log.queue.map Entry.seq = numbersAfter s.log.lastWritten s.log.queue.length
    ∧ s.log.nextNumber = (s.log.lastWritten + 1 + s.log.queue.length) % Config.wrap32

/-! ### Pages -/

/-- The used slots of a page suit its state (R145). -/
def Page.lawful (x : Page) : Prop :=
  match x.state with
  | .free | .bad => x.used = []
  | .filling => x.used.length < Config.pageSlots
  | .full | .reclaiming => x.used.length = Config.pageSlots

/-- Every page's slots suit its state; at most one page is FILLING; and once step 2 of start-up has ended
a page is RECLAIMING only while the engine is ERASING or SUSPENDED on it (R145, R146). -/
def PageLaw (s : State) : Prop :=
  (∀ p, (s.log.page p).lawful)
    ∧ (∀ p q, (s.log.page p).state = .filling → (s.log.page q).state = .filling → p = q)
    ∧ (s.phase = .step3 ∨ s.phase = .running → ∀ p, (s.log.page p).state = .reclaiming →
        s.phase = .running
          ∧ (s.log.engine.state = .erasing ∨ s.log.engine.state = .suspended)
          ∧ s.log.engine.set.head? = some p)

/-- The entries of the store in ring order from the page after the tail to the tail: from the head to the tail
(R146). -/
def LogStore.inOrder (l : LogStore) : List Entry :=
  match l.tail with
  | none => l.entries
  | some t => (ringAfter t).flatMap fun p => (l.page p).entries

/-- The number of numbers after the export mark, up to the last written number (R149, R158). -/
def LogStore.unexported (l : LogStore) : Nat :=
  (l.lastWritten + (Config.wrap32 - l.exportMark % Config.wrap32)) % Config.wrap32

/-- The order of the store (R145 to R147, R149, R163). -/
structure LogStore.Ordered (l : LogStore) : Prop where
  /-- The last written number is a number of four bytes. -/
  last : l.lastWritten < Config.wrap32
  /-- Written entries carry consecutive numbers from head to tail, up to the last written number. -/
  numbers : l.inOrder.map Entry.seq =
    numbersAfter (l.lastWritten + Config.wrap32 - l.inOrder.length) l.inOrder.length
  /-- Walking from the page after the tail, FREE pages come before the head. -/
  freeFirst : ∀ t, l.tail = some t → (ringAfter t).dropLast.Pairwise fun p q =>
    (l.page p).state.holds = true → (l.page q).state ≠ .free
  /-- A store with a tail and no page FILLING has no FREE page. -/
  full : l.tail ≠ none → l.filling = none → ∀ p, (l.page p).state ≠ .free
  /-- A page being erased is the head. -/
  oldest : ∀ p, (l.page p).state = .reclaiming → l.head = some p
  /-- The engine at work has its page RECLAIMING. -/
  working : l.engine.state = .erasing ∨ l.engine.state = .suspended →
    ∃ p rest, l.engine.set = p :: rest ∧ (l.page p).state = .reclaiming
  /-- A slot is left for every queued entry: free space is never below 0. -/
  room : l.queue.length ≤ l.emptySlots + Config.pageSlots * l.usablePages

/-- The store of a part keeps its order (R145 to R147, R149). -/
def OrderLaw (s : State) : Prop := s.log.Ordered

/-- The export mark is at or before the last written number, every entry after it is still in the store, and every
entry on a page being erased is at or before it (R149, R158, R161). -/
def LogStore.marked (l : LogStore) : Prop :=
  atOrBefore l.exportMark l.lastWritten = true
    ∧ l.unexported ≤ l.inOrder.length
    ∧ ∀ p, (l.page p).state = .reclaiming → ∀ e, .entry e ∈ (l.page p).used →
      atOrBefore e.seq l.exportMark = true

def MarkLaw (s : State) : Prop := s.log.marked

/-! ### Deliveries -/

/-- A compartment's arm, deadline and gross total suit its state (R3, R51, R88). -/
def Compartment.lawful (c : Compartment) : Prop :=
  (c.arm.isSome ↔ c.state.armed) ∧ (c.deadline.isSome ↔ c.state.active)
    ∧ (c.state = .planned ∨ c.state = .permitted ∨ c.state = .void → c.acc.G = 0)
    ∧ (c.state = .done → 0 < c.acc.G)

/-- The compartments of a delivery: 1 to 6, with different indices of 1..6, each lawful (R2, R3). -/
def Delivery.compsLawful (d : Delivery) : Prop :=
  d.comps.length ≤ 6 ∧ d.comps ≠ [] ∧ (d.comps.map Compartment.index).Nodup
    ∧ ∀ c ∈ d.comps, (1 ≤ c.index ∧ c.index ≤ 6) ∧ c.lawful

/-- Every compartment record of the dispatch table is lawful (R2, R3, R51, R88). -/
def CompartmentLaw (s : State) : Prop := ∀ i d, s.slot i = some d → d.compsLawful

/-- The states from ARRIVED to RELEASING, in which a driver is named (R6). -/
def DelState.namesDriver : DelState → Bool
  | .arrived | .atBay | .loaded | .held | .releasing => true
  | _ => false

/-- A delivery record's fields suit its state: a trip in range, a driver from ARRIVED on, and holds in
HELD alone (R2, R6). -/
def Delivery.lawful (d : Delivery) : Prop :=
  d.ref ≠ 0 ∧ (1 ≤ d.driving ∧ d.driving ≤ 900) ∧ d.driving ≤ d.duty ∧ d.duty ≤ 1200
    ∧ (d.state.namesDriver → d.driver.isSome) ∧ (d.state ≠ .held → d.holds = HoldSet.empty)

/-- Every delivery record is lawful, no two carry one reference, and terminal time is set while the table
holds one (R1, R2, R6, R126). -/
def DeliveryLaw (s : State) : Prop :=
  (∀ i d, s.slot i = some d → d.lawful)
    ∧ (∀ i j d e, s.slot i = some d → s.slot j = some e → d.ref = e.ref → i = j)
    ∧ (s.time = none → ∀ i, s.slot i = none)

/-- A delivery in AT_BAY is bound to exactly one bay whose bound delivery is that same delivery, and no
delivery in any other state is bound (R4). A bay's note of a cancelled delivery names one that is
CANCELLING (log entry 44). -/
def BindingLaw (s : State) : Prop :=
  (∀ i d, s.slot i = some d → (d.state = .atBay ↔ d.bay.isSome))
    ∧ (∀ i d b, s.slot i = some d → d.bay = some b → (s.bay b).bound = some i)
    ∧ (∀ b i, (s.bay b).bound = some i → ∃ d, s.slot i = some d ∧ d.bay = some b)
    ∧ (∀ b i, (s.bay b).withdrawn = some i → ∃ d, s.slot i = some d ∧ d.state = .cancelling)

/-- A compartment's arm field and the arm record it names refer to each other, until the compartment is made an
orphan, from when on its delivery is RELEASING and the arm record refers to it no longer (R5). -/
def ArmLaw (s : State) : Prop :=
  (∀ b a i index, s.arm b a = .compartment i index → ∃ d, s.slot i = some d ∧ d.state ≠ .releasing
      ∧ ∃ c ∈ d.comps, c.index = index ∧ c.arm = some ⟨b, a⟩)
    ∧ ∀ i d, s.slot i = some d → ∀ c ∈ d.comps, ∀ b a, c.arm = some ⟨b, a⟩ → d.state ≠ .releasing →
      s.arm b a = .compartment i c.index

/-- Where an armed compartment may be: at the bay of an AT_BAY delivery; of a LOADED or HELD one, waiting for its
bay's return or STOPPING after it; of a RELEASING one, INTERRUPTED; and in no other delivery. At a SILENT bay it is
INTERRUPTED (R5, R8, R19, R71, R86, R92, R134). -/
def SessionLaw (s : State) : Prop :=
  ∀ i d, s.slot i = some d → ∀ c ∈ d.comps, ∀ b a, c.arm = some ⟨b, a⟩ →
    ((s.bay b).link = .silent → c.state = .interrupted)
      ∧ match d.state with
        | .atBay => d.bay = some b
        | .loaded | .held => c.state = .stopping ∨ c.state = .interrupted
        | .releasing => c.state = .interrupted
        | .booked | .arrived | .cancelling | .expiring => False

/-- The bounds of an accumulator set (R40). -/
def Acc.lawful (a : Acc) : Prop :=
  a.L ≤ 16777215 ∧ a.A ≤ boundA ∧ a.G ≤ boundG ∧ -boundS ≤ a.S ∧ a.S ≤ boundS

/-- Every accumulator set, of a compartment or an orphan, stays within its bounds (R40, R46). -/
def AccumulatorLaw (s : State) : Prop :=
  (∀ i d, s.slot i = some d → ∀ c ∈ d.comps, c.acc.lawful)
    ∧ (∀ b x o, s.arm b x = .orphan o → o.acc.lawful)

/-- While the latch is set, and while the part is not running after a start, no compartment is PERMITTED
or FLOWING (R24, R100). -/
def LatchLaw (s : State) : Prop :=
  s.latch.isSet ∨ (s.phase ≠ .running ∧ s.phase ≠ .unpowered) →
    ∀ i d, s.slot i = some d → ∀ c ∈ d.comps, c.state ≠ .permitted ∧ c.state ≠ .flowing

/-- Papers carry different numbers, none above the paper counter (R125). -/
def PaperLaw (s : State) : Prop :=
  (∀ i d p, s.slot i = some d → d.paper = some p →
      1 ≤ p.number ∧ p.number ≤ s.log.paperCounter ∧ 1 ≤ p.version)
    ∧ (∀ i j d e p q, s.slot i = some d → s.slot j = some e → d.paper = some p → e.paper = some q →
      p.number = q.number → i = j)

/-! ### Bays -/

/-- The missed count suits the link state (R60, R70). -/
def BayRecord.linkLawful (r : BayRecord) : Prop :=
  match r.link with
  | .online => r.missed = 0
  | .suspect => r.missed = 1 ∨ r.missed = 2
  | .silent => r.missed = 3

/-- Link states and missed counts agree, a bay that is not POLLED is SILENT, a visit has at most three
exchanges, and only POLLED bays are visited (R60, R66, R68, R70, R78). -/
def LinkLaw (s : State) : Prop :=
  (∀ b, (s.bay b).linkLawful ∧ (s.polled b = false → (s.bay b).link = .silent)
      ∧ (s.bay b).checkErrors ≤ 65535 ∧ (s.bay b).missedTotal ≤ 65535)
    ∧ (∀ v, s.rack.visit = some v → v.exchanges ≤ 2 ∧ (v.dropped = false → s.polled v.bay = true))
    ∧ (∀ b ∈ s.rack.roundLeft, s.polled b = true)
    ∧ (s.rack.exchange.isSome → s.rack.visit.isSome)

/-- Whether a message is a PERMIT or a STOP for an arm. -/
def Message.forArm (a : Arm) (m : Message) : Bool := m.isPermit a || m.isStop a

/-- An outbox holds at most one PERMIT or STOP for each arm, one VERDICT and one DISMISS; a bay for which a
DISMISS waits is bound to nothing; a SILENT bay's outbox is empty (R64, R65, R71, R74). -/
def BayRecord.outboxLawful (r : BayRecord) : Prop :=
  (∀ a, r.outbox.countP (Message.forArm a) ≤ 1) ∧ r.outbox.countP Message.isVerdict ≤ 1
    ∧ r.outbox.countP Message.isDismiss ≤ 1
    ∧ (r.outbox.any Message.isDismiss → r.bound = none) ∧ (r.link = .silent → r.outbox = [])

def OutboxLaw (s : State) : Prop := ∀ b, (s.bay b).outboxLawful

/-! ### Products and drivers -/

/-- An entry's fields as PRODUCT_DEFINE accepts them (R27, R28, R30). -/
def Product.defined (e : Product) : Prop :=
  e.name.toArray.toList.all printable ∧ e.un ≤ 3600
    ∧ (if e.un = 0 then e.cls = 0 ∧ e.division = 0 ∧ e.packing = .none
      else (1 ≤ e.cls ∧ e.cls ≤ 9) ∧ e.division ≤ 9 ∧ e.packing ≠ .none)
    ∧ validTable e.points

/-- An entry is UNDEFINED with its empty contents, or has lawful data (R26, R27). -/
def Product.lawful (e : Product) : Prop :=
  if e.state = .undefined then e = Product.undefined else e.defined

/-- Every product entry is lawful, and every code that a compartment or an orphan names is defined, so that
a correction table read for an increment is valid (R29, R36). -/
def ProductLaw (s : State) : Prop :=
  (∀ k : Fin 16, (s.products.get k).lawful)
    ∧ (∀ i d, s.slot i = some d → ∀ c ∈ d.comps, (s.product c.product).state ≠ .undefined)
    ∧ (∀ b x o, s.arm b x = .orphan o → (s.product o.product).state ≠ .undefined)

/-- A slot of a day ring: driving not above duty, duty not above 1,440, and no day after the current day
(R106). -/
def slotLawful (today : Nat) (e : DayEntry) : Prop :=
  e.driving ≤ e.duty ∧ e.duty ≤ 1440 ∧ e.day ≤ today

/-- The law of the day ring, and shift starts not later than terminal time (R105, R106). -/
def RingLaw (s : State) : Prop :=
  (∀ x ∈ s.drivers, (∀ e ∈ x.slots, slotLawful s.today e) ∧ (∀ t, x.shiftStart = some t → t ≤ s.now))
    ∧ (∀ i d, s.slot i = some d → d.driving ≤ d.duty)

/-- The states of a delivery to which a driver is bound (R107). -/
def DelState.bindsDriver : DelState → Bool
  | .arrived | .atBay | .loaded | .held | .releasing | .cancelling => true
  | .booked | .expiring => false

/-- At most 128 drivers, no two of one number; a bound driver's delivery is in the table, in a state that
binds, and names that driver (R104, R107). -/
def DriverLaw (s : State) : Prop :=
  s.drivers.length ≤ Config.driverEntries ∧ (s.drivers.map Driver.number).Nodup
    ∧ (∀ x ∈ s.drivers, ∀ i, x.bound = some i →
      ∃ d, s.slot i = some d ∧ d.driver = some x.number ∧ d.state.bindsDriver)

end Sys2Proof.Machine
end

