-- ==== Sys2Proof/Certificates/Slice0/Obligations.lean ====
section
/-! DEFINITION. The statements for the provers, one `def Obligations.<Name> : Prop` each. -/

open Sys2Proof Sys2Proof.Machine

/-! ### The queue of commands -/

/-- The command at the front of the queue is taken whole, and the rest still waits. With no command waiting,
the elapsed-time counter of a part that has power counts one microsecond and nothing else changes: that is the
model's choice (log entry 4). -/
def Obligations.StepTakesTheFrontCommand : Prop :=
  (∀ (c : Instr) (rest : List Instr) (s : State),
    step { s with pending := c :: rest } = exec c { s with pending := rest })
  ∧ ∀ s : State, s.pending = [] →
    step s = .next (if s.phase = .unpowered then s else { s with elapsed := s.elapsed + 1 })

/-- Every command is answered with a next state, in every state, and none of them adds to the queue of
commands or takes from it. That a command without an occasion, such as the expiry of a window that does not run, is
answered with a next state too is the model's choice: the spec says nothing of it (log entry 5). -/
def Obligations.EveryCommandCompletesAndLeavesTheQueue : Prop :=
  ∀ (c : Instr) (s : State), ∃ t, exec c s = .next t ∧ t.pending = s.pending

/-! ### The ports -/

/-- A request that finds another in service or waiting joins the input queue of its port while fewer than
four requests wait; else it is kept as a refusal record while fewer than eight are held; else it is counted
as an error. Nothing else changes (R168).
FRAME_SENT takes the front frame off the outgoing list. A REPLY changes nothing else; an immediate response
lets its request leave service, and with none waiting nothing else changes; a refusal record that waited
enters service and is answered RETRY QUEUE_FULL; and a waiting request is taken as if it had just arrived at
a port with none in service and an empty queue, the others waiting on, which STATUS counts. The record of the
bytes sent is the model's own observation (log entry 30), and a refusal record's answer during a start is the
model's reading (log entry 31). -/
def Obligations.RequestsAreServedInArrivalOrder : Prop :=
  (∀ (c : Instr) (p : Port) (r : Request) (s : State),
    requestOf c = some (p, r) → s.phase ≠ .unpowered →
    (s.port p).inService ≠ none ∨ (s.port p).queue ≠ [] →
    exec c s = .next (s.setPort p
      (if (s.port p).waiting < 4 then
        { s.port p with queue := (s.port p).queue ++ [.request r] }
      else if (s.port p).records < 8 then
        { s.port p with queue := (s.port p).queue ++ [.refusal r.tag r.code] }
      else { s.port p with errors := min 65535 ((s.port p).errors + 1) })))
  ∧ ∀ (s : State) (p : Port) (f : OutFrame) (rest : List OutFrame),
    s.phase ≠ .unpowered → (s.port p).outgoing = f :: rest →
    (∀ k, f.body ≠ .done (.restart k)) →
    (f.body.kind = 6 →
      exec (.frameSent p) s =
        .next (s.setPort p { s.port p with outgoing := rest, sent := f.wire }))
    ∧ (f.body.kind ≠ 6 →
      ((s.port p).queue = [] →
        exec (.frameSent p) s = .next (s.setPort p
          { s.port p with outgoing := rest, sent := f.wire, inService := none }))
      ∧ (∀ tag code more, (s.port p).queue = .refusal tag code :: more →
        exec (.frameSent p) s = .next (s.setPort p { s.port p with
          outgoing := rest ++ [⟨tag, code, .retry .queueFull⟩]
          sent := f.wire
          inService := some (tag, code)
          queue := more }))
      ∧ (∀ c r more t y, requestOf c = some (p, r) → (s.port p).queue = .request r :: more →
        exec c (s.setPort p
          { s.port p with outgoing := rest, sent := f.wire, inService := none, queue := [] }) = .next t →
        (t.port p).outgoing.getLast? = some ⟨r.tag, r.code, y⟩ →
        exec (.frameSent p) s = .next (t.setPort p { t.port p with
          queue := more
          outgoing := (t.port p).outgoing.dropLast ++ [⟨r.tag, r.code, match y with
            | .done (.status _) => .done (.status (State.statusView (s.setPort p
              { s.port p with queue := more })))
            | y => y⟩] })))

/-- The checks that the port controller makes before a request reaches its owner: each answers, and changes
nothing else. They are stated of the request commands, and, in the order of R170, of every request frame, among
them those whose code is in no catalogue or whose body has a length that no layout allows (R170, R172, R176,
R177). A RELEASE at the office port is so refused WRONG_PORT also while another RELEASE of its delivery is
deferred, where R139 says RETRY OWNED: the model's choice (log entry 42). -/
def Obligations.PortChecksAnswerFirst : Prop :=
  (∀ (c : Instr) (p : Port) (r : Request) (s : State),
    requestOf c = some (p, r) → (s.port p).inService = none → (s.port p).queue = [] →
    (s.phase = .step1 ∨ s.phase = .step2 ∨ s.phase = .step3 →
      exec c s = .next (s.responded p r.tag r.code (.retry .starting)))
    ∧ (s.phase = .running →
        ((p = .gate ∧ r.code ≤ 0x15) ∨ (p = .office ∧ 0x20 ≤ r.code) →
          exec c s = .next (s.responded p r.tag r.code (.refused .wrongPort)))
        ∧ (¬ (p = .gate ∧ r.code ≤ 0x15) → ¬ (p = .office ∧ 0x20 ≤ r.code) →
            (s.log.status = .failed → r.code ≠ 0x15 → r.code ≠ 0x16 →
              exec c s = .next (s.responded p r.tag r.code (.refused .storeFailed)))
            ∧ (s.log.status ≠ .failed → r.code ∉ [0x03, 0x05, 0x13, 0x22] →
              (∃ e ∈ (s.port p).deferred, e.tag = r.tag) →
              exec c s = .next (s.responded p r.tag r.code (.refused .tagInUse))))))
  ∧ ∀ (s : State) (p : Port) (tag code : Nat) (body : List Byte) (y : FrameBody),
    tag < 16 → code < 256 → body.length ≤ 240 → s.phase ≠ .unpowered → (s.port p).receiver = none →
    (s.port p).inService = none → (s.port p).queue = [] →
    firstFailing
      [(s.phase ≠ .running, .retry .starting),
        (code = 0 ∨ (0x17 ≤ code ∧ code ≤ 0x1F) ∨ 0x24 ≤ code, .refused .unknownRequest),
        ((p = .gate ∧ code ≤ 0x15) ∨ (p = .office ∧ 0x20 ≤ code), .refused .wrongPort),
        (s.log.status = .failed ∧ code ≠ 0x15 ∧ code ≠ 0x16, .refused .storeFailed),
        (lengthAllowed code body = false, .refused .badField),
        (code ∉ [0x03, 0x05, 0x13, 0x22] ∧ ∃ e ∈ (s.port p).deferred, e.tag = tag, .refused .tagInUse)] y →
    exec (.frameReceived p (requestFrame tag code body)) s = .next (s.responded p tag code y)

/-- A request that is answered RETRY or REFUSED has changed nothing but the port that answered it. Of RELEASE this
is said of every such answer but REFUSED HELD and the answers of its last step, which leave readouts taken. -/
def Obligations.RefusedRequestsChangeNothing : Prop :=
  ∀ (c : Instr) (p : Port) (r : Request) (s t : State) (f : OutFrame),
    requestOf c = some (p, r) → s.phase ≠ .unpowered →
    (s.port p).inService = none → (s.port p).queue = [] → exec c s = .next t →
    (t.port p).outgoing.getLast? = some f → f.body.kind = 4 ∨ f.body.kind = 5 →
    (r.code = 0x22 → f.body ≠ .refused .tagInUse ∧ f.body ≠ .retry .deferLimit ∧ f.body ≠ .retry .logBusy
      ∧ f.body ≠ .refused .logFull ∧ ∀ holds raised m n k, f.body ≠ .refusedHeld holds raised m n k) →
    t = s.responded p r.tag r.code f.body

/-- BOOK, AMEND, CANCEL, DETACH and OVERRIDE are each answered by the first of their checks that fails, in the
order of their rules, and then nothing but the port has changed (R12, R17, R19, R22, R140, R151, R172). -/
def Obligations.OfficeRequestsAreRefusedInOrder : Prop :=
  ∀ (s : State) (tag : Nat) (y : FrameBody), s.portFree .office → s.refsDiffer →
    (∀ b : BookBody, (∀ e ∈ s.office.deferred, e.tag ≠ tag) →
      firstFailing (s.bookChecks b ++ s.log.requesterChecks) y →
      exec (.book .office tag b) s = .next (s.responded .office tag 0x01 y))
    ∧ (∀ b : AmendBody, (∀ e ∈ s.office.deferred, e.tag ≠ tag) →
      firstFailing (s.amendChecks b ++ s.log.requesterChecks) y →
      exec (.amend .office tag b) s = .next (s.responded .office tag 0x02 y))
    ∧ (∀ ref : Nat,
      firstFailing (s.cancelChecks ref ++ s.office.deferralChecks tag ++ s.log.requesterChecks) y →
      exec (.cancel .office tag ref) s = .next (s.responded .office tag 0x03 y))
    ∧ (∀ ref : Nat, (∀ e ∈ s.office.deferred, e.tag ≠ tag) →
      firstFailing (s.detachChecks ref ++ s.log.requesterChecks) y →
      exec (.detach .office tag ref) s = .next (s.responded .office tag 0x04 y))
    ∧ ∀ ref set supervisor : Nat,
      firstFailing
        (s.overrideChecks ref set supervisor ++ s.office.deferralChecks tag ++ s.log.requesterChecks) y →
      exec (.override .office tag ref set supervisor) s = .next (s.responded .office tag 0x05 y)

/-- ARRIVE and RELEASE are each answered by the first of their checks that fails, in the order of their rules, and
then nothing but the port has changed; a RELEASE turned away at its last step, with an empty hold set, leaves the
readouts of its hold computation taken (R51, R112, R113, R134). -/
def Obligations.GateRequestsAreRefusedInOrder : Prop :=
  ∀ (s : State) (tag : Nat) (y : FrameBody), s.portFree .gate → s.refsDiffer →
    (∀ (ref n : Nat) (w : Option Declaration), (∀ e ∈ s.gate.deferred, e.tag ≠ tag) →
      firstFailing (s.arriveChecks ref n w ++ s.log.requesterChecks) y →
      exec (.arrive .gate tag ⟨ref, n, w⟩) s = .next (s.responded .gate tag 0x20 y))
    ∧ ∀ ref n : Nat,
      (firstFailing (s.releaseChecks ref n) y →
        exec (.release .gate tag ref n) s = .next (s.responded .gate tag 0x22 y))
      ∧ ∀ (i : SlotNo) (d : Delivery), s.slot i = some d → d.ref = ref → ref ≠ 0 → 1 ≤ n → n ≤ 65534 →
        s.owned d = false → (d.state = .loaded ∧ d.paper ≠ none) ∨ d.state = .held → d.driver = some n →
        (∀ c ∈ d.comps, c.state ≠ .stopping) →
        ((∃ c ∈ d.comps, c.state = .interrupted) → d.overrides.provisional = true) →
        ((∃ c ∈ d.withReadouts.comps, c.acc.flags.limited ∨ c.acc.flags.regression ∨ c.acc.flags.unclosed) →
          d.overrides.quantity = true) →
        (s.projectFor d).failing.without d.overrides = HoldSet.empty → 65 ≤ s.log.freeSpace →
        firstFailing (s.gate.deferralChecks tag ++ [(16 ≤ s.log.queue.length, .retry .logBusy)]) y →
        exec (.release .gate tag ref n) s = .next (State.responded
          { s with dispatch := s.dispatch.set i.val (some d.withReadouts) i.isLt } .gate tag 0x22 y)

/-! ### Deliveries -/

/-- BOOK: with every check passed, the lowest FREE slot receives the record, the BOOK entry is admitted, and
the answer carries the slot and the booking deadline, saturated at the end of terminal time. That the entry's
header holds the reference is the model's reading; its driver field is 0, as R148 has it (log entry 8). -/
def Obligations.BookEntersTheTable : Prop :=
  ∀ (s : State) (tag : Nat) (b : BookBody) (now : Nat) (i : SlotNo),
    s.ready .office tag → bookable b → (∀ j d, s.slot j = some d → d.ref ≠ b.ref) →
    (∀ c ∈ b.comps, (s.product c.product).state = .enabled) → s.time = some now →
    s.slot i = none → (∀ j, j < i → s.slot j ≠ none) → s.log.accepts →
    exec (.book .office tag b) s = .next { s with
      dispatch := s.dispatch.set i.val (some
        { ref := b.ref
          driver := if b.driver = 0 then none else some b.driver
          vehicle := b.vehicle
          driving := b.driving
          duty := b.duty
          comps := b.comps.map fun c =>
            { index := c.index
              product := c.product
              planned := c.planned
              capacity := c.capacity
              last := c.last
              purge := c.purge == 1
              state := .planned
              arm := none
              acc := ⟨0, 0, 0, 0, Flags.none⟩
              deadline := none }
          bay := none
          state := .booked
          holds := HoldSet.empty
          overrides := HoldSet.empty
          supervisor := none
          paper := none
          deadline := min 4294967295 (now + 60 * s.settings.validity)
          arrival := none
          claim := none }) i.isLt
      log := (s.admitEntry b.ref 0 (.book i b.vehicle b.driving b.duty b.comps.length
        (min 4294967295 (now + 60 * s.settings.validity)))).log
      office := s.office.respond tag 0x01
        (.done (.booked i (min 4294967295 (now + 60 * s.settings.validity)))) }

/-- AMEND: all given parts take effect together, the AMEND entry is admitted, and the answer is the record
as amended. That the entry's header holds the delivery's reference is the model's reading; its driver field is 0,
as R148 has it (log entry 8). An answer without readouts is the model's choice (log entry 27). -/
def Obligations.AmendChangesItsParts : Prop :=
  ∀ (s : State) (tag : Nat) (b : AmendBody) (i : SlotNo) (d e : Delivery),
    s.ready .office tag → s.holdsAt i d → d.ref = b.ref → s.owned d = false → amendable b d →
    s.log.accepts →
    e = { d with
      driving := if b.driving = 0 ∧ b.duty = 0 then d.driving else b.driving
      duty := if b.driving = 0 ∧ b.duty = 0 then d.duty else b.duty
      driver := if b.driver = 65535 then d.driver
        else if b.driver = 0 then none else some b.driver
      comps := d.comps.map fun c =>
        match b.changes.find? fun x => x.index == c.index with
        | none => c
        | some x => { c with planned := x.planned } } →
    exec (.amend .office tag b) s = .next { s with
      dispatch := s.dispatch.set i.val (some e) i.isLt
      log := (s.admitEntry d.ref 0 (.amend
        (if b.driving = 0 ∧ b.duty = 0 then none else some (b.driving, b.duty))
        (if b.driver = 65535 then none else some b.driver) b.changes)).log
      office := s.office.respond tag 0x02 (.done (.amended (s.deliveryView i e false))) }

/-- CANCEL: the delivery goes to CANCELLING, its bay is unbound and sent a DISMISS unless it is SILENT, the
CANCEL entry is admitted, and the request waits in the deferred table for the entry's number. That the entry's
header holds the delivery's reference is the model's reading; its driver field is 0, as R148 has it (log entry 8).
The bay keeps the slot of the delivery until it has taken the DISMISS, in a record of the model's own that no meaning
reads (log entry 44). -/
def Obligations.CancelWaitsForItsEntry : Prop :=
  ∀ (s : State) (tag : Nat) (i : SlotNo) (d : Delivery),
    s.ready .office tag → s.office.deferred.length < 8 → s.holdsAt i d → s.owned d = false →
    d.state ≠ .loaded → d.state ≠ .held →
    (∀ c ∈ d.comps, c.acc.G = 0 ∧ (c.state = .planned ∨ c.state = .done ∨ c.state = .void)) →
    s.log.accepts →
    exec (.cancel .office tag d.ref) s = .next { s with
      dispatch := s.dispatch.set i.val (some { d with state := .cancelling, bay := none }) i.isLt
      bays := match d.bay with
        | none => s.bays
        | some b => s.bays.set b.val { s.bay b with
            bound := none
            withdrawn := some i
            outbox := if s.polled b ∧ (s.bay b).link ≠ .silent then (s.bay b).outbox ++ [.dismiss]
              else (s.bay b).outbox } b.isLt
      log := (s.admitEntry d.ref 0 (.cancel d.state d.bay)).log
      office := s.office.deferring ⟨tag, 0x03, .delivery d.ref s.log.nextNumber⟩
        (.deferredEntry s.log.nextNumber) }

/-- DETACH: the session ends; every PLANNED compartment becomes VOID and both halves of the binding are
cleared. A delivery that is not loaded goes back to ARRIVED; a loaded one goes to LOADED with the first
version of a paper of the next number, or without one once the paper counter is exhausted, and its PAPER entry
is offered after the DETACH entry. That the DETACH entry's header holds the delivery's reference, and that its
paper number is 0 where no paper is issued, is the model's reading (log entries 8 and 23). -/
def Obligations.DetachEndsTheSession : Prop :=
  ∀ (s : State) (tag : Nat) (i : SlotNo) (d : Delivery) (b : BayNo),
    s.ready .office tag → s.holdsAt i d → s.owned d = false → d.state = .atBay → d.bay = some b →
    (s.bay b).link = .silent → s.log.accepts →
    ((∀ c ∈ d.comps, c.state ≠ .interrupted ∧ (c.state = .done → c.acc.G = 0)) →
      exec (.detach .office tag d.ref) s = .next
        { (s.admitEntry d.ref 0 (.detach .arrived b 0 0)).sessionOver i d b with
          office := s.office.respond tag 0x04
            (.done (.detached .arrived (d.paper.map fun p => (p.number, p.version)))) })
    ∧ ((∃ c ∈ d.comps, c.state = .interrupted ∨ (c.state = .done ∧ 0 < c.acc.G)) →
      (s.log.paperCounter < 4294967295 →
        exec (.detach .office tag d.ref) s = .next
          { (s.admitEntry d.ref 0 (.detach .loaded b (s.log.paperCounter + 1)
              (d.comps.countP fun c => c.state == .interrupted))).sessionOver i d b with
            office := s.office.respond tag 0x04
              (.done (.detached .loaded (some (s.log.paperCounter + 1, 1)))) })
      ∧ (4294967295 ≤ s.log.paperCounter →
        exec (.detach .office tag d.ref) s = .next
          { (s.admitEntry d.ref 0 (.detach .loaded b 0
              (d.comps.countP fun c => c.state == .interrupted))).sessionOver i d b with
            office := s.office.respond tag 0x04
              (.done (.detached .loaded (d.paper.map fun p => (p.number, p.version)))) }))

/-- Terminal time advances by one second, unless it is UNSET or at its end. Before the ports open nothing else
changes. While the part runs, the BOOKED deliveries whose deadlines the new time meets or has passed are taken in
ascending slot number: each is EXPIRING in its own slot with its EXPIRE entry admitted, the queue and the free space
being tested anew at each, up to the first whose entry is not admitted; from there on every delivery stays as it
is, and only the dispatch table and the log change with the time (R14, R15, R151, R181). That the entry's header holds
the delivery's reference is the model's reading (log entry 8). -/
def Obligations.TimeReachesBookingDeadlines : Prop :=
  ∀ (s : State),
    (s.time = none ∨ s.time = some 4294967295 → exec .terminalTimeAdvance s = .next s)
    ∧ ∀ now, s.time = some now → now < 4294967295 →
      (s.phase ≠ .running → exec .terminalTimeAdvance s = .next { s with time := some (now + 1) })
      ∧ (s.phase = .running → ∀ (due : List SlotNo) (u : State),
        due = (List.finRange 16).filter (fun i =>
          (s.slot i).any fun d => d.state == .booked && decide (d.deadline ≤ now + 1)) →
        u = { s with time := some (now + 1) } →
        ∃ n t, exec .terminalTimeAdvance s = .next t
          ∧ t = { u with
            dispatch := t.dispatch
            log := (s.expiriesAdmitted (due.take n) u).log }
          ∧ n ≤ due.length
          ∧ (∀ k, k < n → (s.expiriesAdmitted (due.take k) u).log.admitsAutomatic = true)
          ∧ (n < due.length → t.log.admitsAutomatic = false)
          ∧ (∀ i ∈ due.take n, t.slot i = (s.slot i).map fun d => { d with state := .expiring })
          ∧ ∀ i, i ∉ due.take n → t.slot i = s.slot i)

/-! ### Drivers -/

/-- ARRIVE: the driver is bound to the slot; a declaration starts the shift at its rest end, or now if that is
later, and its days are merged into the ring; the delivery goes to ARRIVED with the driver's number and the
arrival time; the ARRIVE entry is admitted and a DECLARATION entry is offered after it; and the answer carries
the hours and the three margins. That the entries' headers hold the delivery's reference is the model's
reading; their driver fields are 0, as R148 has it (log entry 8). -/
def Obligations.ArriveBindsTheDriver : Prop :=
  ∀ (s : State) (tag ref n now start : Nat) (y : Option Declaration) (i : SlotNo) (d : Delivery)
    (x z : Driver),
    s.ready .gate tag → ref ≠ 0 → (1 ≤ n ∧ n ≤ 65534) →
    (∀ w, y = some w → 1 ≤ w.days.length ∧ w.days.length ≤ 14) → s.time = some now →
    s.holdsAt i d → d.ref = ref → s.owned d = false → d.state = .booked →
    (d.driver = none ∨ d.driver = some n) → s.driver n = some x → x.bound = none →
    (y = none → x.shiftStart = some start) → (∀ w, y = some w → start = min w.restEnd now) →
    s.log.accepts →
    z = { x with
      shiftStart := some start
      ring := match y with
        | none => x.ring
        | some w => mergeRing x.ring w (now / 86400)
      bound := some i } →
    exec (.arrive .gate tag ⟨ref, n, y⟩) s = .next { s with
      dispatch := s.dispatch.set i.val
        (some { d with driver := some n, state := .arrived, arrival := some now }) i.isLt
      drivers := s.drivers.map fun w => if w.number = n then z else w
      log := match y with
        | none => (s.admitEntry ref 0 (.arrive d.vehicle start false)).log
        | some w => ((s.admitEntry ref 0 (.arrive d.vehicle start true)).offer ref 0
          (.declaration start (decide (now < w.restEnd)) w.days.length
            (keptDays w (now / 86400)) (alteredDays w (now / 86400)) (z.drivingOn (now / 86400))
            (z.rolling (now / 86400)))).log
      gate := s.gate.respond tag 0x20 (.done (.arrived now start (z.drivingOn (now / 86400))
        (z.rolling (now / 86400)) ((now - start) / 60)
        { daily := (s.settings.daily : Int) - z.drivingOn (now / 86400) - d.driving
          rolling := (s.settings.rolling : Int) - z.rolling (now / 86400) - d.driving
          shift := some (max (-2147483648)
            ((s.settings.shift : Int) - ((now - start) / 60 : Nat) - d.duty)) })) }

/-- A declaration over the day ring: for each day of the window, the slot of the day holds the last entry
that names it, its minutes clamped to 1,440 and its duty raised to its driving; a day that no entry names
keeps its slot (R115).
The projection of a trip: each margin is its limit less what the driver has and what the trip adds, SHIFT's not
below the least number of four bytes; a check fails when its margin is negative, and dangerous goods need an
endorsement that has not run out (R116 to R118). That a driver with no shift start fails SHIFT, with no margin, is
the model's choice (log entry 26). -/
def Obligations.HoursAreMergedAndProjected : Prop :=
  (∀ (ring : Vector DayEntry 14) (y : Declaration) (today day : Nat),
    day ≤ today → today ≤ day + 13 →
    (mergeRing ring y today).get ⟨day % 14, Nat.mod_lt _ (by decide)⟩ =
      match (y.days.filter fun e => e.day == day).getLast? with
      | none => ring.get ⟨day % 14, Nat.mod_lt _ (by decide)⟩
      | some e => ⟨day, min 1440 e.driving, max (min 1440 e.driving) (min 1440 e.duty)⟩)
  ∧ ∀ (st : Settings) (now driving duty today held window : Nat) (x : Driver) (dangerous : Bool)
      (f : HoldSet) (m : Margins),
    today = now / 86400 →
    held = (if (x.ring.get ⟨today % 14, Nat.mod_lt _ (by decide)⟩).day = today then
      (x.ring.get ⟨today % 14, Nat.mod_lt _ (by decide)⟩).driving else 0) →
    window = ((x.ring.toList.filter fun e => decide (today ≤ e.day + 13 ∧ e.day ≤ today)).map
      DayEntry.driving).sum →
    project st now x driving duty dangerous = ⟨f, m⟩ →
    m.daily = (st.daily : Int) - held - driving ∧ (f.daily = true ↔ st.daily < held + driving)
    ∧ m.rolling = (st.rolling : Int) - window - driving
    ∧ (f.rolling = true ↔ st.rolling < window + driving)
    ∧ (∀ start, x.shiftStart = some start →
      m.shift = some (max (-2147483648) ((st.shift : Int) - ((now - start) / 60 : Nat) - duty))
        ∧ (f.shift = true ↔ st.shift < (now - start) / 60 + duty))
    ∧ (x.shiftStart = none → m.shift = none ∧ f.shift = true)
    ∧ (f.endorsement = true ↔ dangerous = true ∧ (x.expiry = 0 ∨ x.expiry < today))
    ∧ f.provisional = false ∧ f.quantity = false ∧ f.logFull = false

/-- DRIVER_REGISTER renews a registered driver's endorsement expiry alone, and enters a new driver with an
empty ring and no shift start; DRIVER_REMOVE takes an unbound driver's entry out. That DRIVER_REGISTER answers
with the entry as DRIVER_READ gives it is the model's choice (log entry 24). Each is answered by the first of its
checks that fails, and then nothing but the port has changed: DRIVER_REGISTER by BAD_FIELD, OWNED or TABLE_FULL, and
DRIVER_REMOVE by BAD_FIELD, UNKNOWN_DRIVER, OWNED or IN_USE (R108, R110). -/
def Obligations.DriversAreRegisteredAndRemoved : Prop :=
  (∀ (s : State) (tag n day : Nat), s.ready .office tag → 1 ≤ n → n ≤ 65534 →
    (∀ x, s.driver n = some x → s.driverOwned x = false →
      exec (.driverRegister .office tag n day) s = .next { s with
        drivers := s.drivers.map fun y => if y.number = n then { x with expiry := day } else y
        office := s.office.respond tag 0x07
          (.done (.registered (s.driverView { x with expiry := day }) false)) })
    ∧ (s.driver n = none → s.drivers.length < 128 →
      exec (.driverRegister .office tag n day) s = .next { s with
        drivers := s.drivers ++ [⟨n, day, none, Vector.replicate 14 ⟨0, 0, 0⟩, none⟩]
        office := s.office.respond tag 0x07 (.done (.registered
          (s.driverView ⟨n, day, none, Vector.replicate 14 ⟨0, 0, 0⟩, none⟩) true)) })
    ∧ (∀ x, s.driver n = some x → x.bound = none →
      exec (.driverRemove .office tag n) s = .next { s with
        drivers := s.drivers.filter fun y => y.number != n
        office := s.office.respond tag 0x08 (.done .removed) }))
  ∧ ∀ (s : State) (tag n day : Nat) (y : FrameBody), s.ready .office tag →
    (firstFailing (s.registerChecks n) y →
      exec (.driverRegister .office tag n day) s = .next (s.responded .office tag 0x07 y))
    ∧ (firstFailing (s.removeChecks n) y →
      exec (.driverRemove .office tag n) s = .next (s.responded .office tag 0x08 y))

/-! ### Requests that read -/

/-- DELIVERY_READ: the record as it stands, its readouts taken; a readout that limits sets LIMITED on its
compartment, and the answer shows it. Nothing else changes.
BAY_READ of one bay takes the readouts of its orphans, and a readout that limits sets LIMITED; nothing
else changes. BAY_READ of bay 0 answers with the summary of the twelve bays and changes nothing.
The other requests that read answer from the state as it stands, STATUS also while the store has FAILED: each
changes nothing but the port that answers. LOG_READ gives the entries of the numbers n, n + 1, … in order, up to the
count, stopping before the first number after the last written number (R157).
Each is answered by the first of its checks that fails: DELIVERY_READ by NO_DELIVERY (R23), PRODUCT_READ and BAY_READ
by BAD_FIELD (R35, R77), DRIVER_READ by BAD_FIELD or UNKNOWN_DRIVER (R111), LOG_READ by BAD_FIELD, NOT_WRITTEN,
PAGE_BUSY or GONE (R157), HOURS_QUERY by BAD_FIELD, NO_TIME or UNKNOWN_DRIVER (R120), PAPER_READ by BAD_FIELD,
NO_DELIVERY or NOT_LOADED (R131). That PAPER_READ answers NOT_LOADED in CANCELLING and EXPIRING too is the model's
reading (log entry 23). -/
def Obligations.ReadsAnswerFromTheState : Prop :=
  (∀ (s : State) (tag : Nat) (i : SlotNo) (d e : Delivery),
    s.ready .office tag → s.holdsAt i d →
    e = { d with comps := d.comps.map fun c => { c with acc := { c.acc with flags :=
      { c.acc.flags with
        limited := c.acc.flags.limited || decide (42949345280 ≤ c.acc.A)
          || decide (655355 ≤ c.acc.G) } } } } →
    exec (.deliveryRead .office tag d.ref) s = .next { s with
      dispatch := s.dispatch.set i.val (some e) i.isLt
      office := s.office.respond tag 0x06 (.done (.delivery (s.deliveryView i e true))) })
  ∧ (∀ (s : State) (tag : Nat), s.ready .office tag →
    (∀ (b : BayNo) (t : State) (read : ArmRecord → ArmRecord),
      (∀ x, read x = match x with
        | .orphan o => .orphan { o with acc := { o.acc with flags := { o.acc.flags with
            limited := o.acc.flags.limited || decide (42949345280 ≤ o.acc.A)
              || decide (655355 ≤ o.acc.G) } } }
        | x => x) →
      t = { s with bays := s.bays.set b.val { s.bay b with
        armA := read (s.bay b).armA, armB := read (s.bay b).armB } b.isLt } →
      exec (.bayRead .office tag (b.val + 1)) s =
        .next (t.responded .office tag 0x14 (.done (.bay (t.bayView b)))))
    ∧ exec (.bayRead .office tag 0) s =
      .next (s.responded .office tag 0x14 (.done (.baySummary ((List.finRange 12).map s.baySummary)))))
  ∧ (∀ (s : State) (tag : Nat),
    (∀ p, s.taking p tag →
      exec (.status p tag) s = .next (s.responded p tag 0x16 (.done (.status s.statusView))))
    ∧ (s.ready .office tag →
      exec (.settingsRead .office tag) s =
        .next (s.responded .office tag 0x0E (.done (.settings s.settings)))
      ∧ (∀ n x, 1 ≤ n → n ≤ 65534 → s.driver n = some x →
        exec (.driverRead .office tag n) s =
          .next (s.responded .office tag 0x09 (.done (.driver (s.driverView x)))))
      ∧ (∀ code, 1 ≤ code → code ≤ 16 →
        exec (.productRead .office tag code) s = .next (s.responded .office tag 0x0C
          (.done (.productRead code (s.product code) (s.compsInUse code) (s.orphansInUse code)))))
      ∧ exec (.productRead .office tag 0) s = .next (s.responded .office tag 0x0C
          (.done (.productSummary ((List.range' 1 16).map fun k =>
            ⟨(s.product k).state, (s.product k).flash, (s.product k).un, s.inUse k⟩))))
      ∧ (∀ n k page es, 1 ≤ k → k ≤ 8 → s.log.everWritten = true →
        atOrBefore n s.log.lastWritten = true → s.log.pageOf n = some page →
        (s.log.page page).state ≠ .reclaiming → s.log.seqsDiffer → s.log.reads n k es →
        exec (.logRead .office tag n k) s = .next (s.responded .office tag 0x11
          (.done (.log n es s.log.lastWritten s.log.exportMark)))))
    ∧ (s.ready .gate tag →
      (∀ n x now, 1 ≤ n → n ≤ 65534 → s.time = some now → s.driver n = some x →
        exec (.hoursQuery .gate tag n) s =
          .next (s.responded .gate tag 0x21 (.done (s.hours x now))))
      ∧ (∀ i d paper, s.holdsAt i d → d.ref ≠ 0 → d.paper = some paper →
        (d.state = .loaded ∨ d.state = .held ∨ d.state = .releasing) →
        exec (.paperRead .gate tag d.ref) s = .next (s.responded .gate tag 0x23
          (.done (.paper ⟨d.ref, d.driver, d.vehicle, d.state, d.holds, paper⟩))))))
  ∧ ∀ (s : State) (tag n k : Nat) (y : FrameBody),
    (s.ready .office tag →
      (¬ s.holdsOne n (fun _ => True) → exec (.deliveryRead .office tag n) s =
        .next (s.responded .office tag 0x06 (.refused .noDelivery)))
      ∧ (firstFailing (s.driverReadChecks n) y →
        exec (.driverRead .office tag n) s = .next (s.responded .office tag 0x09 y))
      ∧ (16 < n → exec (.productRead .office tag n) s =
        .next (s.responded .office tag 0x0C (.refused .badField)))
      ∧ (firstFailing (s.log.readChecks n k) y →
        exec (.logRead .office tag n k) s = .next (s.responded .office tag 0x11 y))
      ∧ (12 < n → exec (.bayRead .office tag n) s =
        .next (s.responded .office tag 0x14 (.refused .badField))))
    ∧ (s.ready .gate tag → s.refsDiffer →
      (firstFailing (s.hoursQueryChecks n) y →
        exec (.hoursQuery .gate tag n) s = .next (s.responded .gate tag 0x21 y))
      ∧ (firstFailing (s.paperReadChecks n) y →
        exec (.paperRead .gate tag n) s = .next (s.responded .gate tag 0x23 y)))

/-! ### Products, settings, time, restart -/

/-- PRODUCT_DEFINE replaces an entry that is not in use as a whole: by every field of the body with ENABLED
or DISABLED, by the empty contents with UNDEFINED (R31).
PRODUCT_STATE by R33: BAD_FIELD for a code outside 1..16 or a target other than ENABLED and DISABLED;
then WRONG_STATE for an UNDEFINED entry; else the entry's state, and nothing else of it, becomes the target,
and the answer carries it with the code's in-use count.
PRODUCT_DEFINE is answered by the first of the checks of R30 that fails, BAD_FIELD for code and state, BAD_FIELD for
the data, IN_USE, and then nothing but the port has changed. That its answer carries the product code before the
entry as stored is the model's choice (log entry 24). -/
def Obligations.ProductsAreDefinedAndSwitched : Prop :=
  (∀ (s : State) (tag : Nat) (k : Fin 16),
    s.ready .office tag → s.inUse (k.val + 1) = 0 →
    (∀ data, exec (.productDefine .office tag ⟨k.val + 1, 0, data⟩) s = .next { s with
      products := s.products.set k.val Product.undefined k.isLt
      office := s.office.respond tag 0x0A (.done (.product (k.val + 1) Product.undefined)) })
    ∧ ∀ (st : Nat) (data : ProductData) (e : Product),
      (st = 1 ∧ e.state = .enabled) ∨ (st = 2 ∧ e.state = .disabled) →
      definable data →
      e.name = data.name ∧ e.un = data.un ∧ e.cls = data.cls ∧ e.division = data.division
        ∧ e.packing.code = data.packing ∧ e.flash.code = data.flash ∧ e.points = data.points →
      exec (.productDefine .office tag ⟨k.val + 1, st, some data⟩) s = .next { s with
        products := s.products.set k.val e k.isLt
        office := s.office.respond tag 0x0A (.done (.product (k.val + 1) e)) })
  ∧ (∀ (s : State) (tag : Nat) (b : ProductBody) (y : FrameBody), s.ready .office tag →
    firstFailing (s.defineChecks b) y →
    exec (.productDefine .office tag b) s = .next (s.responded .office tag 0x0A y))
  ∧ ∀ (s : State) (tag code target : Nat), s.ready .office tag →
    (code = 0 ∨ 16 < code ∨ (target ≠ 1 ∧ target ≠ 2) →
      exec (.productState .office tag code target) s =
        .next (s.responded .office tag 0x0B (.refused .badField)))
    ∧ ∀ (k : Fin 16) (st : ProductState), code = k.val + 1 →
      (target = 1 ∧ st = .enabled) ∨ (target = 2 ∧ st = .disabled) →
      ((s.products.get k).state = .undefined →
        exec (.productState .office tag code target) s =
          .next (s.responded .office tag 0x0B (.refused .wrongState)))
      ∧ ((s.products.get k).state ≠ .undefined →
        exec (.productState .office tag code target) s = .next { s with
          products := s.products.set k.val { s.products.get k with state := st } k.isLt
          office := s.office.respond tag 0x0B (.done (.productState st (s.inUse code))) })

/-- SETTINGS_WRITE clamps each number to its range and stores the whole; a bay that leaves the polled set
becomes SILENT with an empty outbox, and no bay that is bound or holds a reference may leave it. A visit of a bay
that stays goes on, and the round with the bays that stay. The visit of a bay that leaves ends at once, or, in an
exchange, is marked; the next bay of the round is then visited, or a new round begins where none is left, which has
no bay where none is POLLED. A marked visit ends with its exchange: its answer is discarded, or its window expires,
and nothing is counted (R66, R68, R78, R185). That the end of a marked visit's window counts nothing either is the
model's choice (log entry 41), and that the answer has nine marks, the polled set's always clear, is the
model's choice (log entry 24). -/
def Obligations.SettingsWriteClampsAndStores : Prop :=
  (∀ (s : State) (tag : Nat) (b : SettingsBody) (x : Settings), s.ready .office tag →
    x = { daily := max 240 (min 900 b.daily)
          rolling := max 1200 (min 6000 b.rolling)
          shift := max 360 (min 1080 b.shift)
          validity := max 60 (min 4320 b.validity)
          allowance := min 500 b.allowance
          flowing := max 300 (min 3600 b.flowing)
          permit := max 60 (min 900 b.permit)
          settle := max 1 (min 10 b.settle)
          polled := Vector.ofFn fun k => b.polled.testBit (k.val + 1) } →
    ((∃ k, s.polled k = true ∧ x.polled.get k = false
        ∧ ((s.bay k).bound ≠ none ∨ (s.bay k).armA ≠ .free ∨ (s.bay k).armB ≠ .free)) →
      exec (.settingsWrite .office tag b) s =
        .next (s.responded .office tag 0x0D (.refused .inUse)))
    ∧ ((∀ k, s.polled k = true → x.polled.get k = false →
        (s.bay k).bound = none ∧ (s.bay k).armA = .free ∧ (s.bay k).armB = .free) →
      ∀ u : State, u = { s with
        settings := x
        bays := Vector.ofFn fun k =>
          if s.polled k = true ∧ x.polled.get k = false then
            { s.bay k with outbox := [], link := .silent, missed := 3 }
          else s.bay k
        rack := { s.rack with roundLeft := s.rack.roundLeft.filter fun k => x.polled.get k }
        office := s.office.respond tag 0x0D (.done (.settingsWritten x
          [x.daily != b.daily, x.rolling != b.rolling, x.shift != b.shift, x.validity != b.validity,
            x.allowance != b.allowance, x.flowing != b.flowing, x.permit != b.permit,
            x.settle != b.settle, false])) } →
      ((∃ v, s.rack.visit = some v ∧ x.polled.get v.bay = true)
          ∨ (s.rack.visit = none ∧ ∃ k ∈ s.rack.roundLeft, x.polled.get k = true) →
        exec (.settingsWrite .office tag b) s = .next u)
      ∧ (∀ v, s.rack.visit = some v → x.polled.get v.bay = false → s.rack.exchange ≠ none →
        exec (.settingsWrite .office tag b) s =
          .next { u with rack := { u.rack with visit := some { v with dropped := true } } })
      ∧ ((s.rack.visit = none ∨ ∃ v, s.rack.visit = some v ∧ x.polled.get v.bay = false) →
        s.rack.exchange = none →
        exec (.settingsWrite .office tag b) s = .next { u with rack := u.lineAfterVisit })))
  ∧ ∀ (s : State) (v : Visit) (e : Exchange), s.phase = .running → s.rack.visit = some v →
    v.dropped = true → s.rack.exchange = some e →
    (∀ words, exec (.answerReceived words) s = .next { s with rack := s.lineAfterVisit })
    ∧ exec .answerWindowExpiry s = .next { s with
      elapsed := max s.elapsed e.windowEnd
      rack := s.lineAfterVisit }

/-- TIME_SET: with a value not below terminal time, or any value but 0 while it is UNSET, the TIME_SET entry
is admitted at the old time and terminal time becomes the value. A forward step then takes the BOOKED deliveries
whose deadlines it meets or passes, in ascending slot number, as the advance of time does: each is EXPIRING in its
own slot with its EXPIRE entry admitted after the TIME_SET entry, the queue and the free space being tested anew at
each, up to the first whose entry is not admitted; from there on every delivery stays as it is (R14, R15, R151,
R182). It is answered by the first of its checks that fails, BAD_FIELD, BACKWARDS, LOG_BUSY or LOG_FULL, and then
nothing but the port has changed (R182). That a value equal to terminal time reaches no deadline is the model's choice
(log entry 18), and that an EXPIRE entry's header holds the delivery's reference is the model's reading (log entry
8). -/
def Obligations.TimeSetMovesForwardOnly : Prop :=
  ∀ (s : State) (tag value : Nat), s.ready .office tag →
    (∀ y, firstFailing (s.timeSetChecks value ++ s.log.requesterChecks) y →
      exec (.timeSet .office tag value) s = .next (s.responded .office tag 0x0F y))
    ∧ (0 < value → s.log.accepts → (s.time = some value →
      exec (.timeSet .office tag value) s = .next { s with
        log := (s.admitEntry 0 0 (.timeSet value (some 0))).log
        office := s.office.respond tag 0x0F (.done (.timeSet value (value / 86400))) }))
    ∧ (0 < value → s.log.accepts → (∀ now, s.time = some now → now < value) → ∀ due : List SlotNo,
      due = (List.finRange 16).filter (fun i =>
        (s.slot i).any fun d => d.state == .booked && decide (d.deadline ≤ value)) →
      ∀ u : State, u = { s.admitEntry 0 0 (.timeSet value (s.time.map fun now => value - now)) with
        time := some value } →
      ∃ n t, exec (.timeSet .office tag value) s = .next t
        ∧ t = { s with
          time := some value
          dispatch := t.dispatch
          log := (s.expiriesAdmitted (due.take n) u).log
          office := s.office.respond tag 0x0F (.done (.timeSet value (value / 86400))) }
        ∧ n ≤ due.length
        ∧ (∀ k, k < n → (s.expiriesAdmitted (due.take k) u).log.admitsAutomatic = true)
        ∧ (n < due.length → t.log.admitsAutomatic = false)
        ∧ (∀ i ∈ due.take n, t.slot i = (s.slot i).map fun d => { d with state := .expiring })
        ∧ ∀ i, i ∉ due.take n → t.slot i = s.slot i)

/-- RESTART is answered with its kind, also while the store has FAILED: COLD only while every slot is FREE, and a kind
other than WARM and COLD is refused BAD_FIELD (section 10.6, R177); the start itself comes once the
answer has been sent: FRAME_SENT then leaves what a loss of power, and its return with retained memory kept
or failed, would leave. -/
def Obligations.RestartBeginsOnceItsAnswerIsSent : Prop :=
  ∀ (s : State) (tag : Nat),
    (s.taking .office tag →
      (∀ kind, kind ≠ 1 → kind ≠ 2 → exec (.restart .office tag kind) s =
        .next (s.responded .office tag 0x15 (.refused .badField)))
      ∧ exec (.restart .office tag 1) s =
        .next (s.responded .office tag 0x15 (.done (.restart .warm)))
      ∧ ((∀ i, s.slot i = none) → exec (.restart .office tag 2) s =
        .next (s.responded .office tag 0x15 (.done (.restart .cold))))
      ∧ ((∃ i, s.slot i ≠ none) → exec (.restart .office tag 2) s =
        .next (s.responded .office tag 0x15 (.refused .inUse))))
    ∧ ∀ (f : OutFrame) (rest : List OutFrame) (kind : StartKind),
      s.phase ≠ .unpowered → s.checkWordValid = true → s.office.outgoing = f :: rest →
      f.body = .done (.restart kind) →
      exec (.frameSent .office) s = exec (.powerReturn (kind == .cold)) { s with phase := .unpowered }

/-! ### Log requests -/

/-- LOG_ACK moves the export mark to the acknowledged number, not past the last written number and never
back, in serial order.
RECLAIM while the engine is IDLE or COLLECTING: the page joins the set once, the collection window runs
500 ms from now, and the request waits for the page's outcome. It is answered by the first of its checks that fails,
BAD_FIELD, RECLAIM_BUSY while the engine is ERASING or SUSPENDED, TAG_IN_USE or DEFER_LIMIT, and then nothing but the
port has changed (R159, R172). -/
def Obligations.LogRequestsMoveTheMarkAndCollectPages : Prop :=
  (∀ (s : State) (tag n mark : Nat), s.ready .office tag →
    mark = (let limited := if atOrBefore n s.log.lastWritten then n else s.log.lastWritten
      if atOrBefore s.log.exportMark limited then limited else s.log.exportMark) →
    exec (.logAck .office tag n) s = .next { s with
      log := { s.log with exportMark := mark }
      office := s.office.respond tag 0x12 (.done (.acked mark s.log.lastWritten)) })
  ∧ (∀ (s : State) (tag : Nat) (page : PageNo), s.ready .office tag → s.office.deferred.length < 8 →
    (s.log.engine.state = .idle ∨ s.log.engine.state = .collecting →
      exec (.reclaim .office tag page.val) s = .next { s with
        log := { s.log with engine :=
          { state := .collecting
            set := if page ∈ s.log.engine.set then s.log.engine.set else s.log.engine.set ++ [page]
            window := some (s.elapsed + 500000)
            suspendBy := none } }
        office := s.office.deferring ⟨tag, 0x13, .page page⟩ (.deferredPage page) }))
  ∧ ∀ (s : State) (tag n : Nat) (y : FrameBody), s.portFree .office →
    firstFailing (s.log.reclaimChecks n ++ s.office.deferralChecks tag) y →
    exec (.reclaim .office tag n) s = .next (s.responded .office tag 0x13 y)

/-! ### Release -/

/-- A RELEASE whose hold set is empty: the delivery goes to RELEASING with an empty hold set, the RELEASE
entry carries the stored paper's figures, the request waits for the entry's number, and each INTERRUPTED
compartment becomes an orphan in the arm record that refers to it; no other arm record changes. -/
def Obligations.ReleaseMakesOrphansAndWaits : Prop :=
  ∀ (s : State) (tag n : Nat) (i : SlotNo) (d e : Delivery) (paper : Paper),
    s.ready .gate tag → s.gate.deferred.length < 8 → d.ref ≠ 0 → (1 ≤ n ∧ n ≤ 65534) → s.holdsAt i d →
    s.owned d = false → (d.state = .loaded ∨ d.state = .held) → d.paper = some paper →
    d.driver = some n → (∀ c ∈ d.comps, c.state ≠ .stopping) →
    e = { d with comps := d.comps.map fun c =>
      if c.state = .done ∨ c.state = .interrupted then { c with acc := c.acc.afterReadouts } else c } →
    ((∃ c ∈ d.comps, c.state = .interrupted) → d.overrides.provisional = true) →
    ((∃ c ∈ e.comps, c.acc.flags.limited ∨ c.acc.flags.regression ∨ c.acc.flags.unclosed) →
      d.overrides.quantity = true) →
    (s.projectFor d).failing.without d.overrides = HoldSet.empty → s.log.accepts →
    ((d.comps.filter fun c => c.state == .interrupted).map Compartment.arm).Nodup →
    ∃ t, exec (.release .gate tag d.ref n) s = .next t
      ∧ t = { s with
        dispatch := s.dispatch.set i.val
          (some { e with state := .releasing, holds := HoldSet.empty }) i.isLt
        bays := t.bays
        log := (s.admitEntry d.ref n (.release paper.number paper.version paper.provisional d.overrides
          d.driving d.duty (paper.lines.map PaperLine.net).sum
          (paper.lines.map PaperLine.gross).sum)).log
        gate := s.gate.deferring ⟨tag, 0x22, .delivery d.ref s.log.nextNumber⟩
          (.deferredEntry s.log.nextNumber) }
      ∧ (∀ b, t.bay b = { s.bay b with armA := t.arm b .A, armB := t.arm b .B })
      ∧ (∀ c ∈ e.comps, c.state = .interrupted → ∀ b x, c.arm = some ⟨b, x⟩ →
        t.arm b x = .orphan ⟨d.ref, c.index, c.product, c.planned, c.capacity, .interrupted, none, c.acc⟩)
      ∧ (∀ b x, (∀ c ∈ d.comps, c.state = .interrupted → c.arm ≠ some ⟨b, x⟩) →
        t.arm b x = s.arm b x)

/-- A RELEASE that leaves holds, whatever its tag: the delivery stands in HELD with the hold set, the raised set less
the overrides; the answer is REFUSED HELD with both sets, the margins and the paper; and a HOLD entry is offered when
the set differs from the one before (R132, R135, R170). -/
def Obligations.ReleaseIsHeldByItsHolds : Prop :=
  ∀ (s : State) (tag n : Nat) (i : SlotNo) (d e : Delivery) (paper : Paper) (raised holds : HoldSet)
    (m : Margins),
    s.portFree .gate → d.ref ≠ 0 → (1 ≤ n ∧ n ≤ 65534) → s.holdsAt i d →
    s.owned d = false → (d.state = .loaded ∨ d.state = .held) → d.paper = some paper →
    d.driver = some n → (∀ c ∈ d.comps, c.state ≠ .stopping) →
    e = { d with comps := d.comps.map fun c =>
      if c.state = .done ∨ c.state = .interrupted then { c with acc := c.acc.afterReadouts } else c } →
    m = (s.projectFor d).margins →
    raised = { (s.projectFor d).failing with
      provisional := d.comps.any fun c => c.state == .interrupted
      quantity := e.comps.any fun c =>
        c.acc.flags.limited || c.acc.flags.regression || c.acc.flags.unclosed
      logFull := decide (s.log.freeSpace < 65) } →
    holds = raised.without d.overrides → holds ≠ HoldSet.empty →
    exec (.release .gate tag d.ref n) s = .next { s with
      dispatch := s.dispatch.set i.val (some { e with state := .held, holds := holds }) i.isLt
      log := if holds = d.holds then s.log
        else (s.offer d.ref n (.hold holds d.holds m.daily m.rolling (m.shift.getD 0))).log
      gate := s.gate.respond tag 0x22
        (.refusedHeld holds raised m paper.number paper.version) }

/-- OVERRIDE: its entry is admitted with the new and the previous set, the request waits for the entry's
number, and the delivery keeps its override set until the write. -/
def Obligations.OverrideWaitsForItsEntry : Prop :=
  ∀ (s : State) (tag set supervisor : Nat) (i : SlotNo) (d : Delivery),
    s.ready .office tag → s.office.deferred.length < 8 → d.ref ≠ 0 → supervisor ≠ 0 → set < 32 →
    s.holdsAt i d → s.owned d = false → d.state ≠ .booked → s.log.accepts →
    exec (.override .office tag d.ref set supervisor) s = .next { s with
      log := (s.admitEntry d.ref (d.driver.getD 0) (.override
        ⟨set.testBit 0, set.testBit 1, set.testBit 2, set.testBit 3, set.testBit 4, false, false⟩
        d.overrides supervisor)).log
      office := s.office.deferring ⟨tag, 0x05, .delivery d.ref s.log.nextNumber⟩
        (.deferredEntry s.log.nextNumber) }

/-! ### Frames -/

/-- A complete frame that spells a request with a good check, length and kind, on a hunting receiver, has the
effect of the request itself: the frame of every well-formed request command, built by the layouts of chapter
11, is read back as that request with every field. -/
def Obligations.FramesOfRequestsAreTheirCommands : Prop :=
  ∀ (c : Instr) (p : Port) (r : Request) (s : State),
    requestOf c = some (p, r) → c.wellFormed = true → s.phase ≠ .unpowered →
    (s.port p).receiver = none →
    ∃ t, exec c s = .next t ∧ exec (.frameReceived p r.content) s = .next t

/-- A frame whose check, length or kind is wrong is discarded: it is counted up to 65,535, answered with
nothing, and the receiver hunts. A frame in progress is discarded alike when 20 ms pass after a byte, at a
length outside 2..242, and at a byte without its stop bit.
A hunting receiver passes over every byte but the start byte; the start byte and the bytes of a frame,
from its length to its last check byte, each with its stop bit, one after another with no other command
between them, have the effect of the complete frame. -/
def Obligations.TheReceiverTakesBytesByPosition : Prop :=
  (∀ (s : State) (p : Port), s.phase ≠ .unpowered →
    ((s.port p).receiver = none → ∀ content : List Byte,
      (content.length < 5 ∨ crc16 (content.take (content.length - 2)) ≠
          field content (content.length - 2) 2
        ∨ field content 0 1 + 3 ≠ content.length ∨ 242 < field content 0 1
        ∨ field content 1 1 / 16 ≠ 1) →
      exec (.frameReceived p content) s = .next (s.setPort p
        { s.port p with errors := min 65535 ((s.port p).errors + 1) }))
    ∧ ∀ f, (s.port p).receiver = some f →
      exec (.portByteGapExpiry p) s =
        .next (State.setPort { s with elapsed := max s.elapsed f.gapEnd } p
          { s.port p with receiver := none, errors := min 65535 ((s.port p).errors + 1) })
      ∧ (∀ byte, exec (.portByteReceived p byte false) s = .next (s.setPort p
          { s.port p with receiver := none, errors := min 65535 ((s.port p).errors + 1) }))
      ∧ (∀ byte : Byte, f.bytes = [] → byte.toNat < 2 ∨ 242 < byte.toNat →
        exec (.portByteReceived p byte true) s = .next (s.setPort p
          { s.port p with receiver := none, errors := min 65535 ((s.port p).errors + 1) })))
  ∧ (∀ (s : State) (p : Port), s.phase ≠ .unpowered → (s.port p).receiver = none →
    (∀ (byte : Byte) (stop : Bool), byte ≠ 0xC3#8 → exec (.portByteReceived p byte stop) s = .next s)
    ∧ ∀ (content : List Byte) (len : Byte) (rest : List Byte),
      content = len :: rest → 2 ≤ len.toNat → len.toNat ≤ 242 → rest.length = len.toNat + 2 →
      ∃ t, exec (.portByteReceived p 0xC3#8 true) s = .next t
        ∧ t = s.setPort p { s.port p with receiver := some ⟨[], s.elapsed + 20000⟩ }
        ∧ (content.dropLast.foldlM (fun u byte =>
            match exec (.portByteReceived p byte true) u with
            | .next v => some v
            | _ => none) t).bind (fun u => content.getLast?.map fun byte =>
              exec (.portByteReceived p byte true) u) =
          some (exec (.frameReceived p content) s))

/-! ### The rack link -/

/-- EXCHANGE_START, with no ALL_STOP owed, sends the first message of the visited bay's outbox, or a POLL
where it is empty or the bay is SILENT, and the answer window of 400 microseconds opens at the end of its
last word; with no visit in progress the next bay of the round is visited. ALL_STOP_BROADCAST sends an
ALL_STOP that is owed and touches no bay record. The words kept are the model's own observation (log
entry 30). -/
def Obligations.ExchangesSendTheOutboxInTurn : Prop :=
  ∀ (s : State), s.phase = .running → s.rack.exchange = none →
    (s.rack.latchStop = false → s.rack.roundStop = false →
      ∀ (v : Visit) (left : List BayNo) (m : Option Message) (words : List (BitVec 30)),
        (s.rack.visit = some v ∧ left = s.rack.roundLeft)
          ∨ (s.rack.visit = none ∧ s.rack.roundLeft = v.bay :: left ∧ v = ⟨v.bay, 0, false⟩) →
        m = (if (s.bay v.bay).link = .silent then none else (s.bay v.bay).outbox.head?) →
        words = (match m with
          | none => [headWord (v.bay.val + 1) 0x01 0 0]
          | some (.permit x index product target capacity) =>
            [headWord (v.bay.val + 1) 0x02 3 (armCode x), word (index * 256 + product), word target,
              word capacity]
          | some (.stop x) => [headWord (v.bay.val + 1) 0x03 0 (armCode x)]
          | some (.verdict q x deny) => [headWord (v.bay.val + 1) 0x04 0 (verdictArgument q x deny)]
          | some .dismiss => [headWord (v.bay.val + 1) 0x05 0 0]) →
        exec .exchangeStart s = .next { s with rack := { s.rack with
          roundLeft := left
          visit := some v
          exchange := some ⟨m, s.elapsed + 128 * words.length + 400⟩
          out := words } })
    ∧ (s.rack.latchStop = true → exec .allStopBroadcast s = .next { s with
        rack := { s.rack with latchStop := false, out := [headWord 0 0x06 0 0] } })
    ∧ (s.rack.latchStop = false → s.rack.roundStop = true → exec .allStopBroadcast s = .next { s with
        rack := { s.rack with roundStop := false, out := [headWord 0 0x06 0 0] } })

/-- No answer within the window is a miss: the visit ends, the missed total counts it, and the link state
goes from ONLINE over two misses in SUSPECT to SILENT, where it stays. At the silence the outbox is emptied,
every active compartment and every orphan that the bay's arms refer to becomes INTERRUPTED without a
deadline, and a BAY_SILENT entry is offered (R70, R71, R92, R102).
An answer that is not valid has the effect of no answer, and raises the bay's check-error count. -/
def Obligations.MissesCountDownToSilence : Prop :=
  (∀ (s : State) (v : Visit) (e : Exchange) (n total : Nat) (r : BayRecord),
    s.phase = .running → s.rack.visit = some v → s.rack.exchange = some e → v.dropped = false →
    r = s.bay v.bay → n = max s.elapsed e.windowEnd → total = min 65535 (r.missedTotal + 1) →
    (r.link = .online → exec .answerWindowExpiry s = .next { s with
      elapsed := n
      rack := s.lineAfterVisit
      bays := s.bays.set v.bay.val { r with link := .suspect, missed := 1, missedTotal := total }
        v.bay.isLt })
    ∧ (r.link = .suspect → r.missed = 1 → exec .answerWindowExpiry s = .next { s with
      elapsed := n
      rack := s.lineAfterVisit
      bays := s.bays.set v.bay.val { r with missed := 2, missedTotal := total } v.bay.isLt })
    ∧ (r.link = .silent → exec .answerWindowExpiry s = .next { s with
      elapsed := n
      rack := s.lineAfterVisit
      bays := s.bays.set v.bay.val { r with missed := 3, missedTotal := total } v.bay.isLt })
    ∧ (r.link = .suspect → r.missed = 2 → ∀ down : ArmRecord → ArmRecord,
      (∀ a, down a = match a with
        | .orphan o => .orphan { o with state := .interrupted, deadline := none }
        | a => a) →
      ∃ t, exec .answerWindowExpiry s = .next t
        ∧ t = { s with
          elapsed := n
          rack := s.lineAfterVisit
          bays := s.bays.set v.bay.val { r with
            link := .silent
            missed := 3
            missedTotal := total
            outbox := []
            armA := down r.armA
            armB := down r.armB } v.bay.isLt
          dispatch := t.dispatch
          log := (State.offer { s with elapsed := n } (s.boundRef v.bay) 0
            (.baySilent v.bay r.armA.cond r.armB.cond)).log }
        ∧ ∀ i, t.slot i = (s.slot i).map fun d => { d with comps := d.comps.map fun c =>
          if (r.armA = .compartment i c.index ∨ r.armB = .compartment i c.index)
              ∧ (c.state = .permitted ∨ c.state = .flowing ∨ c.state = .stopping) then
            { c with state := .interrupted, deadline := none }
          else c }))
  ∧ (∀ (s t : State) (v : Visit) (e : Exchange) (words : List RxWord),
    s.phase = .running → s.rack.visit = some v → s.rack.exchange = some e → v.dropped = false →
    decodeAnswer v.bay words = none →
    exec .answerWindowExpiry { s with rack := { s.rack with exchange := some ⟨e.sent, 0⟩ } } = .next t →
    exec (.answerReceived words) s = .next { t with
      bays := t.bays.set v.bay.val { t.bay v.bay with
        checkErrors := min 65535 ((s.bay v.bay).checkErrors + 1) } v.bay.isLt })

/-- An answer of the visited bay whose words are all good reads back as what the bay sent, with every field,
for every answer that R57 and R58 allow. -/
def Obligations.AnswersReadBackWhole : Prop :=
  ∀ (b : BayNo) (a : Answer), a.wellFormed = true → decodeAnswer b (answerWords b a) = some a

/-- The return of a SILENT bay: it is ONLINE with no miss, a BAY_BACK entry is offered, a STOP is queued for each
arm that refers to an INTERRUPTED compartment or holds an orphan, and a DISMISS if the bay is bound to nothing;
then its answer is taken as from an ONLINE bay, so that a CLAIM of an unbound bay is not taken (R72). From a bay
that is not SILENT, a STATUS answer with no report, and an attention answer that finds a VERDICT waiting, or,
being a CLAIM, a DISMISS, has no effect but on the link state, the exchange and its message; and of two reports
the second is taken as if alone after the first (R70, R73, R74). That arm A's STOP joins the outbox before arm B's
is the model's choice (log entry 37). -/
def Obligations.ValidAnswersRestoreTheLink : Prop :=
  (∀ (s u : State) (v : Visit) (sent : Option Message) (r : BayRecord) (box : List Message) (a : Answer),
    s.exchanging v sent → s.polled v.bay = true → r = s.bay v.bay → r.link = .silent → r.outbox = [] →
    a.wellFormed = true →
    box = (if s.armInterrupted v.bay .A then [.stop .A] else [])
      ++ (if s.armInterrupted v.bay .B then [.stop .B] else []) ++ (if r.bound = none then [.dismiss] else []) →
    u = { s with
      bays := s.bays.set v.bay.val { r with link := .online, missed := 0, outbox := box } v.bay.isLt
      log := (s.offer (s.boundRef v.bay) 0 (.bayBack v.bay r.missedTotal)).log } →
    exec (.answerReceived (answerWords v.bay a)) s = exec (.answerReceived (answerWords v.bay a)) u)
  ∧ ∀ (s u : State) (v : Visit) (sent : Option Message) (r : BayRecord),
    s.exchanging v sent → (s.bay v.bay).link ≠ .silent → u = s.heard v sent →
    r = (s.bay v.bay).heard sent →
    exec (.answerReceived (answerWords v.bay (.status []))) s = .next (u.exchangeOver v)
    ∧ ((∃ m ∈ r.outbox, m.isVerdict = true) → ∀ a, a.wellFormed = true → (∀ q, a ≠ .status q) →
      exec (.answerReceived (answerWords v.bay a)) s = .next (u.exchangeOver v))
    ∧ (.dismiss ∈ r.outbox → ∀ ref, ref < 2 ^ 32 →
      exec (.answerReceived (answerWords v.bay (.claim ref))) s = .next (u.exchangeOver v))
    ∧ ∀ (q q' : Report) (t : State), q.wellFormed = true → q'.wellFormed = true →
      exec (.answerReceived (answerWords v.bay (.status [q]))) s = .next t →
      exec (.answerReceived (answerWords v.bay (.status [q, q']))) s =
        exec (.answerReceived (answerWords v.bay (.status [q'])))
          { t with rack := { s.rack with exchange := some ⟨none, 0⟩ } }

/-- A CLAIM taken from a bay that is not SILENT: the message of its exchange leaves the outbox, and the claim is
judged by the first check that fails, UNKNOWN_DELIVERY and OWNED before the others. A granted claim binds delivery
and bay to each other, sets the claim time and offers a CLAIM entry; a repeated claim changes nothing; and a denial
changes nothing: in each case the VERDICT stands at the front of the outbox (R73, R74, R81, R82). -/
def Obligations.ClaimsAreJudgedInOrder : Prop :=
  ∀ (s u : State) (v : Visit) (sent : Option Message) (r : BayRecord) (ref : Nat),
    s.exchanging v sent → s.polled v.bay = true → (s.bay v.bay).link ≠ .silent → ref < 2 ^ 32 →
    u = s.heard v sent → r = (s.bay v.bay).heard sent →
    (∀ m ∈ r.outbox, m.isVerdict = false ∧ m ≠ .dismiss) →
    (ref = 0 ∨ (∀ i d, s.slot i = some d → d.ref ≠ ref) →
      exec (.answerReceived (answerWords v.bay (.claim ref))) s =
        .next (u.judged v .claim none (some .unknownDelivery)))
    ∧ ∀ (i : SlotNo) (d : Delivery), s.holdsAt i d → d.ref = ref → ref ≠ 0 →
      (s.owned d = true → exec (.answerReceived (answerWords v.bay (.claim ref))) s =
        .next (u.judged v .claim none (some .owned)))
      ∧ (s.owned d = false → d.state = .atBay → d.bay = some v.bay →
        exec (.answerReceived (answerWords v.bay (.claim ref))) s = .next (u.judged v .claim none none))
      ∧ (s.owned d = false → ¬ (d.state = .atBay ∧ d.bay = some v.bay) →
        ∀ x, x = (if r.bound ≠ none ∨ r.armA ≠ .free ∨ r.armB ≠ .free then some DenyReason.bayBound
          else if d.state = .atBay then some .deliveryBound
          else if d.state ≠ .arrived then some .notArrived
          else if (s.projectFor d).failing.without d.overrides ≠ HoldSet.empty then some .hours
          else none) →
        (x ≠ none → exec (.answerReceived (answerWords v.bay (.claim ref))) s =
          .next (u.judged v .claim none x))
        ∧ (x = none → exec (.answerReceived (answerWords v.bay (.claim ref))) s = .next (State.judged
          { u with
            bays := u.bays.set v.bay.val { r with bound := some i } v.bay.isLt
            dispatch := s.dispatch.set i.val (some { d with
              state := .atBay
              bay := some v.bay
              claim := some s.now }) i.isLt
            log := (s.offer d.ref (d.driver.getD 0) (.claim v.bay (s.projectFor d).margins.daily
              (s.projectFor d).margins.rolling ((s.projectFor d).margins.shift.getD 0))).log }
          v .claim none none)))

/-- A START taken from a bay that is not SILENT is judged by the first check that fails: without a bound delivery
UNKNOWN_DELIVERY (R80, R83); then OWNED, NO_COMPARTMENT and the others. Of a START that comes after the CANCEL of the
bay's delivery R21 says OWNED, and R80 and R83 say UNKNOWN_DELIVERY, for the bay is bound to nothing: that it is denied
UNKNOWN_DELIVERY is the model's reading of R74 (log entry 35). A grant sets compartment and arm record to each other,
starts the permit window, sets L to 0 and nothing else of the set, and queues the VERDICT at the front and a PERMIT at
the back; a denial changes nothing but the outbox, and offers a DENY entry for CROSSOVER and SWITCH_LOAD alone (R83 to
R85). -/
def Obligations.StartsAreJudgedInOrder : Prop :=
  ∀ (s u : State) (v : Visit) (sent : Option Message) (r : BayRecord) (a : Arm) (index armProduct : Nat),
    s.exchanging v sent → s.polled v.bay = true → (s.bay v.bay).link ≠ .silent → index < 8 →
    armProduct < 32 → u = s.heard v sent → r = (s.bay v.bay).heard sent →
    (∀ m ∈ r.outbox, m.isVerdict = false) →
    (r.bound = none → exec (.answerReceived (answerWords v.bay (.start a index armProduct))) s =
        .next (u.judged v .start (some a) (some .unknownDelivery)))
    ∧ ∀ (i : SlotNo) (d : Delivery), r.bound = some i → s.slot i = some d →
      (s.owned d = true → exec (.answerReceived (answerWords v.bay (.start a index armProduct))) s =
        .next (u.judged v .start (some a) (some .owned)))
      ∧ (s.owned d = false → (∀ c ∈ d.comps, c.index ≠ index) →
        exec (.answerReceived (answerWords v.bay (.start a index armProduct))) s =
          .next (u.judged v .start (some a) (some .noCompartment)))
      ∧ (s.owned d = false → ∀ c, d.comp index = some c →
        (∀ m ∈ r.outbox, m.isPermit a = true → r.armRecord a ≠ .free) →
        ∀ x, x = (if c.state ≠ .planned then some DenyReason.notPlanned
          else if r.armRecord a ≠ .free ∨ Message.stop a ∈ r.outbox then some .armBusy
          else if s.latch.isSet then some .shutdown
          else if (s.product c.product).state ≠ .enabled then some .productDisabled
          else if armProduct ≠ c.product then some .crossover
          else if (s.product c.last).state ≠ .undefined ∧ (s.product c.last).flash = .low
              ∧ (s.product c.product).flash = .high ∧ c.purge = false then some .switchLoad
          else none) →
        (x ≠ none → exec (.answerReceived (answerWords v.bay (.start a index armProduct))) s = .next
          (State.judged
            { u with log := if x = some .crossover ∨ x = some .switchLoad then
                (s.offer d.ref (d.driver.getD 0)
                  (.deny v.bay a index (x.getD .crossover) armProduct c.product c.last)).log
              else s.log } v .start (some a) x))
        ∧ (x = none → exec (.answerReceived (answerWords v.bay (.start a index armProduct))) s = .next
          (State.judged
            { u with
              bays := u.bays.set v.bay.val { r.setArmRecord a (.compartment i index) with
                outbox := r.outbox ++ [.permit a index c.product c.planned c.capacity] } v.bay.isLt
              dispatch := s.dispatch.set i.val (some { d with comps := d.comps.map fun y =>
                if y.index = index then
                  { y with
                    state := .permitted
                    arm := some ⟨v.bay, a⟩
                    deadline := some ⟨.permitWindow, s.elapsed + s.settings.permit * 1000000⟩
                    acc := { y.acc with L := 0 } }
                else y }) i.isLt } v .start (some a) none)))

/-- A FINISH taken from a bay that is not SILENT is denied UNKNOWN_DELIVERY without a bound delivery, OWNED while
the bound delivery is owned, and ACTIVE while a compartment of it is PERMITTED, FLOWING or STOPPING. Else it is
granted and the session ends: back to ARRIVED, or to LOADED with the first version of a paper and its PAPER entry
(R8, R80, R86, R125 to R127). That no FINISH of a bay without a bound delivery is one for a delivery that a CANCEL took
from it, which R20 would deny OWNED, is the model's reading (log entry 35). -/
def Obligations.FinishesEndTheSession : Prop :=
  ∀ (s u : State) (v : Visit) (sent : Option Message) (r : BayRecord),
    s.exchanging v sent → s.polled v.bay = true → (s.bay v.bay).link ≠ .silent →
    u = s.heard v sent → r = (s.bay v.bay).heard sent → (∀ m ∈ r.outbox, m.isVerdict = false) →
    (r.bound = none → exec (.answerReceived (answerWords v.bay .finish)) s =
      .next (u.judged v .finish none (some .unknownDelivery)))
    ∧ ∀ (i : SlotNo) (d : Delivery), r.bound = some i → s.slot i = some d →
      (s.owned d = true →
        exec (.answerReceived (answerWords v.bay .finish)) s =
          .next (u.judged v .finish none (some .owned)))
      ∧ (s.owned d = false →
        (∃ c ∈ d.comps, c.state = .permitted ∨ c.state = .flowing ∨ c.state = .stopping) →
        exec (.answerReceived (answerWords v.bay .finish)) s =
          .next (u.judged v .finish none (some .active)))
      ∧ (s.owned d = false → d.bay = some v.bay →
        (∀ c ∈ d.comps, c.state ≠ .permitted ∧ c.state ≠ .flowing ∧ c.state ≠ .stopping) →
        exec (.answerReceived (answerWords v.bay .finish)) s =
          .next ((u.sessionOver i d v.bay).judged v .finish none none))

/-- A FAULT taken from a bay that is not SILENT is denied OWNED while the bound delivery is owned. Else it is
granted, bound or not: what each arm refers to gets FAULT, a PERMITTED or FLOWING compartment goes to STOPPING for
30 s, a STOPPING or INTERRUPTED one keeps state and deadline, a STOP is queued for each arm that refers to an
active compartment or a STOPPING orphan, and a BAY_FAULT entry is offered; nothing else changes (R87). That arm
A's STOP comes before arm B's is the model's choice (log entry 37); that no FAULT of a bay without a bound delivery is
one for a delivery that a CANCEL took from it, which R20 would deny OWNED, is the model's reading (log entry 35). -/
def Obligations.FaultsStopTheArms : Prop :=
  ∀ (s u : State) (v : Visit) (sent : Option Message) (r : BayRecord) (code : Nat),
    s.exchanging v sent → s.polled v.bay = true → (s.bay v.bay).link ≠ .silent → 1 ≤ code → code ≤ 4 →
    u = s.heard v sent → r = (s.bay v.bay).heard sent → (∀ m ∈ r.outbox, m.isVerdict = false) →
    (∀ i d, r.bound = some i → s.slot i = some d → s.owned d = true →
      exec (.answerReceived (answerWords v.bay (.fault code))) s =
        .next (u.judged v .fault none (some .owned)))
    ∧ ((∀ i d, r.bound = some i → s.slot i = some d → s.owned d = false) →
      (∀ i d, s.slot i = some d → (d.comps.map Compartment.index).Nodup) →
      ∀ box, box = (if s.armActive v.bay .A then stopQueued .A r.outbox else r.outbox) →
      ∃ t : State, exec (.answerReceived (answerWords v.bay (.fault code))) s =
          .next (t.judged v .fault none none)
        ∧ t = { u with
          dispatch := t.dispatch
          bays := u.bays.set v.bay.val { r with
            armA := r.armA.faulted
            armB := r.armB.faulted
            outbox := if s.armActive v.bay .B then stopQueued .B box else box } v.bay.isLt
          log := (s.offer (s.boundRef v.bay) 0 (.bayFault v.bay code r.armA.cond r.armB.cond)).log }
        ∧ ∀ i, t.slot i = (s.slot i).map fun d => { d with
          comps := d.comps.map fun c =>
            if r.armA = .compartment i c.index ∨ r.armB = .compartment i c.index then
              c.faulted (s.elapsed + 30000000)
            else c })

/-! ### Loading -/

/-- A report that does not end the loading: the increment and the readout, the flags of the checks, GAP where it
ends an interruption, a STOP where a cut-off is found or a settling valve opens again, and the state and
deadline of the tables of R90, R91 and R92. Nothing else changes but the exchange, which ends. -/
def Obligations.ReportsMoveTheCompartment : Prop :=
  ∀ (s u : State) (v : Visit) (sent : Option Message) (r : BayRecord) (q : Report) (i : SlotNo)
    (d : Delivery) (c : Compartment) (acc : Acc) (cut reopened : Bool) (move : CompState × Option Deadline),
    s.exchanging v sent → s.polled v.bay = true → (s.bay v.bay).link ≠ .silent → u = s.heard v sent →
    r = (s.bay v.bay).heard sent → q.wellFormed = true → r.armRecord q.arm = .compartment i c.index →
    s.slot i = some d → d.comp c.index = some c → (∀ y ∈ d.comps, y.index = c.index → y = c) →
    (acc, cut) = q.found (s.product c.product).points c.acc c.planned c.capacity s.settings.allowance
      (c.state == .interrupted) →
    reopened = (decide (c.deadline.map Deadline.kind = some .settleInterval) && q.valveOpen) →
    (c.state = .permitted ∧ (q.valveOpen = true ∨ q.cumulative = 0 ∨ q.settled = false)
      ∧ move = (if q.valveOpen then
          if cut then (.stopping, some ⟨.stopDeadline, s.elapsed + 30000000⟩)
          else (.flowing, some ⟨.flowingLimit, s.elapsed + s.settings.flowing * 1000000⟩)
        else if q.cumulative = 0 then (.permitted, c.deadline)
        else (.stopping, some ⟨.settleInterval, s.elapsed + s.settings.settle * 1000000⟩)))
      ∨ (c.state = .flowing ∧ (q.valveOpen = true ∨ q.settled = false)
        ∧ move = (if q.valveOpen then
            if cut then (.stopping, some ⟨.stopDeadline, s.elapsed + 30000000⟩)
            else (.flowing, c.deadline)
          else (.stopping, some ⟨.settleInterval, s.elapsed + s.settings.settle * 1000000⟩)))
      ∨ (c.state = .stopping ∧ c.deadline.map Deadline.kind = some .stopDeadline
        ∧ (q.valveOpen = true ∨ q.settled = false)
        ∧ move = (if q.valveOpen then (.stopping, c.deadline)
          else (.stopping, some ⟨.settleInterval, s.elapsed + s.settings.settle * 1000000⟩)))
      ∨ (c.state = .stopping ∧ c.deadline.map Deadline.kind = some .settleInterval
        ∧ (q.valveOpen = true ∨ q.settled = false)
        ∧ move = (if q.valveOpen then (.stopping, some ⟨.stopDeadline, s.elapsed + 30000000⟩)
          else (.stopping, c.deadline)))
      ∨ (c.state = .interrupted ∧ (q.valveOpen = true ∨ q.settled = false)
        ∧ move = (if q.valveOpen then (.stopping, some ⟨.stopDeadline, s.elapsed + 30000000⟩)
          else (.stopping, some ⟨.settleInterval, s.elapsed + s.settings.settle * 1000000⟩))) →
    exec (.answerReceived (answerWords v.bay (.status [q]))) s = .next (State.exchangeOver
      { u with
        bays := u.bays.set v.bay.val { r with outbox :=
          if cut ∨ (c.state = .stopping ∧ reopened) then stopQueued q.arm r.outbox else r.outbox } v.bay.isLt
        dispatch := s.dispatch.set i.val
          (some (d.withComp c.index { c with state := move.1, deadline := move.2, acc := acc })) i.isLt } v)

/-- A settled report of an armed compartment, its valve closed: the increment, the checks and a STOP where one
finds a cut-off, as of any report; and then the compartment reaches DONE, or VOID where nothing was metered, its
arm is free, its COMPARTMENT entry is offered, and the paper of a LOADED or HELD delivery has its next version
(R89 to R92, R96, R128). That a LOADED or HELD delivery without a paper gets no version and no PAPER entry is the
model's reading (log entry 11). -/
def Obligations.SettledReportsEndTheLoading : Prop :=
  ∀ (s u : State) (v : Visit) (sent : Option Message) (r : BayRecord) (q : Report) (i : SlotNo)
    (d : Delivery) (c : Compartment) (acc : Acc) (cut : Bool),
    s.exchanging v sent → s.polled v.bay = true → (s.bay v.bay).link ≠ .silent → u = s.heard v sent →
    r = (s.bay v.bay).heard sent → q.wellFormed = true → r.armRecord q.arm = .compartment i c.index →
    c.arm = some ⟨v.bay, q.arm⟩ → s.slot i = some d → d.comp c.index = some c →
    (∀ y ∈ d.comps, y.index = c.index → y = c) →
    (acc, cut) = q.found (s.product c.product).points c.acc c.planned c.capacity s.settings.allowance
      (c.state == .interrupted) →
    q.valveOpen = false → q.settled = true →
    (c.state = .permitted ∧ q.cumulative ≠ 0) ∨ c.state = .flowing ∨ c.state = .stopping
      ∨ c.state = .interrupted →
    exec (.answerReceived (answerWords v.bay (.status [q]))) s = .next (State.exchangeOver
      (State.doneAt
        { u with
          bays := u.bays.set v.bay.val
            { r with outbox := if cut then stopQueued q.arm r.outbox else r.outbox } v.bay.isLt }
        i d { c with acc := acc } v.bay q.arm) v)

/-- A report for an orphan is taken as for an armed compartment: the increment, the checks, GAP where it ends an
interruption, a STOP for a cut-off or a valve that opens again; closed and settled, its LATE_QUANTITY entry is
offered and the arm is free; else it is STOPPING with the deadline of R91 and R92 (R102, R103).
A report for a free arm with the valve open or a cumulative gross above 0 is unpermitted flow: an UNPERMITTED entry
is offered and a STOP queued, and no compartment, orphan or total changes; any other does nothing (R98). -/
def Obligations.ReportsReachOrphansAndFreeArms : Prop :=
  ∀ (s u : State) (v : Visit) (sent : Option Message) (r : BayRecord) (q : Report),
    s.exchanging v sent → s.polled v.bay = true → (s.bay v.bay).link ≠ .silent → u = s.heard v sent →
    r = (s.bay v.bay).heard sent → q.wellFormed = true →
    (∀ (o : Orphan) (acc : Acc) (cut settling : Bool) (box : List Message) (deadline : Option Deadline),
      r.armRecord q.arm = .orphan o →
      (acc, cut) = q.found (s.product o.product).points o.acc o.planned o.capacity s.settings.allowance
        (o.state == .interrupted) →
      settling = (decide (o.state = .stopping)
        && decide (o.deadline.map Deadline.kind = some .settleInterval)) →
      box = (if cut ∨ (settling ∧ q.valveOpen) then stopQueued q.arm r.outbox else r.outbox) →
      (q.valveOpen = false → q.settled = true →
        exec (.answerReceived (answerWords v.bay (.status [q]))) s = .next (State.exchangeOver
          (State.orphanDone { u with bays := u.bays.set v.bay.val { r with outbox := box } v.bay.isLt }
            v.bay q.arm { o with acc := acc }) v))
      ∧ (q.valveOpen = true ∨ q.settled = false →
        deadline = (if q.valveOpen then
            if o.state = .stopping ∧ settling = false then o.deadline
            else some ⟨.stopDeadline, s.elapsed + 30000000⟩
          else if settling then o.deadline
          else some ⟨.settleInterval, s.elapsed + s.settings.settle * 1000000⟩) →
        exec (.answerReceived (answerWords v.bay (.status [q]))) s = .next (State.exchangeOver
          { u with
            bays := u.bays.set v.bay.val
              { r.setArmRecord q.arm
                  (.orphan { o with state := .stopping, deadline := deadline, acc := acc }) with
                outbox := box } v.bay.isLt } v)))
    ∧ (r.armRecord q.arm = .free →
      (q.valveOpen = true ∨ 0 < q.cumulative →
        exec (.answerReceived (answerWords v.bay (.status [q]))) s = .next (State.exchangeOver
          { u with
            bays := u.bays.set v.bay.val { r with outbox := stopQueued q.arm r.outbox } v.bay.isLt
            log := (s.offer (s.boundRef v.bay) 0 (.unpermitted v.bay q.arm q.cumulative
              (max (-500) (min 700 q.temp)) q.valveOpen)).log } v))
      ∧ (q.valveOpen = false → q.cumulative = 0 →
        exec (.answerReceived (answerWords v.bay (.status [q]))) s = .next (u.exchangeOver v)))

/-- The permit window expires: the compartment returns to PLANNED without a deadline, compartment and arm record let go
of each other, and a STOP is queued, in the place of a PERMIT that still waits. No entry is made. In a lawful record G
is 0. Once the STOP has left the outbox the arm is available, so that the compartment can be started again (R93). -/
def Obligations.PermitWindowReturnsToPlanned : Prop :=
  ∀ (s u : State) (i : SlotNo) (d : Delivery) (c : Compartment) (t : Nat) (b : BayNo) (a : Arm),
    s.phase = .running → s.slot i = some d → d.comp c.index = some c →
    (∀ y ∈ d.comps, y.index = c.index → y = c) → c.state = .permitted →
    c.deadline = some ⟨.permitWindow, t⟩ → c.arm = some ⟨b, a⟩ →
    u = { s with
      elapsed := max s.elapsed t
      dispatch := s.dispatch.set i.val
        (some (d.withComp c.index { c with state := .planned, deadline := none, arm := none })) i.isLt
      bays := s.bays.set b.val { (s.bay b).setArmRecord a .free with outbox := s.boxWithStop b a }
        b.isLt } →
    exec (.permitWindowExpiry i c.index) s = .next u
      ∧ (c.lawful → c.acc.G = 0)
      ∧ ∀ r : BayRecord, r = { u.bay b with outbox := (u.bay b).outbox.filter fun m => !m.isStop a } →
        r.available a = true

/-- The flowing limit expires: TIME is set, the compartment goes to STOPPING awaiting closure, the stop deadline
of 30 s starts, and a STOP for the arm is queued (R94). -/
def Obligations.FlowingLimitStopsTheFlow : Prop :=
  ∀ (s : State) (i : SlotNo) (d : Delivery) (c : Compartment) (t : Nat) (b : BayNo) (a : Arm),
    s.phase = .running → s.slot i = some d → d.comp c.index = some c →
    (∀ y ∈ d.comps, y.index = c.index → y = c) → c.state = .flowing →
    c.deadline = some ⟨.flowingLimit, t⟩ → c.arm = some ⟨b, a⟩ →
    exec (.flowingLimitExpiry i c.index) s = .next { s with
      elapsed := max s.elapsed t
      dispatch := s.dispatch.set i.val
        (some (d.withComp c.index { c with
          state := .stopping
          deadline := some ⟨.stopDeadline, max s.elapsed t + 30000000⟩
          acc := { c.acc with flags := { c.acc.flags with time := true } } })) i.isLt
      bays := s.bays.set b.val { s.bay b with outbox := s.boxWithStop b a } b.isLt }

/-- The settle interval expires: a compartment reaches DONE, or VOID where nothing was metered, its arm is freed,
its COMPARTMENT entry is offered, and the paper of a LOADED or HELD delivery gets its next version; an orphan is
logged and cleared (R95, R96, R102, R103, R128). That a LOADED or HELD delivery without a paper gets no version
and no PAPER entry is the model's reading (log entry 11). -/
def Obligations.SettleIntervalEndsTheLoading : Prop :=
  ∀ (s : State) (t : Nat), s.phase = .running →
    (∀ (i : SlotNo) (d : Delivery) (c : Compartment) (b : BayNo) (a : Arm),
      s.slot i = some d → d.comp c.index = some c → (∀ y ∈ d.comps, y.index = c.index → y = c) →
      c.state = .stopping → c.deadline = some ⟨.settleInterval, t⟩ → c.arm = some ⟨b, a⟩ →
      exec (.settleIntervalExpiry (.compartment i c.index)) s =
        .next (State.doneAt { s with elapsed := max s.elapsed t } i d c b a))
    ∧ ∀ (b : BayNo) (a : Arm) (o : Orphan), s.arm b a = .orphan o → o.state = .stopping →
      o.deadline = some ⟨.settleInterval, t⟩ →
      exec (.settleIntervalExpiry (.orphan b a)) s =
        .next (State.orphanDone { s with elapsed := max s.elapsed t } b a o)

/-- The stop deadline expires: the compartment or orphan ends as at a settle interval, with UNCLOSED set, its
COMPARTMENT or LATE_QUANTITY entry offered and its arm freed, and STOP_FAILED joins the latch. Where the latch
holds it already, nothing more happens; where the latch holds other causes, a SHUTDOWN entry is offered, with no
compartment moved; where it was empty, that is a latch event: an ALL_STOP is owed, every PERMITTED and FLOWING
compartment is stopped, a STOP is queued for each of their arms, and the SHUTDOWN entry counts them (R95, R96,
R99, R100, R102, R103). That the STOPs of one bay's two arms are queued in slot and booking order is the model's
choice (log entry 37). That a LOADED or HELD delivery without a paper gets no version and no PAPER entry is the
model's reading (log entry 11). -/
def Obligations.StopDeadlineLatchesTheFailure : Prop :=
  ∀ (s ended : State) (t : Nat) (target : DeadlineOf), s.phase = .running →
    (∃ (i : SlotNo) (d : Delivery) (c : Compartment) (b : BayNo) (a : Arm),
      target = .compartment i c.index ∧ s.slot i = some d ∧ d.comp c.index = some c
        ∧ (∀ y ∈ d.comps, y.index = c.index → y = c) ∧ c.state = .stopping
        ∧ c.deadline = some ⟨.stopDeadline, t⟩ ∧ c.arm = some ⟨b, a⟩
        ∧ ended = State.doneAt { s with elapsed := max s.elapsed t } i d
          { c with acc := { c.acc with flags := { c.acc.flags with unclosed := true } } } b a)
      ∨ (∃ (b : BayNo) (a : Arm) (o : Orphan), target = .orphan b a ∧ s.arm b a = .orphan o
        ∧ o.state = .stopping ∧ o.deadline = some ⟨.stopDeadline, t⟩
        ∧ ended = State.orphanDone { s with elapsed := max s.elapsed t } b a
          { o with acc := { o.acc with flags := { o.acc.flags with unclosed := true } } }) →
    (s.latch.stopFailed = true → exec (.stopDeadlineExpiry target) s = .next ended)
    ∧ (s.latch.stopFailed = false → s.latch ≠ ⟨false, false, false, false⟩ →
      exec (.stopDeadlineExpiry target) s = .next { ended with
        latch := { s.latch with stopFailed := true }
        log := (ended.offer 0 0 (.shutdown .stopFailed { s.latch with stopFailed := true } 0)).log })
    ∧ (s.latch = ⟨false, false, false, false⟩ →
      ∃ u, exec (.stopDeadlineExpiry target) s = .next u
        ∧ u = { ended with
          latch := ⟨false, true, false, false⟩
          rack := { s.rack with latchStop := true }
          dispatch := u.dispatch
          bays := u.bays
          log := (ended.offer 0 0
            (.shutdown .stopFailed ⟨false, true, false, false⟩ ended.flows)).log }
        ∧ ended.stoppedBy u)

/-- The shutdown input becomes asserted with the latch empty: INPUT is latched and an ALL_STOP is owed; each
PERMITTED compartment returns to PLANNED and frees its arm, each FLOWING one sets SHUTDOWN and goes to STOPPING
for 30 s, and every other compartment and every orphan stays; a STOP is queued for each arm concerned at a bay
that can be told, in the place of a PERMIT that waits; and a SHUTDOWN entry is offered with the number moved. With
other causes latched it joins them with its entry alone. While the part starts or has no power the input becomes
asserted and nothing else changes: the level waits for a sampling. Deassertion lowers the input and nothing else (R64,
R65, R99, R100). That the STOPs of one bay's two arms are queued in slot and booking order is the model's choice (log
entry 37).
SHUTDOWN_CLEAR: refused while the shutdown input is asserted; else the latch is emptied, the causes it
held are logged and answered, and an empty latch gives no entry. That an ALL_STOP still owed is not sent is
the model's choice (log entry 17). -/
def Obligations.TheShutdownLatchStopsEveryFlow : Prop :=
  (∀ (s : State),
    exec .shutdownInputDeasserted s = .next { s with shutdownInput := false }
    ∧ (s.phase ≠ .running → exec .shutdownInputAsserted s = .next { s with shutdownInput := true })
    ∧ (s.shutdownInput = false → s.phase = .running →
      (s.latch = ⟨false, false, false, false⟩ →
        ∃ t, exec .shutdownInputAsserted s = .next t
          ∧ t = { s with
            shutdownInput := true
            latch := ⟨true, false, false, false⟩
            rack := { s.rack with latchStop := true }
            dispatch := t.dispatch
            bays := t.bays
            log := (s.offer 0 0 (.shutdown .input ⟨true, false, false, false⟩ s.flows)).log }
          ∧ s.stoppedBy t)
      ∧ (s.latch ≠ ⟨false, false, false, false⟩ →
        exec .shutdownInputAsserted s = .next { s with
          shutdownInput := true
          latch := { s.latch with input := true }
          log := if s.latch.input then s.log
            else (s.offer 0 0 (.shutdown .input { s.latch with input := true } 0)).log })))
  ∧ (∀ (s : State) (tag : Nat), s.ready .office tag →
    (s.shutdownInput = true → exec (.shutdownClear .office tag) s =
      .next (s.responded .office tag 0x10 (.refused .shutdownActive)))
    ∧ (s.shutdownInput = false → s.latch = ⟨false, false, false, false⟩ →
      exec (.shutdownClear .office tag) s =
        .next (s.responded .office tag 0x10 (.done (.cleared ⟨false, false, false, false⟩))))
    ∧ (s.shutdownInput = false → s.latch ≠ ⟨false, false, false, false⟩ →
      exec (.shutdownClear .office tag) s = .next { s with
        latch := ⟨false, false, false, false⟩
        rack := { s.rack with latchStop := false, roundStop := false }
        log := (s.offer 0 0 (.shutdownClear s.latch)).log
        office := s.office.respond tag 0x10 (.done (.cleared s.latch)) }))

/-! ### The log store -/

/-- An entry is admitted at the back of the queue with the next number and the terminal time of the event, and
its write begins at once where no write and no erase is in progress; while an erase is in progress it asks for the
suspension of the erase within 20 ms of the first such admission (R162); an automatic entry that finds 24 entries
queued or no free space is lost, and the lost count stays at 255 once it is there (R149, R151, R152, R154).
An entry written leaves the queue for the lowest empty slot of the FILLING page, and the last written number
becomes its number; a page whose slot 31 is used becomes FULL and the next page that is not BAD becomes FILLING if
it is FREE; the next write begins at once, or an erase that waited for the queue goes on; and nothing else changes,
but for what an OVERRIDE, RELEASE, CANCEL or EXPIRE entry completes (R146, R152, R154, R162). -/
def Obligations.EntriesAreAdmittedAndWritten : Prop :=
  (∀ (s : State) (ref driver : Nat) (x : Payload), s.phase = .running →
    (s.log.queue = [] → s.log.writing = false → s.log.engine.state ≠ .erasing →
      s.admitEntry ref driver x = { s with log := { s.log with
        queue := [⟨s.log.nextNumber, some s.log.lostCount, s.time.getD 0, ref, driver, x⟩]
        lostCount := 0
        writing := true
        nextNumber := (s.log.nextNumber + 1) % 4294967296 } })
    ∧ (s.log.writing = true → s.log.queue ≠ [] → s.log.engine.state ≠ .erasing →
      s.admitEntry ref driver x = { s with log := { s.log with
        queue := s.log.queue ++ [⟨s.log.nextNumber, none, s.time.getD 0, ref, driver, x⟩]
        nextNumber := (s.log.nextNumber + 1) % 4294967296 } })
    ∧ (s.log.engine.state = .erasing →
      s.admitEntry ref driver x = { s with log := { s.log with
        queue := s.log.queue ++ [⟨s.log.nextNumber, none, s.time.getD 0, ref, driver, x⟩]
        nextNumber := (s.log.nextNumber + 1) % 4294967296
        engine := { s.log.engine with
          suspendBy := some (s.log.engine.suspendBy.getD (s.elapsed + 20000)) } } })
    ∧ (s.log.queue.length < 24 → 1 ≤ s.log.freeSpace → s.offer ref driver x = s.admitEntry ref driver x)
    ∧ (24 ≤ s.log.queue.length ∨ s.log.freeSpace = 0 →
      s.offer ref driver x = { s with log := { s.log with
        lostCount := min 255 (s.log.lostCount + 1) } }))
  ∧ ∀ (s : State) (e : Entry) (rest : List Entry) (p : PageNo),
    s.phase = .running → s.log.writing = true → s.log.queue = e :: rest →
    (s.log.page p).state = .filling → (∀ q, (s.log.page q).state = .filling → q = p) →
    ∃ t, exec .writeComplete s = .next t
      ∧ (e.payload.code ∉ [9, 10, 11, 12] ∨ (∀ i d, s.slot i = some d → d.ref ≠ e.ref) →
        t = { s with log := t.log })
      ∧ ((s.log.page p).used.length < 31 →
        t.log = (s.log.stored e rest (s.log.pages.set p.val
          ⟨.filling, (s.log.page p).used ++ [.entry e]⟩ p.isLt)).onward)
      ∧ ((s.log.page p).used.length = 31 → ∀ (q : PageNo) (k : Nat),
        q.val = (p.val + 1 + k) % 64 → k < 63 → (s.log.page q).state ≠ .bad →
        (∀ j < k, ∀ o : PageNo, o.val = (p.val + 1 + j) % 64 → (s.log.page o).state = .bad) →
        t.log = (s.log.stored e rest
          (if (s.log.page q).state = .free then
            (s.log.pages.set p.val ⟨.full, (s.log.page p).used ++ [.entry e]⟩ p.isLt).set q.val
              ⟨.filling, (s.log.page q).used⟩ q.isLt
          else s.log.pages.set p.val ⟨.full, (s.log.page p).used ++ [.entry e]⟩ p.isLt)).onward)

/-- What the dispatch table does at the write of the entry it waits for: a RELEASE commits the trip to the
current day of the driver's ring and unbinds the driver, then replies with the whole paper, then frees the
slot; a CANCEL unbinds, replies and frees, and every bay's note of the delivery is cleared; an EXPIRE frees;
an OVERRIDE stores its set and supervisor and replies; and an entry of another kind, or one that its delivery does
not wait for, changes nothing. Each REPLY goes to the request that awaits the entry's number, on whichever port, if
it still waits. The entry itself is stored as any other (R9, R21, R121, R142, R154, R155,
R173). That a bay keeps the slot of a cancelled delivery is a record of the model's own (log entry 44). -/
def Obligations.WrittenEntriesCompleteTheirOperations : Prop :=
  ∀ (s : State) (e : Entry) (rest : List Entry) (i : SlotNo) (d : Delivery),
    s.phase = .running → s.log.writing = true → s.log.queue = e :: rest → s.holdsAt i d →
    e.ref = d.ref →
    ∃ t, exec .writeComplete s = .next t ∧ t.log.lastWritten = e.seq
      ∧ (∀ p, (s.log.page p).state = .filling → (∀ q, (s.log.page q).state = .filling → q = p) →
        (s.log.page p).used.length < 31 →
        t.log = (s.log.stored e rest (s.log.pages.set p.val
          ⟨.filling, (s.log.page p).used ++ [.entry e]⟩ p.isLt)).onward)
      ∧ (∀ n, d.state = .releasing → d.driver = some n → e.payload.code = 10 →
        t = { s with
          log := t.log
          drivers := s.drivers.map fun x => if x.number = n then
              { x with
                bound := none
                ring := x.ring.set (s.today % 14)
                  (if (x.ring.get ⟨s.today % 14, Nat.mod_lt _ (by decide)⟩).day = s.today then
                    ⟨s.today,
                      min 1440 ((x.ring.get ⟨s.today % 14, Nat.mod_lt _ (by decide)⟩).driving
                        + d.driving),
                      min 1440 ((x.ring.get ⟨s.today % 14, Nat.mod_lt _ (by decide)⟩).duty
                        + d.duty)⟩
                  else ⟨s.today, min 1440 d.driving, min 1440 d.duty⟩)
                  (Nat.mod_lt _ (by decide)) }
            else x
          dispatch := s.dispatch.set i.val none i.isLt
          office := s.office.replied e.seq
            (.replyReleased d.ref d.driver d.vehicle d.overrides e.seq d.paper)
          gate := s.gate.replied e.seq
            (.replyReleased d.ref d.driver d.vehicle d.overrides e.seq d.paper) })
      ∧ (d.state = .cancelling → e.payload.code = 11 →
        t = { s with
          log := t.log
          drivers := s.drivers.map fun x => if x.bound = some i then { x with bound := none } else x
          dispatch := s.dispatch.set i.val none i.isLt
          bays := t.bays
          office := s.office.replied e.seq .replyDone
          gate := s.gate.replied e.seq .replyDone }
        ∧ ∀ b, t.bay b = { s.bay b with
          withdrawn := if (s.bay b).withdrawn = some i then none else (s.bay b).withdrawn })
      ∧ (d.state = .expiring → e.payload.code = 12 → t = { s with
          log := t.log
          dispatch := s.dispatch.set i.val none i.isLt })
      ∧ (∀ new old sup, e.payload = .override new old sup → t = { s with
          log := t.log
          dispatch := s.dispatch.set i.val
            (some { d with overrides := new, supervisor := some sup }) i.isLt
          office := s.office.replied e.seq (.replyOverride new sup)
          gate := s.gate.replied e.seq (.replyOverride new sup) })
      ∧ (e.payload.code ≠ 9 → (d.state = .releasing → e.payload.code ≠ 10) →
        (d.state = .cancelling → e.payload.code ≠ 11) → (d.state = .expiring → e.payload.code ≠ 12) →
        t = { s with log := t.log })

/-- The collection window expires: the pages of the set are taken in ring order from the head of the store, or, in a
store that holds no entry, from the FILLING page. A page that is BAD, not FULL, not exported or not the head is
skipped with that outcome; the first other one is RECLAIMING, and its erase begins at once or waits SUSPENDED for
the writes; with none, the engine is IDLE (R160 to R162).
The events of an erase: at a suspension that an admission asked for, the engine is SUSPENDED and the next
write begins; the completion leaves the page FREE and empty, or FILLING where the store had no page to fill and it
is the next after the tail, and answers ERASED; a verify failure leaves the page BAD, READY becomes DEGRADED, a
PAGE_BAD entry is offered and ERASE_FAILED answered; and then the pages left are taken as before, and the next write
begins (R162 to R164). That the set loses a page when it has been dealt with is the model's choice (log entry
36). -/
def Obligations.TheEngineTakesAndErasesPages : Prop :=
  (∀ (s : State) (set : List PageNo) (first : PageNo) (w : Nat),
    s.phase = .running → s.log.engine = ⟨.collecting, set, some w, none⟩ →
    ((∃ p e, .entry e ∈ (s.log.page p).used) ∧ s.log.head = some first)
      ∨ ((∀ p e, .entry e ∉ (s.log.page p).used) ∧ s.log.filling = some first) →
    exec .collectionWindowExpiry s = .next (State.pagesTaken { s with elapsed := max s.elapsed w }
      (((List.finRange 64).map fun k => first + k).filter fun p => decide (p ∈ set))))
  ∧ ∀ (s : State) (p : PageNo) (rest : List PageNo) (by_ : Option Nat),
    s.phase = .running → s.log.engine = ⟨.erasing, p :: rest, none, by_⟩ → s.log.writing = false →
    (∀ e more, by_ ≠ none → s.log.queue = e :: more → e.lost = none →
      exec .eraseSuspend s = .next { s with log := { s.log with
        engine := ⟨.suspended, p :: rest, none, none⟩
        queue := { e with lost := some s.log.lostCount } :: more
        lostCount := 0
        writing := true } })
    ∧ (∀ (x : PageState) (u : State) (next : Prop),
      next = ((∀ f, (s.log.page f).state ≠ .filling)
        ∧ ∃ tail, s.log.pageOf s.log.lastWritten = some tail ∧ s.log.nextPage tail = some p) →
      (x = .filling ∧ next) ∨ (x = .free ∧ ¬ next) →
      u = State.pagesTaken { s with
          log := { s.log with pages := s.log.pages.set p.val ⟨x, []⟩ p.isLt }
          office := s.office.repliedPage p .erased } rest →
      exec .eraseComplete s = .next { u with log := u.log.onward })
    ∧ ∀ bad u : State,
      bad = { s with log := { s.log with
        pages := s.log.pages.set p.val ⟨.bad, []⟩ p.isLt
        engine := ⟨.suspended, p :: rest, none, none⟩
        status := if s.log.status = .ready then .degraded else s.log.status } } →
      u = State.pagesTaken { bad with
        log := (bad.offer 0 0 (.pageBad p
          ((List.finRange 64).countP fun q => q != p && (s.log.page q).state != .bad))).log
        office := s.office.repliedPage p .eraseFailed } rest →
      exec .eraseVerifyFailure s = .next { u with log := u.log.onward }

/-! ### Starts -/

/-- The reset input becomes asserted: a warm start. Active compartments and STOPPING orphans are INTERRUPTED
without a deadline, bindings and arm records are kept, every bay is SILENT with an empty outbox and its counts
at 0, the shutdown input is sampled into the latch, the ports are emptied, the elapsed-time counter begins at
0, the engine is IDLE, and everything else of retained memory is kept; the part stands at step 1 until the
input is deasserted, and then goes on to step 2, or to step 3 where no page is RECLAIMING. At the end of step 2, with
no page FILLING, the page after the tail becomes FILLING if it is FREE (R190); that the lowest FREE page does so
where no FULL page holds an entry is the model's choice (log entry 21). -/
def Obligations.ResetWarmStartsThePart : Prop :=
  ∀ (s : State),
    (s.resetInput = false → s.phase ≠ .unpowered →
      ∃ t, exec .resetAsserted s = .next t
        ∧ t = { s with
          resetInput := true
          phase := .step1
          lastStart := .warm
          startErased := 0
          startBad := 0
          elapsed := 0
          dispatch := t.dispatch
          bays := t.bays
          rack := ⟨[], none, none, false, false, []⟩
          latch := { s.latch with input := s.latch.input || s.shutdownInput }
          log := { s.log with
            writing := false
            cutWrite := if s.log.writing then s.log.queue.head? else s.log.cutWrite
            engine := ⟨.idle, [], none, none⟩ }
          office := ⟨none, none, [], [], [], 0, []⟩
          gate := ⟨none, none, [], [], [], 0, []⟩ }
        ∧ (∀ i, t.slot i = (s.slot i).map fun d => { d with comps := d.comps.map afterStart })
        ∧ (∀ b, t.bay b = ⟨.silent, 3, (s.bay b).bound, (s.bay b).withdrawn, armAfterStart (s.bay b).armA,
          armAfterStart (s.bay b).armB, [], 0, 0⟩))
    ∧ (s.phase = .step1 → ∀ phase pages, s.log.goesOn phase pages →
      exec .resetDeasserted s = .next { s with
        resetInput := false
        phase := phase
        log := { s.log with pages := pages } })

/-- Power is lost between two events with nothing else changed, or inside an event that writes both memories,
after what that event writes to the marker area and before retained memory follows: a first paper issue with the
paper counter raised, a verify failure with its page BAD and no PAGE_BAD entry, a completed erase with its page
FREE, or FILLING by R163, and no reply, each without or with the RECLAIMING mark of the page that the engine takes
next, and the scan with a torn slot VOID or a whole entry in its slot, and every number and the queue as before.
That a slot whose check is good holds the entry that was being written is the model's choice (log entry 12).
That a paper issue can be in progress while a delivery is AT_BAY is the model's reading (log entry 14). At its
return with retained memory lost the part starts cold: every table empty, every setting at its default, terminal
time UNSET, every bay POLLED and SILENT, and COLD_START latched; the pages, the export mark, the paper counter and
the numbers stay. The start stands at step 1 while the reset input is asserted, else at step 2 while a page is
RECLAIMING, else at step 3 with a page to fill found where none is FILLING; which page that is where no FULL page
holds an entry is the model's choice (log entry 21) (R25, R79, R184, R187 to R190). -/
def Obligations.PowerReturnsWarmOrCold : Prop :=
  ∀ (s : State),
    (s.phase ≠ .unpowered → exec (.powerLoss .betweenEvents) s = .next { s with phase := .unpowered })
    ∧ (s.phase = .running → s.log.paperCounter < 4294967295 →
      (∃ i d, s.slot i = some d ∧ d.state = .atBay) →
      exec (.powerLoss .inPaperIssue) s = .next { s with
        phase := .unpowered
        log := { s.log with paperCounter := s.log.paperCounter + 1 } })
    ∧ (∀ p rest, s.phase = .running → s.log.engine.state = .erasing → s.log.engine.set = p :: rest →
      ∀ (x : PageState) (marked : State),
        marked = { s with log := { s.log with pages := s.log.pages.set p.val ⟨x, []⟩ p.isLt } } →
        (x = .bad → ∀ next, exec (.powerLoss (.inEraseFailure next)) s = .next { s with
          phase := .unpowered
          log := { s.log with
            pages := if next then (marked.pagesTaken rest).log.pages else marked.log.pages } })
        ∧ ∀ fills : Prop,
          fills = ((∀ f, (s.log.page f).state ≠ .filling)
            ∧ ∃ tail, s.log.pageOf s.log.lastWritten = some tail ∧ s.log.nextPage tail = some p) →
          (x = .filling ∧ fills) ∨ (x = .free ∧ ¬ fills) →
          ∀ next, exec (.powerLoss (.inEraseCompletion next)) s = .next { s with
            phase := .unpowered
            log := { s.log with
              pages := if next then (marked.pagesTaken rest).log.pages else marked.log.pages } })
    ∧ (∀ slot p e, s.phase = .step3 → s.log.cutWrite = some e → (s.log.page p).state = .filling →
      (∀ q, (s.log.page q).state = .filling → q = p) → (s.log.page p).used.length < 31 →
      (∃ b ∈ slot, b ≠ 0xFF#8) →
      exec (.powerLoss (.inScan slot)) s = .next { s with
        phase := .unpowered
        log := { s.log with
          pages := s.log.pages.set p.val ⟨.filling, (s.log.page p).used ++
            [if crc16 (slot.take 30) = number (slot.drop 30) then .entry e else .void]⟩ p.isLt
          everWritten := s.log.everWritten || decide (crc16 (slot.take 30) = number (slot.drop 30))
          cutWrite := none } })
    ∧ (s.phase = .unpowered → ∀ phase pages, s.startsAt phase pages →
      (∀ failed, (failed = true ∨ s.checkWordValid = false) →
        exec (.powerReturn failed) s = .next
          { pending := s.pending
            phase := phase
            resetInput := s.resetInput
            shutdownInput := s.shutdownInput
            checkWordValid := true
            lastStart := .cold
            startErased := 0
            startBad := 0
            elapsed := 0
            time := none
            settings := ⟨540, 5400, 780, 720, 100, 1800, 300, 3, Vector.replicate 12 true⟩
            dispatch := Vector.replicate 16 none
            bays := Vector.replicate 12 ⟨.silent, 3, none, none, .free, .free, [], 0, 0⟩
            rack := ⟨[], none, none, false, false, []⟩
            latch := ⟨s.shutdownInput, false, true, false⟩
            products := Vector.replicate 16 Product.undefined
            drivers := []
            log := { s.log with
              pages := pages
              queue := []
              lostCount := 0
              writing := false
              cutWrite := if s.log.writing then s.log.queue.head? else s.log.cutWrite
              engine := ⟨.idle, [], none, none⟩ }
            office := ⟨none, none, [], [], [], 0, []⟩
            gate := ⟨none, none, [], [], [], 0, []⟩ })
      ∧ (s.checkWordValid = true →
        ∀ t, exec .resetAsserted { s with phase := .running, resetInput := false } = .next t →
          exec (.powerReturn false) s = .next { t with
            resetInput := s.resetInput
            phase := phase
            log := { t.log with pages := pages } }))

/-- Step 2 erases the pages left RECLAIMING in ascending number: each becomes FREE, or BAD at a verify failure,
and is counted; the last of them gives way to step 3, with a page to fill found where none is FILLING: the page after
the tail if it is FREE (R190), or, as the model chooses where no FULL page holds an entry, the lowest FREE page (log
entry 21).
The scan with no write cut short and nothing queued: the numbers go on after the last entry of the page scanned, or
of the FULL page before it, or after the export mark in a store without entries; with no page FILLING, after the
latest entry on the tail; the store status follows the pages that are not BAD, STORE is latched at FAILED and the
shutdown input is sampled again; a START_UP entry is offered; and the ports open with the first ring round,
an ALL_STOP before it while the latch is set (R79, R191 to R193). The counts the entry carries are the
model's reading (log entry 20).
A write that a start cut short is decided by the bytes of its slot. All FFh, the slot stays empty; with bytes 0 to
29 that do not give the check stored in bytes 30 and 31 the slot is VOID, and in both cases the entry is written
again with its number and lost count; with a good check the entry stands in the store and leaves the queue (R165,
R191, R196). That a good check means the entry being written is the model's choice (log entry 12).
An entry so found written completes within the scan, with no reply: a RELEASE commits the trip to the day of
terminal time, unbinds the driver and frees the slot; a CANCEL unbinds and frees; an EXPIRE frees; an OVERRIDE stores
its set (R24, R121, R191). That a CANCEL so completed also clears the bay's note of the cancelled delivery is the
model's own (log entry 44).
Where the voided slot leaves fewer slots than entries are queued, the entry at the back of the queue is dropped and
the lost count rises, and the delivery of an EXPIRE so dropped is BOOKED again; else every entry stays, its number
and lost count with it (R191). That an EXPIRE so dropped is counted is the model's choice (log entry 38). -/
def Obligations.StartUpScansAndOpensThePorts : Prop :=
  (∀ (s : State) (p : PageNo) (verified : Bool) (phase : Phase) (pages : Vector Page 64),
    s.phase = .step2 → (s.log.page p).state = .reclaiming →
    (∀ q, q < p → (s.log.page q).state ≠ .reclaiming) →
    LogStore.goesOn { s.log with
      pages := s.log.pages.set p.val ⟨if verified then .free else .bad, []⟩ p.isLt } phase pages →
    exec (.startUpEraseEnd verified) s = .next { s with
      phase := phase
      log := { s.log with pages := pages }
      startErased := if verified then s.startErased + 1 else s.startErased
      startBad := if verified then s.startBad else s.startBad + 1 })
  ∧ (∀ (s : State) (slot : List Byte) (n : Nat) (status : StoreStatus) (l : Latch) (counted : State),
    s.phase = .step3 → s.log.cutWrite = none → s.log.queue = [] → s.log.writing = false →
    s.log.engine = ⟨.idle, [], none, none⟩ → s.log.scanFinds n → s.rack = ⟨[], none, none, false, false, []⟩ →
    status = (if (List.finRange 64).countP (fun q => (s.log.page q).state != .bad) = 64 then .ready
      else if 4 ≤ (List.finRange 64).countP (fun q => (s.log.page q).state != .bad) then .degraded
      else .failed) →
    l = { s.latch with
      input := s.latch.input || s.shutdownInput
      store := s.latch.store || decide (status = .failed) } →
    counted = { s with log := { s.log with
      status := status
      lastWritten := n
      nextNumber := (n + 1) % 4294967296 } } →
    exec (.startUpScanEnd slot) s = .next { s with
      phase := .running
      latch := l
      rack := ⟨(List.finRange 12).filter fun b => s.polled b, none, none, false,
        l.isSet && (List.finRange 12).any fun b => s.polled b, []⟩
      log := (counted.offer 0 0
        (.startUp s.lastStart status l s.startErased s.startBad 0 0)).log.onward })
  ∧ (∀ (s : State) (slot : List Byte) (p : PageNo) (e : Entry) (n : Nat),
    s.phase = .step3 → s.log.cutWrite = some e → s.log.queue = [e] → e.lost = some n →
    s.log.writing = false → s.log.engine = ⟨.idle, [], none, none⟩ →
    (s.log.page p).state = .filling → (∀ q, (s.log.page q).state = .filling → q = p) →
    (s.log.page p).used.length < 30 → e.seq < 4294967296 →
    (∃ y, (s.log.page p).lastEntry = some y ∧ e.seq = (y.seq + 1) % 4294967296) →
    e.payload.code ∉ [9, 10, 11, 12] → slot.length = 32 →
    ∃ t, exec (.startUpScanEnd slot) s = .next t ∧ t.phase = .running
      ∧ ((∀ b ∈ slot, b = 0xFF#8) → t.log.page p = s.log.page p ∧ t.log.queue.head? = some e
        ∧ t.log.writing = true)
      ∧ ((∃ b ∈ slot, b ≠ 0xFF#8) → crc16 (slot.take 30) ≠ field slot 30 2 →
        t.log.page p = ⟨.filling, (s.log.page p).used ++ [.void]⟩
          ∧ t.log.queue.head? = some e ∧ t.log.writing = true)
      ∧ ((∃ b ∈ slot, b ≠ 0xFF#8) → crc16 (slot.take 30) = field slot 30 2 →
        t.log.page p = ⟨.filling, (s.log.page p).used ++ [.entry e]⟩
          ∧ t.log.lastWritten = e.seq ∧ e ∉ t.log.queue))
  ∧ (∀ (s found : State) (slot : List Byte) (p : PageNo) (e : Entry) (i : SlotNo) (d : Delivery),
    s.phase = .step3 → s.log.cutWrite = some e → s.log.queue = [e] → s.log.writing = false →
    s.log.engine = ⟨.idle, [], none, none⟩ → s.rack = ⟨[], none, none, false, false, []⟩ →
    s.office.deferred = [] → s.gate.deferred = [] →
    (s.log.page p).state = .filling → (∀ q, (s.log.page q).state = .filling → q = p) →
    (s.log.page p).used.length < 31 → s.holdsAt i d → e.ref = d.ref →
    (∃ b ∈ slot, b ≠ 0xFF#8) → crc16 (slot.take 30) = field slot 30 2 → slot.length = 32 →
    found = { s with log := { s.log with
      pages := s.log.pages.set p.val ⟨.filling, (s.log.page p).used ++ [.entry e]⟩ p.isLt
      queue := []
      cutWrite := none
      everWritten := true
      lastWritten := e.seq
      nextNumber := (e.seq + 1) % 4294967296 } } →
    (∀ n, d.state = .releasing → d.driver = some n → e.payload.code = 10 →
      exec (.startUpScanEnd slot) s = .next (State.opened { found with
        drivers := s.drivers.map fun x => if x.number = n then
            { x with
              bound := none
              ring := x.ring.set (s.today % 14)
                (if (x.ring.get ⟨s.today % 14, Nat.mod_lt _ (by decide)⟩).day = s.today then
                  ⟨s.today,
                    min 1440 ((x.ring.get ⟨s.today % 14, Nat.mod_lt _ (by decide)⟩).driving + d.driving),
                    min 1440 ((x.ring.get ⟨s.today % 14, Nat.mod_lt _ (by decide)⟩).duty + d.duty)⟩
                else ⟨s.today, min 1440 d.driving, min 1440 d.duty⟩)
                (Nat.mod_lt _ (by decide)) }
          else x
        dispatch := s.dispatch.set i.val none i.isLt } 0 1))
    ∧ (d.state = .cancelling → e.payload.code = 11 → ∀ left : State,
      left = { found with
        drivers := s.drivers.map fun x => if x.bound = some i then { x with bound := none } else x
        dispatch := s.dispatch.set i.val none i.isLt
        bays := left.bays } →
      (∀ b, left.bay b = { s.bay b with
        withdrawn := if (s.bay b).withdrawn = some i then none else (s.bay b).withdrawn }) →
      exec (.startUpScanEnd slot) s = .next (left.opened 0 1))
    ∧ (d.state = .expiring → e.payload.code = 12 →
      exec (.startUpScanEnd slot) s =
        .next (State.opened { found with dispatch := s.dispatch.set i.val none i.isLt } 0 1))
    ∧ ∀ new old sup, e.payload = .override new old sup →
      exec (.startUpScanEnd slot) s = .next (State.opened { found with
        dispatch := s.dispatch.set i.val
          (some { d with overrides := new, supervisor := some sup }) i.isLt } 0 1))
  ∧ ∀ (s found kept : State) (slot : List Byte) (p : PageNo) (e x y : Entry) (more : List Entry),
    s.phase = .step3 → s.log.cutWrite = some e → s.log.queue = e :: (more ++ [x]) →
    s.log.writing = false → s.log.engine = ⟨.idle, [], none, none⟩ →
    s.rack = ⟨[], none, none, false, false, []⟩ → s.refsDiffer →
    (s.log.page p).state = .filling → (∀ q, (s.log.page q).state = .filling → q = p) →
    (s.log.page p).used.length < 31 → (s.log.page p).lastEntry = some y →
    atOrBefore e.seq y.seq = false →
    (∃ b ∈ slot, b ≠ 0xFF#8) → crc16 (slot.take 30) ≠ field slot 30 2 → slot.length = 32 →
    found = { s with log := { s.log with
      pages := s.log.pages.set p.val ⟨.filling, (s.log.page p).used ++ [.void]⟩ p.isLt
      cutWrite := none
      lastWritten := y.seq } } →
    (more.length + 2 ≤ found.log.emptySlots + 32 * found.log.usablePages →
      exec (.startUpScanEnd slot) s = .next (State.opened { found with
        log := { found.log with nextNumber := (x.seq + 1) % 4294967296 } } 1 0))
    ∧ (found.log.emptySlots + 32 * found.log.usablePages < more.length + 2 →
      kept = { found with
        dispatch := kept.dispatch
        log := { found.log with
          queue := e :: more
          lostCount := min 255 (s.log.lostCount + 1)
          nextNumber := (((e :: more).getLast (by simp)).seq + 1) % 4294967296 } } →
      (∀ j, kept.slot j = (s.slot j).map (Delivery.withdrawnBy x)) →
      exec (.startUpScanEnd slot) s = .next (kept.opened 1 1))

/-! ### Net quantity arithmetic -/

/-- The factor of a valid table: the first factor at and below the first point, the last at and above the last,
and between two points the straight line with its term rounded toward zero; it lies in 58,982..72,090, and
every increment draws it at its clamped temperature (R45, R46).
One increment: a higher cumulative counts the difference and becomes L, a lower one is a regression that
keeps L; a temperature out of range is clamped and sets TEMP_CLAMPED, with volume or without; and each total
grows by the increment at the drawn factor and the clamped temperature, stays at its bound, and sets LIMITED
there (R42, R44, R46). That LIMITED is set by a total that reaches its bound, and not only by one that
would pass it, is the model's reading (log entry 19). -/
def Obligations.IncrementsFollowTheTable : Prop :=
  (∀ (points : List CorrPoint) (t : Int), tableValid points →
    (∀ p, points.head? = some p → t ≤ p.temp → factor points t = p.factor)
    ∧ (∀ p, points.getLast? = some p → p.temp ≤ t → factor points t = p.factor)
    ∧ (∀ (i : Nat) (p q : CorrPoint), points[i]? = some p → points[i + 1]? = some q →
      p.temp ≤ t → t < q.temp →
      (factor points t : Int) =
          p.factor + (((q.factor : Int) - p.factor) * (t - p.temp)).tdiv (q.temp - p.temp)
        ∧ min p.factor q.factor ≤ factor points t ∧ factor points t ≤ max p.factor q.factor)
    ∧ 58982 ≤ factor points t ∧ factor points t ≤ 72090)
  ∧ ∀ (points : List CorrPoint) (a : Acc) (c : Nat) (t : Int) (r : Increment) (T : Int) (f : Nat),
    r = increment points a c t → T = max (-500) (min 700 t) → f = factor points T →
    r.acc.L = max a.L c ∧ r.dg = c - a.L ∧ (r.regression = true ↔ c < a.L)
    ∧ (r.acc.flags.regression = true ↔ a.flags.regression = true ∨ c < a.L)
    ∧ r.temp = T ∧ (r.acc.flags.tempClamped = true ↔ a.flags.tempClamped = true ∨ t < -500 ∨ 700 < t)
    ∧ (c ≤ a.L → r.acc.A = a.A ∧ r.acc.G = a.G ∧ r.acc.S = a.S
      ∧ r.acc.flags.limited = a.flags.limited)
    ∧ (a.L < c → r.acc.A = min 281474976710655 (a.A + (c - a.L) * f)
      ∧ r.acc.G = min 4294967295 (a.G + (c - a.L))
      ∧ r.acc.S = max (-140737488355327) (min 140737488355327 (a.S + ((c - a.L : Nat) : Int) * T))
      ∧ (r.acc.flags.limited = true ↔ a.flags.limited = true ∨ r.acc.A = 281474976710655
        ∨ r.acc.G = 4294967295 ∨ r.acc.S = -140737488355327 ∨ r.acc.S = 140737488355327))

/-- The net readout rounds A to the nearest litre, an exact half upward, and stops at 65,535, where it sets
LIMITED; A stays as it is, and the same readout taken again gives the same with LIMITED still set (R48).
The gross readout rounds G to the nearest litre alike, and stops at 65,535 from G = 655,355 on, where it sets LIMITED
(R49); the average temperature is S over G rounded toward zero, absent at G = 0 (R50).
A paper has one line for each product code, in ascending order, of which a compartment is DONE or INTERRUPTED, with
the product's data as they stand; a line names its compartments in ascending index, its net and gross litres are
the sums of their rounded readouts, at most 393,210 for six of them, and its average is the quotient of the exact
sums (R52 to R54, R126). -/
def Obligations.NetReadoutsRoundHalfUp : Prop :=
  (∀ (a : Acc),
    (a.A < 42949345280 → a.net * 655360 ≤ a.A + 327680 ∧ a.A + 327680 < (a.net + 1) * 655360
      ∧ a.net ≤ 65535 ∧ a.afterNet = a)
    ∧ (42949345280 ≤ a.A → a.net = 65535
      ∧ a.afterNet = { a with flags := { a.flags with limited := true } })
    ∧ a.afterNet.A = a.A ∧ a.afterNet.net = a.net ∧ a.afterNet.afterNet = a.afterNet)
  ∧ (∀ (a : Acc),
    (a.G < 655355 → a.gross * 10 ≤ a.G + 5 ∧ a.G + 5 < (a.gross + 1) * 10 ∧ a.gross ≤ 65535)
    ∧ (655355 ≤ a.G → a.gross = 65535)
    ∧ a.afterReadouts = { a with flags := { a.flags with
      limited := a.flags.limited || decide (42949345280 ≤ a.A) || decide (655355 ≤ a.G) } }
    ∧ averages a.S a.G a.average)
  ∧ ∀ (s : State) (d : Delivery),
    (s.paperLines d).map PaperLine.product = (List.range' 1 16).filter (fun code => d.onLine code ≠ [])
    ∧ ∀ x ∈ s.paperLines d, ∀ (e : Product) (cs : List Compartment),
      e = s.product x.product → cs = d.onLine x.product →
      x.name = e.name ∧ x.un = e.un ∧ x.cls = e.cls ∧ x.division = e.division ∧ x.packing = e.packing
      ∧ x.comps = (List.range' 1 6).filter (fun k => decide (∃ c ∈ cs, c.index = k))
      ∧ x.net = (cs.map fun c => c.acc.net).sum ∧ x.gross = (cs.map fun c => c.acc.gross).sum
      ∧ (d.comps.length ≤ 6 → x.net ≤ 393210 ∧ x.gross ≤ 393210)
      ∧ averages (cs.map fun c => c.acc.S).sum (cs.map fun c => c.acc.G).sum x.average

/-! ### Laws that every step keeps -/

/-- Every stored setting lies within its range after every step, if it did before it (R184). -/
def Obligations.SettingsStayInRange : Prop :=
  ∀ s t : State, SettingsLaw s → step s = .next t → SettingsLaw t

/-- No port ever holds two deferred requests of one tag or more than eight, more than four waiting requests or
eight refusal records, or an immediate response without a request in service (R168, R169, R172). -/
def Obligations.PortsKeepTheirLaws : Prop :=
  ∀ s t : State, DeferredLaw s → ServiceLaw s → step s = .next t → DeferredLaw t ∧ ServiceLaw t

/-- The append queue never holds more than 24 entries nor the lost count more than 255; every page's slots suit
its state, at most one page is FILLING, and outside the erases of step 2 a page is RECLAIMING only while the
engine works on it. The export mark falls at no step. So much is kept by every step. What follows is kept by the steps
of the running part alone, from a running state to a running state: queued entries carry the consecutive numbers that
follow the last written number, and the next number follows them; written entries carry consecutive numbers from head
to tail, up to the last written number, with the FREE pages between tail and head, a page being erased at the head, and
a slot left for every queued entry; and the export mark does not pass the last written number, has every later entry
still in the store, and has reached every entry of a page that is being erased (R145 to R147, R149, R151, R152, R158,
R161). That a store for which R146 gives no tail has no head and no usable FREE page is the model's choice (log entry
43). -/
def Obligations.TheStoreKeepsItsLaws : Prop :=
  ∀ s t : State, QueueLaw s → PageLaw s → step s = .next t →
    QueueLaw t ∧ PageLaw t ∧ atOrBefore s.log.exportMark t.log.exportMark = true
      ∧ (s.phase = .running → t.phase = .running → NumberLaw s →
        NumberLaw t ∧ (OrderLaw s → OrderLaw t ∧ (MarkLaw s → MarkLaw t)))

/-- Delivery and bay stay bound to each other and to nothing else (R4), the records of the dispatch table stay
lawful with one record to a reference (R1, R2, R6), and the outboxes keep their places (R64, R74). A bay that
whose note of a cancelled delivery stands names one that is CANCELLING: the note is the model's own (log entry 44). -/
def Obligations.BindingsAndRecordsStayLawful : Prop :=
  ∀ s t : State, BindingLaw s → DeliveryLaw s → OutboxLaw s → step s = .next t →
    BindingLaw t ∧ DeliveryLaw t ∧ OutboxLaw t

/-- A compartment's arm, deadline and gross total suit its state after every step (R3, R51, R88), and no
compartment is PERMITTED or FLOWING while the latch is set (R100). With lawful records and bindings, a compartment's
arm and the arm record it names refer to each other, until a RELEASE makes the compartment an orphan (R5), and an
armed compartment is at its delivery's bay, or waits STOPPING or INTERRUPTED for the bay that its delivery has left
(R8, R19, R71, R86, R92, R134). -/
def Obligations.CompartmentsStayLawful : Prop :=
  ∀ s t : State, CompartmentLaw s → LatchLaw s → step s = .next t →
    CompartmentLaw t ∧ LatchLaw t
      ∧ (BindingLaw s → DeliveryLaw s → ArmLaw s → SessionLaw s → ArmLaw t ∧ SessionLaw t)

/-- Every accumulator set stays within its bounds (R40, R46), and every product that a compartment or an orphan
names stays defined with a valid table (R29, R36). -/
def Obligations.SetsAndProductsStayLawful : Prop :=
  ∀ s t : State, AccumulatorLaw s → ProductLaw s → step s = .next t →
    AccumulatorLaw t ∧ ProductLaw t

/-- The hours table keeps its law: drivers of different numbers, each bound only to a delivery that names it,
and day rings with driving not above duty and no day after the current one (R104 to R107). -/
def Obligations.TheHoursTableStaysLawful : Prop :=
  ∀ s t : State, DriverLaw s → RingLaw s → step s = .next t → DriverLaw t ∧ RingLaw t

/-- Link states and missed counts agree, a bay that is not POLLED is SILENT and not visited, and a visit has at
most three exchanges (R60, R66, R68, R70, R78). -/
def Obligations.LinkStatesStayLawful : Prop :=
  ∀ s t : State, LinkLaw s → step s = .next t → LinkLaw t

/-- No two papers carry one number, and none a number above the paper counter, which no step lowers: a number once
drawn is not drawn again (R125). -/
def Obligations.PaperNumbersAreNotUsedTwice : Prop :=
  ∀ s t : State, PaperLaw s → step s = .next t → PaperLaw t ∧ s.log.paperCounter ≤ t.log.paperCounter

/-- The state right after reset meets every law that the steps keep. That the reset state is the
part at its first power-up is the model's reading (log entry 1), and its numbers before the first scan are the model's
choice (log entry 3). -/
def Obligations.ResetMeetsEveryLaw : Prop :=
  SettingsLaw State.reset ∧ DeferredLaw State.reset ∧ ServiceLaw State.reset ∧ QueueLaw State.reset
    ∧ NumberLaw State.reset ∧ PageLaw State.reset ∧ OrderLaw State.reset ∧ MarkLaw State.reset
    ∧ CompartmentLaw State.reset ∧ ArmLaw State.reset ∧ SessionLaw State.reset
    ∧ DeliveryLaw State.reset ∧ BindingLaw State.reset ∧ AccumulatorLaw State.reset
    ∧ LatchLaw State.reset ∧ PaperLaw State.reset ∧ LinkLaw State.reset ∧ OutboxLaw State.reset
    ∧ ProductLaw State.reset ∧ RingLaw State.reset ∧ DriverLaw State.reset
end

