-- ==== Sys2Proof/Laws/State.lean ====
section
/-! SUPPORT. What each plain update of State leaves as it was, field by field, so that no later proof unfolds
one. -/

namespace Sys2Proof.Machine

@[simp] theorem State.setSlot_pending (s : State) (i : SlotNo) (d : Option Delivery) :
    (s.setSlot i d).pending = s.pending := rfl
@[simp] theorem State.setSlot_phase (s : State) (i : SlotNo) (d : Option Delivery) :
    (s.setSlot i d).phase = s.phase := rfl
@[simp] theorem State.setSlot_resetInput (s : State) (i : SlotNo) (d : Option Delivery) :
    (s.setSlot i d).resetInput = s.resetInput := rfl
@[simp] theorem State.setSlot_shutdownInput (s : State) (i : SlotNo) (d : Option Delivery) :
    (s.setSlot i d).shutdownInput = s.shutdownInput := rfl
@[simp] theorem State.setSlot_checkWordValid (s : State) (i : SlotNo) (d : Option Delivery) :
    (s.setSlot i d).checkWordValid = s.checkWordValid := rfl
@[simp] theorem State.setSlot_lastStart (s : State) (i : SlotNo) (d : Option Delivery) :
    (s.setSlot i d).lastStart = s.lastStart := rfl
@[simp] theorem State.setSlot_startErased (s : State) (i : SlotNo) (d : Option Delivery) :
    (s.setSlot i d).startErased = s.startErased := rfl
@[simp] theorem State.setSlot_startBad (s : State) (i : SlotNo) (d : Option Delivery) :
    (s.setSlot i d).startBad = s.startBad := rfl
@[simp] theorem State.setSlot_elapsed (s : State) (i : SlotNo) (d : Option Delivery) :
    (s.setSlot i d).elapsed = s.elapsed := rfl
@[simp] theorem State.setSlot_time (s : State) (i : SlotNo) (d : Option Delivery) :
    (s.setSlot i d).time = s.time := rfl
@[simp] theorem State.setSlot_settings (s : State) (i : SlotNo) (d : Option Delivery) :
    (s.setSlot i d).settings = s.settings := rfl
@[simp] theorem State.setSlot_bays (s : State) (i : SlotNo) (d : Option Delivery) :
    (s.setSlot i d).bays = s.bays := rfl
@[simp] theorem State.setSlot_rack (s : State) (i : SlotNo) (d : Option Delivery) :
    (s.setSlot i d).rack = s.rack := rfl
@[simp] theorem State.setSlot_latch (s : State) (i : SlotNo) (d : Option Delivery) :
    (s.setSlot i d).latch = s.latch := rfl
@[simp] theorem State.setSlot_products (s : State) (i : SlotNo) (d : Option Delivery) :
    (s.setSlot i d).products = s.products := rfl
@[simp] theorem State.setSlot_drivers (s : State) (i : SlotNo) (d : Option Delivery) :
    (s.setSlot i d).drivers = s.drivers := rfl
@[simp] theorem State.setSlot_log (s : State) (i : SlotNo) (d : Option Delivery) :
    (s.setSlot i d).log = s.log := rfl
@[simp] theorem State.setSlot_office (s : State) (i : SlotNo) (d : Option Delivery) :
    (s.setSlot i d).office = s.office := rfl
@[simp] theorem State.setSlot_gate (s : State) (i : SlotNo) (d : Option Delivery) :
    (s.setSlot i d).gate = s.gate := rfl

@[simp] theorem State.setBay_pending (s : State) (b : BayNo) (r : BayRecord) :
    (s.setBay b r).pending = s.pending := rfl
@[simp] theorem State.setBay_phase (s : State) (b : BayNo) (r : BayRecord) :
    (s.setBay b r).phase = s.phase := rfl
@[simp] theorem State.setBay_resetInput (s : State) (b : BayNo) (r : BayRecord) :
    (s.setBay b r).resetInput = s.resetInput := rfl
@[simp] theorem State.setBay_shutdownInput (s : State) (b : BayNo) (r : BayRecord) :
    (s.setBay b r).shutdownInput = s.shutdownInput := rfl
@[simp] theorem State.setBay_checkWordValid (s : State) (b : BayNo) (r : BayRecord) :
    (s.setBay b r).checkWordValid = s.checkWordValid := rfl
@[simp] theorem State.setBay_lastStart (s : State) (b : BayNo) (r : BayRecord) :
    (s.setBay b r).lastStart = s.lastStart := rfl
@[simp] theorem State.setBay_startErased (s : State) (b : BayNo) (r : BayRecord) :
    (s.setBay b r).startErased = s.startErased := rfl
@[simp] theorem State.setBay_startBad (s : State) (b : BayNo) (r : BayRecord) :
    (s.setBay b r).startBad = s.startBad := rfl
@[simp] theorem State.setBay_elapsed (s : State) (b : BayNo) (r : BayRecord) :
    (s.setBay b r).elapsed = s.elapsed := rfl
@[simp] theorem State.setBay_time (s : State) (b : BayNo) (r : BayRecord) :
    (s.setBay b r).time = s.time := rfl
@[simp] theorem State.setBay_settings (s : State) (b : BayNo) (r : BayRecord) :
    (s.setBay b r).settings = s.settings := rfl
@[simp] theorem State.setBay_dispatch (s : State) (b : BayNo) (r : BayRecord) :
    (s.setBay b r).dispatch = s.dispatch := rfl
@[simp] theorem State.setBay_rack (s : State) (b : BayNo) (r : BayRecord) :
    (s.setBay b r).rack = s.rack := rfl
@[simp] theorem State.setBay_latch (s : State) (b : BayNo) (r : BayRecord) :
    (s.setBay b r).latch = s.latch := rfl
@[simp] theorem State.setBay_products (s : State) (b : BayNo) (r : BayRecord) :
    (s.setBay b r).products = s.products := rfl
@[simp] theorem State.setBay_drivers (s : State) (b : BayNo) (r : BayRecord) :
    (s.setBay b r).drivers = s.drivers := rfl
@[simp] theorem State.setBay_log (s : State) (b : BayNo) (r : BayRecord) : (s.setBay b r).log = s.log := rfl
@[simp] theorem State.setBay_office (s : State) (b : BayNo) (r : BayRecord) :
    (s.setBay b r).office = s.office := rfl
@[simp] theorem State.setBay_gate (s : State) (b : BayNo) (r : BayRecord) :
    (s.setBay b r).gate = s.gate := rfl

@[simp] theorem State.setArm_pending (s : State) (b : BayNo) (a : Arm) (x : ArmRecord) :
    (s.setArm b a x).pending = s.pending := rfl
@[simp] theorem State.setArm_phase (s : State) (b : BayNo) (a : Arm) (x : ArmRecord) :
    (s.setArm b a x).phase = s.phase := rfl
@[simp] theorem State.setArm_resetInput (s : State) (b : BayNo) (a : Arm) (x : ArmRecord) :
    (s.setArm b a x).resetInput = s.resetInput := rfl
@[simp] theorem State.setArm_shutdownInput (s : State) (b : BayNo) (a : Arm) (x : ArmRecord) :
    (s.setArm b a x).shutdownInput = s.shutdownInput := rfl
@[simp] theorem State.setArm_checkWordValid (s : State) (b : BayNo) (a : Arm) (x : ArmRecord) :
    (s.setArm b a x).checkWordValid = s.checkWordValid := rfl
@[simp] theorem State.setArm_lastStart (s : State) (b : BayNo) (a : Arm) (x : ArmRecord) :
    (s.setArm b a x).lastStart = s.lastStart := rfl
@[simp] theorem State.setArm_startErased (s : State) (b : BayNo) (a : Arm) (x : ArmRecord) :
    (s.setArm b a x).startErased = s.startErased := rfl
@[simp] theorem State.setArm_startBad (s : State) (b : BayNo) (a : Arm) (x : ArmRecord) :
    (s.setArm b a x).startBad = s.startBad := rfl
@[simp] theorem State.setArm_elapsed (s : State) (b : BayNo) (a : Arm) (x : ArmRecord) :
    (s.setArm b a x).elapsed = s.elapsed := rfl
@[simp] theorem State.setArm_time (s : State) (b : BayNo) (a : Arm) (x : ArmRecord) :
    (s.setArm b a x).time = s.time := rfl
@[simp] theorem State.setArm_settings (s : State) (b : BayNo) (a : Arm) (x : ArmRecord) :
    (s.setArm b a x).settings = s.settings := rfl
@[simp] theorem State.setArm_dispatch (s : State) (b : BayNo) (a : Arm) (x : ArmRecord) :
    (s.setArm b a x).dispatch = s.dispatch := rfl
@[simp] theorem State.setArm_rack (s : State) (b : BayNo) (a : Arm) (x : ArmRecord) :
    (s.setArm b a x).rack = s.rack := rfl
@[simp] theorem State.setArm_latch (s : State) (b : BayNo) (a : Arm) (x : ArmRecord) :
    (s.setArm b a x).latch = s.latch := rfl
@[simp] theorem State.setArm_products (s : State) (b : BayNo) (a : Arm) (x : ArmRecord) :
    (s.setArm b a x).products = s.products := rfl
@[simp] theorem State.setArm_drivers (s : State) (b : BayNo) (a : Arm) (x : ArmRecord) :
    (s.setArm b a x).drivers = s.drivers := rfl
@[simp] theorem State.setArm_log (s : State) (b : BayNo) (a : Arm) (x : ArmRecord) :
    (s.setArm b a x).log = s.log := rfl
@[simp] theorem State.setArm_office (s : State) (b : BayNo) (a : Arm) (x : ArmRecord) :
    (s.setArm b a x).office = s.office := rfl
@[simp] theorem State.setArm_gate (s : State) (b : BayNo) (a : Arm) (x : ArmRecord) :
    (s.setArm b a x).gate = s.gate := rfl

@[simp] theorem State.updDriver_pending (s : State) (n : Nat) (f : Driver → Driver) :
    (s.updDriver n f).pending = s.pending := rfl
@[simp] theorem State.updDriver_phase (s : State) (n : Nat) (f : Driver → Driver) :
    (s.updDriver n f).phase = s.phase := rfl
@[simp] theorem State.updDriver_resetInput (s : State) (n : Nat) (f : Driver → Driver) :
    (s.updDriver n f).resetInput = s.resetInput := rfl
@[simp] theorem State.updDriver_shutdownInput (s : State) (n : Nat) (f : Driver → Driver) :
    (s.updDriver n f).shutdownInput = s.shutdownInput := rfl
@[simp] theorem State.updDriver_checkWordValid (s : State) (n : Nat) (f : Driver → Driver) :
    (s.updDriver n f).checkWordValid = s.checkWordValid := rfl
@[simp] theorem State.updDriver_lastStart (s : State) (n : Nat) (f : Driver → Driver) :
    (s.updDriver n f).lastStart = s.lastStart := rfl
@[simp] theorem State.updDriver_startErased (s : State) (n : Nat) (f : Driver → Driver) :
    (s.updDriver n f).startErased = s.startErased := rfl
@[simp] theorem State.updDriver_startBad (s : State) (n : Nat) (f : Driver → Driver) :
    (s.updDriver n f).startBad = s.startBad := rfl
@[simp] theorem State.updDriver_elapsed (s : State) (n : Nat) (f : Driver → Driver) :
    (s.updDriver n f).elapsed = s.elapsed := rfl
@[simp] theorem State.updDriver_time (s : State) (n : Nat) (f : Driver → Driver) :
    (s.updDriver n f).time = s.time := rfl
@[simp] theorem State.updDriver_settings (s : State) (n : Nat) (f : Driver → Driver) :
    (s.updDriver n f).settings = s.settings := rfl
@[simp] theorem State.updDriver_dispatch (s : State) (n : Nat) (f : Driver → Driver) :
    (s.updDriver n f).dispatch = s.dispatch := rfl
@[simp] theorem State.updDriver_bays (s : State) (n : Nat) (f : Driver → Driver) :
    (s.updDriver n f).bays = s.bays := rfl
@[simp] theorem State.updDriver_rack (s : State) (n : Nat) (f : Driver → Driver) :
    (s.updDriver n f).rack = s.rack := rfl
@[simp] theorem State.updDriver_latch (s : State) (n : Nat) (f : Driver → Driver) :
    (s.updDriver n f).latch = s.latch := rfl
@[simp] theorem State.updDriver_products (s : State) (n : Nat) (f : Driver → Driver) :
    (s.updDriver n f).products = s.products := rfl
@[simp] theorem State.updDriver_log (s : State) (n : Nat) (f : Driver → Driver) :
    (s.updDriver n f).log = s.log := rfl
@[simp] theorem State.updDriver_office (s : State) (n : Nat) (f : Driver → Driver) :
    (s.updDriver n f).office = s.office := rfl
@[simp] theorem State.updDriver_gate (s : State) (n : Nat) (f : Driver → Driver) :
    (s.updDriver n f).gate = s.gate := rfl

@[simp] theorem State.reach_pending (s : State) (t : Nat) : (s.reach t).pending = s.pending := rfl
@[simp] theorem State.reach_phase (s : State) (t : Nat) : (s.reach t).phase = s.phase := rfl
@[simp] theorem State.reach_resetInput (s : State) (t : Nat) : (s.reach t).resetInput = s.resetInput := rfl
@[simp] theorem State.reach_shutdownInput (s : State) (t : Nat) :
    (s.reach t).shutdownInput = s.shutdownInput := rfl
@[simp] theorem State.reach_checkWordValid (s : State) (t : Nat) :
    (s.reach t).checkWordValid = s.checkWordValid := rfl
@[simp] theorem State.reach_lastStart (s : State) (t : Nat) : (s.reach t).lastStart = s.lastStart := rfl
@[simp] theorem State.reach_startErased (s : State) (t : Nat) :
    (s.reach t).startErased = s.startErased := rfl
@[simp] theorem State.reach_startBad (s : State) (t : Nat) : (s.reach t).startBad = s.startBad := rfl
@[simp] theorem State.reach_time (s : State) (t : Nat) : (s.reach t).time = s.time := rfl
@[simp] theorem State.reach_settings (s : State) (t : Nat) : (s.reach t).settings = s.settings := rfl
@[simp] theorem State.reach_dispatch (s : State) (t : Nat) : (s.reach t).dispatch = s.dispatch := rfl
@[simp] theorem State.reach_bays (s : State) (t : Nat) : (s.reach t).bays = s.bays := rfl
@[simp] theorem State.reach_rack (s : State) (t : Nat) : (s.reach t).rack = s.rack := rfl
@[simp] theorem State.reach_latch (s : State) (t : Nat) : (s.reach t).latch = s.latch := rfl
@[simp] theorem State.reach_products (s : State) (t : Nat) : (s.reach t).products = s.products := rfl
@[simp] theorem State.reach_drivers (s : State) (t : Nat) : (s.reach t).drivers = s.drivers := rfl
@[simp] theorem State.reach_log (s : State) (t : Nat) : (s.reach t).log = s.log := rfl
@[simp] theorem State.reach_office (s : State) (t : Nat) : (s.reach t).office = s.office := rfl
@[simp] theorem State.reach_gate (s : State) (t : Nat) : (s.reach t).gate = s.gate := rfl

@[simp] theorem State.admit_pending (s : State) (ref driver : Nat) (x : Payload) :
    (s.admitEntry ref driver x).pending = s.pending := rfl
@[simp] theorem State.admit_phase (s : State) (ref driver : Nat) (x : Payload) :
    (s.admitEntry ref driver x).phase = s.phase := rfl
@[simp] theorem State.admit_resetInput (s : State) (ref driver : Nat) (x : Payload) :
    (s.admitEntry ref driver x).resetInput = s.resetInput := rfl
@[simp] theorem State.admit_shutdownInput (s : State) (ref driver : Nat) (x : Payload) :
    (s.admitEntry ref driver x).shutdownInput = s.shutdownInput := rfl
@[simp] theorem State.admit_checkWordValid (s : State) (ref driver : Nat) (x : Payload) :
    (s.admitEntry ref driver x).checkWordValid = s.checkWordValid := rfl
@[simp] theorem State.admit_lastStart (s : State) (ref driver : Nat) (x : Payload) :
    (s.admitEntry ref driver x).lastStart = s.lastStart := rfl
@[simp] theorem State.admit_startErased (s : State) (ref driver : Nat) (x : Payload) :
    (s.admitEntry ref driver x).startErased = s.startErased := rfl
@[simp] theorem State.admit_startBad (s : State) (ref driver : Nat) (x : Payload) :
    (s.admitEntry ref driver x).startBad = s.startBad := rfl
@[simp] theorem State.admit_elapsed (s : State) (ref driver : Nat) (x : Payload) :
    (s.admitEntry ref driver x).elapsed = s.elapsed := rfl
@[simp] theorem State.admit_time (s : State) (ref driver : Nat) (x : Payload) :
    (s.admitEntry ref driver x).time = s.time := rfl
@[simp] theorem State.admit_settings (s : State) (ref driver : Nat) (x : Payload) :
    (s.admitEntry ref driver x).settings = s.settings := rfl
@[simp] theorem State.admit_dispatch (s : State) (ref driver : Nat) (x : Payload) :
    (s.admitEntry ref driver x).dispatch = s.dispatch := rfl
@[simp] theorem State.admit_bays (s : State) (ref driver : Nat) (x : Payload) :
    (s.admitEntry ref driver x).bays = s.bays := rfl
@[simp] theorem State.admit_rack (s : State) (ref driver : Nat) (x : Payload) :
    (s.admitEntry ref driver x).rack = s.rack := rfl
@[simp] theorem State.admit_latch (s : State) (ref driver : Nat) (x : Payload) :
    (s.admitEntry ref driver x).latch = s.latch := rfl
@[simp] theorem State.admit_products (s : State) (ref driver : Nat) (x : Payload) :
    (s.admitEntry ref driver x).products = s.products := rfl
@[simp] theorem State.admit_drivers (s : State) (ref driver : Nat) (x : Payload) :
    (s.admitEntry ref driver x).drivers = s.drivers := rfl
@[simp] theorem State.admit_office (s : State) (ref driver : Nat) (x : Payload) :
    (s.admitEntry ref driver x).office = s.office := rfl
@[simp] theorem State.admit_gate (s : State) (ref driver : Nat) (x : Payload) :
    (s.admitEntry ref driver x).gate = s.gate := rfl

@[simp] theorem State.replyAwaited_pending (s : State) (n : Nat) (b : FrameBody) :
    (s.replyAwaited n b).pending = s.pending := rfl
@[simp] theorem State.replyAwaited_phase (s : State) (n : Nat) (b : FrameBody) :
    (s.replyAwaited n b).phase = s.phase := rfl
@[simp] theorem State.replyAwaited_resetInput (s : State) (n : Nat) (b : FrameBody) :
    (s.replyAwaited n b).resetInput = s.resetInput := rfl
@[simp] theorem State.replyAwaited_shutdownInput (s : State) (n : Nat) (b : FrameBody) :
    (s.replyAwaited n b).shutdownInput = s.shutdownInput := rfl
@[simp] theorem State.replyAwaited_checkWordValid (s : State) (n : Nat) (b : FrameBody) :
    (s.replyAwaited n b).checkWordValid = s.checkWordValid := rfl
@[simp] theorem State.replyAwaited_lastStart (s : State) (n : Nat) (b : FrameBody) :
    (s.replyAwaited n b).lastStart = s.lastStart := rfl
@[simp] theorem State.replyAwaited_startErased (s : State) (n : Nat) (b : FrameBody) :
    (s.replyAwaited n b).startErased = s.startErased := rfl
@[simp] theorem State.replyAwaited_startBad (s : State) (n : Nat) (b : FrameBody) :
    (s.replyAwaited n b).startBad = s.startBad := rfl
@[simp] theorem State.replyAwaited_elapsed (s : State) (n : Nat) (b : FrameBody) :
    (s.replyAwaited n b).elapsed = s.elapsed := rfl
@[simp] theorem State.replyAwaited_time (s : State) (n : Nat) (b : FrameBody) :
    (s.replyAwaited n b).time = s.time := rfl
@[simp] theorem State.replyAwaited_settings (s : State) (n : Nat) (b : FrameBody) :
    (s.replyAwaited n b).settings = s.settings := rfl
@[simp] theorem State.replyAwaited_dispatch (s : State) (n : Nat) (b : FrameBody) :
    (s.replyAwaited n b).dispatch = s.dispatch := rfl
@[simp] theorem State.replyAwaited_bays (s : State) (n : Nat) (b : FrameBody) :
    (s.replyAwaited n b).bays = s.bays := rfl
@[simp] theorem State.replyAwaited_rack (s : State) (n : Nat) (b : FrameBody) :
    (s.replyAwaited n b).rack = s.rack := rfl
@[simp] theorem State.replyAwaited_latch (s : State) (n : Nat) (b : FrameBody) :
    (s.replyAwaited n b).latch = s.latch := rfl
@[simp] theorem State.replyAwaited_products (s : State) (n : Nat) (b : FrameBody) :
    (s.replyAwaited n b).products = s.products := rfl
@[simp] theorem State.replyAwaited_drivers (s : State) (n : Nat) (b : FrameBody) :
    (s.replyAwaited n b).drivers = s.drivers := rfl
@[simp] theorem State.replyAwaited_log (s : State) (n : Nat) (b : FrameBody) :
    (s.replyAwaited n b).log = s.log := rfl

@[simp] theorem State.replyPage_pending (s : State) (p : PageNo) (o : PageOutcome) :
    (s.replyPage p o).pending = s.pending := rfl
@[simp] theorem State.replyPage_phase (s : State) (p : PageNo) (o : PageOutcome) :
    (s.replyPage p o).phase = s.phase := rfl
@[simp] theorem State.replyPage_resetInput (s : State) (p : PageNo) (o : PageOutcome) :
    (s.replyPage p o).resetInput = s.resetInput := rfl
@[simp] theorem State.replyPage_shutdownInput (s : State) (p : PageNo) (o : PageOutcome) :
    (s.replyPage p o).shutdownInput = s.shutdownInput := rfl
@[simp] theorem State.replyPage_checkWordValid (s : State) (p : PageNo) (o : PageOutcome) :
    (s.replyPage p o).checkWordValid = s.checkWordValid := rfl
@[simp] theorem State.replyPage_lastStart (s : State) (p : PageNo) (o : PageOutcome) :
    (s.replyPage p o).lastStart = s.lastStart := rfl
@[simp] theorem State.replyPage_startErased (s : State) (p : PageNo) (o : PageOutcome) :
    (s.replyPage p o).startErased = s.startErased := rfl
@[simp] theorem State.replyPage_startBad (s : State) (p : PageNo) (o : PageOutcome) :
    (s.replyPage p o).startBad = s.startBad := rfl
@[simp] theorem State.replyPage_elapsed (s : State) (p : PageNo) (o : PageOutcome) :
    (s.replyPage p o).elapsed = s.elapsed := rfl
@[simp] theorem State.replyPage_time (s : State) (p : PageNo) (o : PageOutcome) :
    (s.replyPage p o).time = s.time := rfl
@[simp] theorem State.replyPage_settings (s : State) (p : PageNo) (o : PageOutcome) :
    (s.replyPage p o).settings = s.settings := rfl
@[simp] theorem State.replyPage_dispatch (s : State) (p : PageNo) (o : PageOutcome) :
    (s.replyPage p o).dispatch = s.dispatch := rfl
@[simp] theorem State.replyPage_bays (s : State) (p : PageNo) (o : PageOutcome) :
    (s.replyPage p o).bays = s.bays := rfl
@[simp] theorem State.replyPage_rack (s : State) (p : PageNo) (o : PageOutcome) :
    (s.replyPage p o).rack = s.rack := rfl
@[simp] theorem State.replyPage_latch (s : State) (p : PageNo) (o : PageOutcome) :
    (s.replyPage p o).latch = s.latch := rfl
@[simp] theorem State.replyPage_products (s : State) (p : PageNo) (o : PageOutcome) :
    (s.replyPage p o).products = s.products := rfl
@[simp] theorem State.replyPage_drivers (s : State) (p : PageNo) (o : PageOutcome) :
    (s.replyPage p o).drivers = s.drivers := rfl
@[simp] theorem State.replyPage_log (s : State) (p : PageNo) (o : PageOutcome) :
    (s.replyPage p o).log = s.log := rfl
@[simp] theorem State.replyPage_gate (s : State) (p : PageNo) (o : PageOutcome) :
    (s.replyPage p o).gate = s.gate := rfl

@[simp] theorem State.unbind_pending (s : State) (i : SlotNo) : (s.unbind i).pending = s.pending := rfl
@[simp] theorem State.unbind_phase (s : State) (i : SlotNo) : (s.unbind i).phase = s.phase := rfl
@[simp] theorem State.unbind_resetInput (s : State) (i : SlotNo) :
    (s.unbind i).resetInput = s.resetInput := rfl
@[simp] theorem State.unbind_shutdownInput (s : State) (i : SlotNo) :
    (s.unbind i).shutdownInput = s.shutdownInput := rfl
@[simp] theorem State.unbind_checkWordValid (s : State) (i : SlotNo) :
    (s.unbind i).checkWordValid = s.checkWordValid := rfl
@[simp] theorem State.unbind_lastStart (s : State) (i : SlotNo) :
    (s.unbind i).lastStart = s.lastStart := rfl
@[simp] theorem State.unbind_startErased (s : State) (i : SlotNo) :
    (s.unbind i).startErased = s.startErased := rfl
@[simp] theorem State.unbind_startBad (s : State) (i : SlotNo) : (s.unbind i).startBad = s.startBad := rfl
@[simp] theorem State.unbind_elapsed (s : State) (i : SlotNo) : (s.unbind i).elapsed = s.elapsed := rfl
@[simp] theorem State.unbind_time (s : State) (i : SlotNo) : (s.unbind i).time = s.time := rfl
@[simp] theorem State.unbind_settings (s : State) (i : SlotNo) : (s.unbind i).settings = s.settings := rfl
@[simp] theorem State.unbind_dispatch (s : State) (i : SlotNo) : (s.unbind i).dispatch = s.dispatch := rfl
@[simp] theorem State.unbind_bays (s : State) (i : SlotNo) : (s.unbind i).bays = s.bays := rfl
@[simp] theorem State.unbind_rack (s : State) (i : SlotNo) : (s.unbind i).rack = s.rack := rfl
@[simp] theorem State.unbind_latch (s : State) (i : SlotNo) : (s.unbind i).latch = s.latch := rfl
@[simp] theorem State.unbind_products (s : State) (i : SlotNo) : (s.unbind i).products = s.products := rfl
@[simp] theorem State.unbind_log (s : State) (i : SlotNo) : (s.unbind i).log = s.log := rfl
@[simp] theorem State.unbind_office (s : State) (i : SlotNo) : (s.unbind i).office = s.office := rfl
@[simp] theorem State.unbind_gate (s : State) (i : SlotNo) : (s.unbind i).gate = s.gate := rfl

@[simp] theorem State.beginWrite_pending (s : State) : (s.beginWrite).pending = s.pending := rfl
@[simp] theorem State.beginWrite_phase (s : State) : (s.beginWrite).phase = s.phase := rfl
@[simp] theorem State.beginWrite_resetInput (s : State) : (s.beginWrite).resetInput = s.resetInput := rfl
@[simp] theorem State.beginWrite_shutdownInput (s : State) :
    (s.beginWrite).shutdownInput = s.shutdownInput := rfl
@[simp] theorem State.beginWrite_checkWordValid (s : State) :
    (s.beginWrite).checkWordValid = s.checkWordValid := rfl
@[simp] theorem State.beginWrite_lastStart (s : State) : (s.beginWrite).lastStart = s.lastStart := rfl
@[simp] theorem State.beginWrite_startErased (s : State) :
    (s.beginWrite).startErased = s.startErased := rfl
@[simp] theorem State.beginWrite_startBad (s : State) : (s.beginWrite).startBad = s.startBad := rfl
@[simp] theorem State.beginWrite_elapsed (s : State) : (s.beginWrite).elapsed = s.elapsed := rfl
@[simp] theorem State.beginWrite_time (s : State) : (s.beginWrite).time = s.time := rfl
@[simp] theorem State.beginWrite_settings (s : State) : (s.beginWrite).settings = s.settings := rfl
@[simp] theorem State.beginWrite_dispatch (s : State) : (s.beginWrite).dispatch = s.dispatch := rfl
@[simp] theorem State.beginWrite_bays (s : State) : (s.beginWrite).bays = s.bays := rfl
@[simp] theorem State.beginWrite_rack (s : State) : (s.beginWrite).rack = s.rack := rfl
@[simp] theorem State.beginWrite_latch (s : State) : (s.beginWrite).latch = s.latch := rfl
@[simp] theorem State.beginWrite_products (s : State) : (s.beginWrite).products = s.products := rfl
@[simp] theorem State.beginWrite_drivers (s : State) : (s.beginWrite).drivers = s.drivers := rfl
@[simp] theorem State.beginWrite_office (s : State) : (s.beginWrite).office = s.office := rfl
@[simp] theorem State.beginWrite_gate (s : State) : (s.beginWrite).gate = s.gate := rfl

@[simp] theorem State.setPort_pending (s : State) (p : Port) (x : PortState) :
    (s.setPort p x).pending = s.pending := by cases p <;> rfl
@[simp] theorem State.setPort_phase (s : State) (p : Port) (x : PortState) :
    (s.setPort p x).phase = s.phase := by cases p <;> rfl
@[simp] theorem State.setPort_resetInput (s : State) (p : Port) (x : PortState) :
    (s.setPort p x).resetInput = s.resetInput := by cases p <;> rfl
@[simp] theorem State.setPort_shutdownInput (s : State) (p : Port) (x : PortState) :
    (s.setPort p x).shutdownInput = s.shutdownInput := by cases p <;> rfl
@[simp] theorem State.setPort_checkWordValid (s : State) (p : Port) (x : PortState) :
    (s.setPort p x).checkWordValid = s.checkWordValid := by cases p <;> rfl
@[simp] theorem State.setPort_lastStart (s : State) (p : Port) (x : PortState) :
    (s.setPort p x).lastStart = s.lastStart := by cases p <;> rfl
@[simp] theorem State.setPort_startErased (s : State) (p : Port) (x : PortState) :
    (s.setPort p x).startErased = s.startErased := by cases p <;> rfl
@[simp] theorem State.setPort_startBad (s : State) (p : Port) (x : PortState) :
    (s.setPort p x).startBad = s.startBad := by cases p <;> rfl
@[simp] theorem State.setPort_elapsed (s : State) (p : Port) (x : PortState) :
    (s.setPort p x).elapsed = s.elapsed := by cases p <;> rfl
@[simp] theorem State.setPort_time (s : State) (p : Port) (x : PortState) :
    (s.setPort p x).time = s.time := by cases p <;> rfl
@[simp] theorem State.setPort_settings (s : State) (p : Port) (x : PortState) :
    (s.setPort p x).settings = s.settings := by cases p <;> rfl
@[simp] theorem State.setPort_dispatch (s : State) (p : Port) (x : PortState) :
    (s.setPort p x).dispatch = s.dispatch := by cases p <;> rfl
@[simp] theorem State.setPort_bays (s : State) (p : Port) (x : PortState) :
    (s.setPort p x).bays = s.bays := by cases p <;> rfl
@[simp] theorem State.setPort_rack (s : State) (p : Port) (x : PortState) :
    (s.setPort p x).rack = s.rack := by cases p <;> rfl
@[simp] theorem State.setPort_latch (s : State) (p : Port) (x : PortState) :
    (s.setPort p x).latch = s.latch := by cases p <;> rfl
@[simp] theorem State.setPort_products (s : State) (p : Port) (x : PortState) :
    (s.setPort p x).products = s.products := by cases p <;> rfl
@[simp] theorem State.setPort_drivers (s : State) (p : Port) (x : PortState) :
    (s.setPort p x).drivers = s.drivers := by cases p <;> rfl
@[simp] theorem State.setPort_log (s : State) (p : Port) (x : PortState) :
    (s.setPort p x).log = s.log := by cases p <;> rfl

@[simp] theorem State.setPort_port (s : State) (p : Port) (x : PortState) :
    (s.setPort p x).port p = x := by cases p <;> rfl

@[simp] theorem State.setPort_setPort (s : State) (p : Port) (x y : PortState) :
    (s.setPort p x).setPort p y = s.setPort p y := by cases p <;> rfl

@[simp] theorem State.setPort_eta (s : State) (p : Port) : s.setPort p (s.port p) = s := by cases p <;> rfl

@[simp] theorem State.setPort_office (s : State) (x : PortState) :
    s.setPort .office x = { s with office := x } := rfl

@[simp] theorem State.setPort_gate (s : State) (x : PortState) :
    s.setPort .gate x = { s with gate := x } := rfl

@[simp] theorem State.port_office (s : State) : s.port .office = s.office := rfl

@[simp] theorem State.port_gate (s : State) : s.port .gate = s.gate := rfl

end Sys2Proof.Machine
end

