-- ==== Sys2Proof/Laws/Tables.lean ====
section
/-! SUPPORT. What reading a table gives after a write: slots, compartments, bays, arms, products and ports. -/

namespace Sys2Proof.Machine

/-! ### Vectors -/

theorem get_set {α : Type} {n : Nat} (v : Vector α n) (i j : Fin n) (x : α) :
    (v.set i.val x i.isLt).get j = if j = i then x else v.get j := by
  simp only [Vector.get_eq_getElem, Vector.getElem_set, Fin.ext_iff, eq_comm]

theorem vector_ext {α : Type} {n : Nat} {v w : Vector α n} (h : ∀ i : Fin n, v.get i = w.get i) :
    v = w := by
  apply Vector.ext
  intro i hi
  simpa [Vector.get_eq_getElem] using h ⟨i, hi⟩

theorem get_mapTable {α : Type} {n : Nat} (f : α → α) (v : Vector α n) (i : Fin n) :
    (mapTable f v).get i = f (v.get i) := by
  simp only [mapTable, Vector.get_eq_getElem, Vector.getElem_mk, List.getElem_toArray, List.getElem_map,
    Array.getElem_toList, Vector.getElem_toArray]

theorem get_ofFn {α : Type} {n : Nat} (f : Fin n → α) (i : Fin n) : (Vector.ofFn f).get i = f i := by
  simp [Vector.get_eq_getElem]

theorem set_get_self {α : Type} {n : Nat} (v : Vector α n) (i : Fin n) :
    v.set i.val (v.get i) i.isLt = v := by
  apply vector_ext
  intro j
  rw [get_set]
  split <;> simp_all

/-! ### Slots -/

theorem State.slot_setSlot (s : State) (i j : SlotNo) (d : Option Delivery) :
    (s.setSlot i d).slot j = if j = i then d else s.slot j := get_set ..

@[simp] theorem State.slot_setSlot_self (s : State) (i : SlotNo) (d : Option Delivery) :
    (s.setSlot i d).slot i = d := by simp [State.slot_setSlot]

@[simp] theorem State.setSlot_setSlot (s : State) (i : SlotNo) (d e : Option Delivery) :
    (s.setSlot i d).setSlot i e = s.setSlot i e := by
  simp [State.setSlot]

theorem State.setSlot_slot (s : State) (i : SlotNo) : s.setSlot i (s.slot i) = s := by
  simp only [State.setSlot, State.slot, set_get_self]

theorem State.updDelivery_of_some {s : State} {i : SlotNo} {d : Delivery} (h : s.slot i = some d)
    (f : Delivery → Delivery) : s.updDelivery i f = s.setSlot i (some (f d)) := by
  simp only [State.updDelivery, h]

/-- A delivery changed in place: its slot holds the changed record, every other slot is as before. -/
theorem State.slot_updDelivery (s : State) (i j : SlotNo) (f : Delivery → Delivery) :
    (s.updDelivery i f).slot j = if j = i then (s.slot j).map f else s.slot j := by
  unfold State.updDelivery
  split
  · split <;> simp_all
  · rw [State.slot_setSlot]
    split <;> simp_all

/-- Nothing but the dispatch table changes with a delivery. -/
theorem State.updDelivery_frame (s : State) (i : SlotNo) (f : Delivery → Delivery) :
    s.updDelivery i f = { s with dispatch := (s.updDelivery i f).dispatch } := by
  unfold State.updDelivery
  split <;> rfl

theorem State.updComp_frame (s : State) (i : SlotNo) (k : Nat) (f : Compartment → Compartment) :
    s.updComp i k f = { s with dispatch := (s.updComp i k f).dispatch } :=
  s.updDelivery_frame i _

theorem State.updComp_of_some {s : State} {i : SlotNo} {d : Delivery} (h : s.slot i = some d) (k : Nat)
    (f : Compartment → Compartment) : s.updComp i k f = s.setSlot i (some (d.updComp k f)) :=
  State.updDelivery_of_some h _

theorem State.slot_updComp (s : State) (i j : SlotNo) (k : Nat) (f : Compartment → Compartment) :
    (s.updComp i k f).slot j = if j = i then (s.slot j).map fun d => d.updComp k f else s.slot j :=
  s.slot_updDelivery i j _

/-- The whole table changed alike. -/
theorem slot_mapTable (s : State) (f : Option Delivery → Option Delivery) (i : SlotNo) :
    State.slot { s with dispatch := mapTable f s.dispatch } i = f (s.slot i) := get_mapTable ..

/-! ### Finding a delivery -/

theorem findSome_unique {α β : Type} (f : α → Option β) (x : α) (y : β) (hx : f x = some y)
    (hu : ∀ z w, f z = some w → z = x) :
    ∀ l : List α, x ∈ l → l.findSome? f = some y := by
  intro l
  induction l with
  | nil => simp
  | cons a l ih =>
    intro hm
    rw [List.findSome?_cons]
    cases ha : f a with
    | some w => rw [hu a w ha] at ha; rw [hx] at ha; simp_all
    | none =>
      rcases List.mem_cons.1 hm with rfl | hm
      · simp_all
      · exact ih hm

/-- The delivery of a reference is found in the slot where it stands. -/
theorem State.find_of_holdsAt {s : State} {i : SlotNo} {d : Delivery} (h : s.holdsAt i d) :
    s.find d.ref = some (i, d) := by
  refine findSome_unique _ i (i, d) ?_ ?_ _ (List.mem_finRange i)
  · simp [h.1]
  · intro j y hy
    split at hy
    · simp at hy
    · rename_i e he
      split at hy
      · rename_i hr; exact h.2 j e he hr
      · simp at hy

/-- What `find` answers: a slot and its record of that reference, or none where no record has it. -/
theorem State.find_spec (s : State) (ref : Nat) :
    match s.find ref with
    | none => ∀ i d, s.slot i = some d → d.ref ≠ ref
    | some (i, d) => s.slot i = some d ∧ d.ref = ref := by
  cases h : s.find ref with
  | none =>
    intro i d hd hr
    have := List.findSome?_eq_none_iff.1 h i (List.mem_finRange i)
    simp [hd, hr] at this
  | some x =>
    obtain ⟨j, -, hj⟩ := List.exists_of_findSome?_eq_some h
    cases hd : s.slot j with
    | none => simp [hd] at hj
    | some e =>
      simp only [hd] at hj
      split at hj
      · simp only [Option.some.injEq] at hj; subst hj; exact ⟨hd, ‹_›⟩
      · simp at hj

theorem State.find_eq_none {s : State} {ref : Nat} (h : ∀ i d, s.slot i = some d → d.ref ≠ ref) :
    s.find ref = none := by
  have := s.find_spec ref
  cases hf : s.find ref with
  | none => rfl
  | some x => rw [hf] at this; exact absurd this.2 (h _ _ this.1)

/-- The lowest-numbered FREE slot. -/
theorem State.freeSlot_eq {s : State} {i : SlotNo} (hi : s.slot i = none)
    (hl : ∀ j, j < i → s.slot j ≠ none) : s.freeSlot = some i := by
  unfold State.freeSlot
  rw [List.find?_eq_some_iff_append]
  refine ⟨by simp [hi], ?_⟩
  have hs := List.append_of_mem (List.mem_finRange i)
  obtain ⟨l, r, h⟩ := hs
  refine ⟨l, r, h, ?_⟩
  intro j hj
  have hp : (List.finRange 16).Pairwise (· < ·) := List.pairwise_lt_finRange 16
  rw [h, List.pairwise_append] at hp
  have := hl j (hp.2.2 j hj i (by simp))
  cases hj : s.slot j <;> simp_all

/-! ### Compartments -/

theorem Delivery.comp_mem {d : Delivery} {k : Nat} {c : Compartment} (h : d.comp k = some c) :
    c ∈ d.comps ∧ c.index = k := by
  have := List.find?_some h
  exact ⟨List.mem_of_find?_eq_some h, by simpa using this⟩

theorem State.comp_of_some {s : State} {i : SlotNo} {d : Delivery} (h : s.slot i = some d) (k : Nat) :
    s.comp i k = d.comp k := by simp only [State.comp, h]

/-- A changed compartment is found where the change keeps its index. -/
theorem Delivery.comp_updComp (d : Delivery) (j k : Nat) (f : Compartment → Compartment)
    (hf : ∀ c, (f c).index = c.index) :
    (d.updComp k f).comp j = (d.comp j).map fun c => if c.index = k then f c else c := by
  unfold Delivery.updComp Delivery.comp
  rw [List.find?_map]
  congr 1
  apply congrArg (fun p => List.find? p d.comps)
  funext c
  dsimp only [Function.comp]
  split <;> simp [hf]

/-- One compartment of an index: changing it is putting another in its place. -/
theorem Delivery.updComp_eq_withComp {d : Delivery} {c : Compartment}
    (hu : ∀ y ∈ d.comps, y.index = c.index → y = c) (f : Compartment → Compartment) :
    d.updComp c.index f = d.withComp c.index (f c) := by
  unfold Delivery.updComp Delivery.withComp
  congr 1
  apply List.map_congr_left
  intro y hy
  split
  · rename_i h; rw [hu y hy h]
  · rfl

/-! ### Bays and arms -/

theorem State.bay_setBay (s : State) (b c : BayNo) (r : BayRecord) :
    (s.setBay b r).bay c = if c = b then r else s.bay c := get_set ..

@[simp] theorem State.bay_setBay_self (s : State) (b : BayNo) (r : BayRecord) :
    (s.setBay b r).bay b = r := by simp [State.bay_setBay]

@[simp] theorem State.setBay_setBay (s : State) (b : BayNo) (r q : BayRecord) :
    (s.setBay b r).setBay b q = s.setBay b q := by
  simp [State.setBay]

theorem State.setBay_bay (s : State) (b : BayNo) : s.setBay b (s.bay b) = s := by
  simp only [State.setBay, State.bay, set_get_self]

@[simp] theorem BayRecord.armRecord_setArmRecord_self (r : BayRecord) (a : Arm) (x : ArmRecord) :
    (r.setArmRecord a x).armRecord a = x := by cases a <;> rfl

theorem BayRecord.armRecord_setArmRecord (r : BayRecord) (a c : Arm) (x : ArmRecord) :
    (r.setArmRecord a x).armRecord c = if c = a then x else r.armRecord c := by
  cases a <;> cases c <;> rfl

@[simp] theorem BayRecord.setArmRecord_setArmRecord (r : BayRecord) (a : Arm) (x y : ArmRecord) :
    (r.setArmRecord a x).setArmRecord a y = r.setArmRecord a y := by cases a <;> rfl

theorem BayRecord.setArmRecord_armRecord (r : BayRecord) (a : Arm) :
    r.setArmRecord a (r.armRecord a) = r := by cases a <;> rfl

@[simp] theorem BayRecord.setArmRecord_link (r : BayRecord) (a : Arm) (x : ArmRecord) :
    (r.setArmRecord a x).link = r.link := by cases a <;> rfl
@[simp] theorem BayRecord.setArmRecord_missed (r : BayRecord) (a : Arm) (x : ArmRecord) :
    (r.setArmRecord a x).missed = r.missed := by cases a <;> rfl
@[simp] theorem BayRecord.setArmRecord_bound (r : BayRecord) (a : Arm) (x : ArmRecord) :
    (r.setArmRecord a x).bound = r.bound := by cases a <;> rfl
@[simp] theorem BayRecord.setArmRecord_withdrawn (r : BayRecord) (a : Arm) (x : ArmRecord) :
    (r.setArmRecord a x).withdrawn = r.withdrawn := by cases a <;> rfl
@[simp] theorem BayRecord.setArmRecord_outbox (r : BayRecord) (a : Arm) (x : ArmRecord) :
    (r.setArmRecord a x).outbox = r.outbox := by cases a <;> rfl
@[simp] theorem BayRecord.setArmRecord_checkErrors (r : BayRecord) (a : Arm) (x : ArmRecord) :
    (r.setArmRecord a x).checkErrors = r.checkErrors := by cases a <;> rfl
@[simp] theorem BayRecord.setArmRecord_missedTotal (r : BayRecord) (a : Arm) (x : ArmRecord) :
    (r.setArmRecord a x).missedTotal = r.missedTotal := by cases a <;> rfl

theorem State.bay_setArm (s : State) (b c : BayNo) (a : Arm) (x : ArmRecord) :
    (s.setArm b a x).bay c = if c = b then (s.bay b).setArmRecord a x else s.bay c :=
  s.bay_setBay b c _

/-- An arm record written: that arm holds it, every other arm of every bay is as before. -/
theorem State.arm_setArm (s : State) (b c : BayNo) (a e : Arm) (x : ArmRecord) :
    (s.setArm b a x).arm c e = if c = b ∧ e = a then x else s.arm c e := by
  unfold State.arm
  rw [State.bay_setArm]
  by_cases h : c = b
  · subst h; simp [BayRecord.armRecord_setArmRecord]
  · simp [h]

theorem State.updOrphan_of_orphan {s : State} {b : BayNo} {a : Arm} {o : Orphan}
    (h : s.arm b a = .orphan o) (f : Orphan → Orphan) :
    s.updOrphan b a f = s.setArm b a (.orphan (f o)) := by
  simp only [State.updOrphan, h]

/-- An orphan changed in place; an arm that holds none stays as it is. -/
theorem State.updOrphan_eq (s : State) (b : BayNo) (a : Arm) (f : Orphan → Orphan) :
    s.updOrphan b a f = s.setArm b a (match s.arm b a with
      | .orphan o => .orphan (f o)
      | x => x) := by
  unfold State.updOrphan
  cases h : s.arm b a <;> simp only [] <;>
    rw [← h, State.setArm, State.arm, BayRecord.setArmRecord_armRecord, State.setBay_bay]

/-- An orphan changed in place, arm by arm. -/
theorem State.arm_updOrphan (s : State) (b c : BayNo) (a e : Arm) (f : Orphan → Orphan) :
    (s.updOrphan b a f).arm c e =
      if c = b ∧ e = a then
        match s.arm c e with
        | .orphan o => .orphan (f o)
        | x => x
      else s.arm c e := by
  unfold State.updOrphan
  split
  · rename_i o h
    rw [State.arm_setArm]
    split <;> simp_all
  · rename_i h
    split
    · rename_i hc
      obtain ⟨rfl, rfl⟩ := hc
      cases hx : s.arm c e <;> simp_all
    · rfl

/-- Nothing but the bay records changes with an orphan, or with an arm that is freed. -/
theorem State.updOrphan_frame (s : State) (b : BayNo) (a : Arm) (f : Orphan → Orphan) :
    s.updOrphan b a f = { s with bays := (s.updOrphan b a f).bays } := by
  unfold State.updOrphan
  split <;> rfl

theorem State.freeArm_frame (s : State) (x : Option ArmRef) :
    s.freeArm x = { s with bays := (s.freeArm x).bays } := by
  cases x <;> rfl

/-! ### Products, drivers, ports -/

theorem State.product_eq (s : State) (k : Fin 16) : s.product (k.val + 1) = s.products.get k := by
  have h : 1 ≤ k.val + 1 ∧ k.val + 1 ≤ 16 := by omega
  simp only [State.product, h, and_self, dite_true, Nat.add_sub_cancel]

theorem State.setProduct_eq (s : State) (k : Fin 16) (e : Product) :
    s.setProduct (k.val + 1) e = { s with products := s.products.set k.val e k.isLt } := by
  have h : 1 ≤ k.val + 1 ∧ k.val + 1 ≤ 16 := by omega
  simp only [State.setProduct, h, and_self, dite_true, Nat.add_sub_cancel]

theorem State.setProduct_frame (s : State) (k : Nat) (e : Product) :
    s.setProduct k e = { s with products := (s.setProduct k e).products } := by
  unfold State.setProduct
  split <;> rfl

/-- A found driver entry has the number sought. -/
theorem State.driver_number {s : State} {n : Nat} {x : Driver} (h : s.driver n = some x) :
    x ∈ s.drivers ∧ x.number = n := by
  have := List.find?_some h
  exact ⟨List.mem_of_find?_eq_some h, by simpa using this⟩

/-- A port other than the one written is as before. -/
theorem State.port_setPort (s : State) (p q : Port) (x : PortState) :
    (s.setPort p x).port q = if q = p then x else s.port q := by
  cases p <;> cases q <;> rfl

theorem State.setPort_frame (s : State) (p : Port) (x : PortState) :
    s.setPort p x = { s with office := (s.setPort p x).office, gate := (s.setPort p x).gate } := by
  cases p <;> rfl

end Sys2Proof.Machine
end

