-- ==== Sys2Proof/Laws/Store.lean ====
section
/-! SUPPORT. What the store's shared operations do: pages written, entries admitted, offered and lost, and
the beginning of the next write (R145 to R154, R162). -/

namespace Sys2Proof.Machine

/-! ### Pages -/

theorem LogStore.page_setPage (l : LogStore) (p q : PageNo) (x : Page) :
    (l.setPage p x).page q = if q = p then x else l.page q := get_set ..

@[simp] theorem LogStore.page_setPage_self (l : LogStore) (p : PageNo) (x : Page) :
    (l.setPage p x).page p = x := by simp [LogStore.page_setPage]

theorem LogStore.setPage_page (l : LogStore) (p : PageNo) : l.setPage p (l.page p) = l := by
  simp only [LogStore.setPage, LogStore.page, set_get_self]

/-- The FILLING page, where there is just one. -/
theorem LogStore.filling_eq {l : LogStore} {p : PageNo} (h : (l.page p).state = .filling)
    (hu : ∀ q, (l.page q).state = .filling → q = p) : l.filling = some p := by
  cases hf : l.filling with
  | none =>
    have := List.find?_eq_none.1 hf p (List.mem_finRange p)
    simp [h] at this
  | some q =>
    have := List.find?_some hf
    rw [hu q (by simpa using this)]

/-- `filling` names a FILLING page, or none is FILLING. -/
theorem LogStore.filling_spec (l : LogStore) :
    match l.filling with
    | none => ∀ p, (l.page p).state ≠ .filling
    | some p => (l.page p).state = .filling := by
  cases hf : l.filling with
  | none =>
    intro p hp
    have := List.find?_eq_none.1 hf p (List.mem_finRange p)
    simp [hp] at this
  | some q => simpa using List.find?_some hf

/-! ### The beginning of a write -/

/-- A write begins at once where the ports are open, an entry waits, and no write and no erase is in
progress; its entry then carries the lost count. Else nothing changes. -/
theorem LogStore.beginWrite_spec (running : Bool) (l : LogStore) :
    (l.queue = [] ∨ running = false ∨ l.writing = true ∨ l.engine.state = .erasing
      → l.beginWrite running = l)
    ∧ ∀ e rest, l.queue = e :: rest → running = true → l.writing = false → l.engine.state ≠ .erasing →
      (∀ n, e.lost = some n → l.beginWrite running = { l with writing := true })
      ∧ (e.lost = none → l.beginWrite running = { l with
          writing := true
          queue := { e with lost := some l.lostCount } :: rest
          lostCount := 0 }) := by
  unfold LogStore.beginWrite
  constructor
  · rintro (h | h | h | h)
    · simp [h]
    all_goals
      split
      · rfl
      · simp [h]
  · intro e rest hq hr hw he
    simp only [hq, hr, hw]
    constructor
    · intro n hn
      simp [hn, he]
    · intro hn
      simp [hn, he]

@[simp] theorem LogStore.beginWrite_pages (r : Bool) (l : LogStore) :
    (l.beginWrite r).pages = l.pages := by unfold LogStore.beginWrite; (repeat' split) <;> rfl
@[simp] theorem LogStore.beginWrite_exportMark (r : Bool) (l : LogStore) :
    (l.beginWrite r).exportMark = l.exportMark := by unfold LogStore.beginWrite; (repeat' split) <;> rfl
@[simp] theorem LogStore.beginWrite_paperCounter (r : Bool) (l : LogStore) :
    (l.beginWrite r).paperCounter = l.paperCounter := by
  unfold LogStore.beginWrite; (repeat' split) <;> rfl
@[simp] theorem LogStore.beginWrite_nextNumber (r : Bool) (l : LogStore) :
    (l.beginWrite r).nextNumber = l.nextNumber := by unfold LogStore.beginWrite; (repeat' split) <;> rfl
@[simp] theorem LogStore.beginWrite_lastWritten (r : Bool) (l : LogStore) :
    (l.beginWrite r).lastWritten = l.lastWritten := by
  unfold LogStore.beginWrite; (repeat' split) <;> rfl
@[simp] theorem LogStore.beginWrite_everWritten (r : Bool) (l : LogStore) :
    (l.beginWrite r).everWritten = l.everWritten := by
  unfold LogStore.beginWrite; (repeat' split) <;> rfl
@[simp] theorem LogStore.beginWrite_cutWrite (r : Bool) (l : LogStore) :
    (l.beginWrite r).cutWrite = l.cutWrite := by unfold LogStore.beginWrite; (repeat' split) <;> rfl
@[simp] theorem LogStore.beginWrite_status (r : Bool) (l : LogStore) :
    (l.beginWrite r).status = l.status := by unfold LogStore.beginWrite; (repeat' split) <;> rfl
@[simp] theorem LogStore.beginWrite_engine (r : Bool) (l : LogStore) :
    (l.beginWrite r).engine = l.engine := by unfold LogStore.beginWrite; (repeat' split) <;> rfl
@[simp] theorem LogStore.beginWrite_length (r : Bool) (l : LogStore) :
    (l.beginWrite r).queue.length = l.queue.length := by
  unfold LogStore.beginWrite; (repeat' split) <;> simp_all
@[simp] theorem LogStore.beginWrite_seqs (r : Bool) (l : LogStore) :
    (l.beginWrite r).queue.map Entry.seq = l.queue.map Entry.seq := by
  unfold LogStore.beginWrite; (repeat' split) <;> simp_all
theorem LogStore.beginWrite_lostCount (r : Bool) (l : LogStore) :
    (l.beginWrite r).lostCount = l.lostCount ∨ (l.beginWrite r).lostCount = 0 := by
  unfold LogStore.beginWrite; (repeat' split) <;> simp_all

/-! ### Admission -/

@[simp] theorem LogStore.admit_pages (r : Bool) (t n ref d : Nat) (x : Payload) (l : LogStore) :
    (l.admitEntry r t n ref d x).pages = l.pages := by simp [LogStore.admitEntry]
@[simp] theorem LogStore.admit_exportMark (r : Bool) (t n ref d : Nat) (x : Payload) (l : LogStore) :
    (l.admitEntry r t n ref d x).exportMark = l.exportMark := by simp [LogStore.admitEntry]
@[simp] theorem LogStore.admit_paperCounter (r : Bool) (t n ref d : Nat) (x : Payload) (l : LogStore) :
    (l.admitEntry r t n ref d x).paperCounter = l.paperCounter := by simp [LogStore.admitEntry]
@[simp] theorem LogStore.admit_nextNumber (r : Bool) (t n ref d : Nat) (x : Payload) (l : LogStore) :
    (l.admitEntry r t n ref d x).nextNumber = nextSeq l.nextNumber := by simp [LogStore.admitEntry]
@[simp] theorem LogStore.admit_lastWritten (r : Bool) (t n ref d : Nat) (x : Payload) (l : LogStore) :
    (l.admitEntry r t n ref d x).lastWritten = l.lastWritten := by simp [LogStore.admitEntry]
@[simp] theorem LogStore.admit_status (r : Bool) (t n ref d : Nat) (x : Payload) (l : LogStore) :
    (l.admitEntry r t n ref d x).status = l.status := by simp [LogStore.admitEntry]
@[simp] theorem LogStore.admit_length (r : Bool) (t n ref d : Nat) (x : Payload) (l : LogStore) :
    (l.admitEntry r t n ref d x).queue.length = l.queue.length + 1 := by simp [LogStore.admitEntry]
@[simp] theorem LogStore.admit_seqs (r : Bool) (t n ref d : Nat) (x : Payload) (l : LogStore) :
    (l.admitEntry r t n ref d x).queue.map Entry.seq = l.queue.map Entry.seq ++ [l.nextNumber] := by
  simp [LogStore.admitEntry]

/-- The engine keeps its state and its set when an entry is admitted: only its suspension is asked for. -/
theorem LogStore.admit_engine (r : Bool) (t n ref d : Nat) (x : Payload) (l : LogStore) :
    (l.admitEntry r t n ref d x).engine.state = l.engine.state
      ∧ (l.admitEntry r t n ref d x).engine.set = l.engine.set
      ∧ (l.admitEntry r t n ref d x).engine.window = l.engine.window := by
  simp only [LogStore.admitEntry, LogStore.beginWrite_engine]
  split <;> simp

/-- An automatic entry is admitted or lost. -/
theorem State.offer_cases (s : State) (ref driver : Nat) (x : Payload) :
    (s.log.admitsAutomatic = true ∧ s.offer ref driver x = s.admitEntry ref driver x)
      ∨ (s.log.admitsAutomatic = false ∧ s.offer ref driver x = { s with log := s.log.lose }) := by
  unfold State.offer
  cases h : s.log.admitsAutomatic <;> simp

/-- Only the log changes with an entry offered. -/
theorem State.offer_frame (s : State) (ref driver : Nat) (x : Payload) :
    s.offer ref driver x = { s with log := (s.offer ref driver x).log } := by
  unfold State.offer
  split <;> rfl

/-- The log after an offer depends on the log, the clocks and the phase alone. -/
theorem State.offer_log_congr {s t : State} (hl : t.log = s.log) (hp : t.phase = s.phase)
    (he : t.elapsed = s.elapsed) (ht : t.time = s.time) (ref driver : Nat) (x : Payload) :
    (t.offer ref driver x).log = (s.offer ref driver x).log := by
  unfold State.offer State.admitEntry State.now
  rw [hl, hp, he, ht]
  split <;> rfl

/-- The log after an admission depends on the log, the clocks and the phase alone. -/
theorem State.admit_log_congr {s t : State} (hl : t.log = s.log) (hp : t.phase = s.phase)
    (he : t.elapsed = s.elapsed) (ht : t.time = s.time) (ref driver : Nat) (x : Payload) :
    (t.admitEntry ref driver x).log = (s.admitEntry ref driver x).log := by
  unfold State.admitEntry State.now
  rw [hl, hp, he, ht]

@[simp] theorem LogStore.lose_pages (l : LogStore) : l.lose.pages = l.pages := rfl
@[simp] theorem LogStore.lose_queue (l : LogStore) : l.lose.queue = l.queue := rfl
@[simp] theorem LogStore.lose_engine (l : LogStore) : l.lose.engine = l.engine := rfl
@[simp] theorem LogStore.lose_paperCounter (l : LogStore) : l.lose.paperCounter = l.paperCounter := rfl
@[simp] theorem LogStore.lose_nextNumber (l : LogStore) : l.lose.nextNumber = l.nextNumber := rfl
@[simp] theorem LogStore.lose_lastWritten (l : LogStore) : l.lose.lastWritten = l.lastWritten := rfl

@[simp] theorem State.offer_pages (s : State) (ref driver : Nat) (x : Payload) :
    (s.offer ref driver x).log.pages = s.log.pages := by
  rcases s.offer_cases ref driver x with ⟨-, h⟩ | ⟨-, h⟩ <;> simp [h, State.admitEntry]
@[simp] theorem State.offer_paperCounter (s : State) (ref driver : Nat) (x : Payload) :
    (s.offer ref driver x).log.paperCounter = s.log.paperCounter := by
  rcases s.offer_cases ref driver x with ⟨-, h⟩ | ⟨-, h⟩ <;> simp [h, State.admitEntry]
theorem State.offer_engine (s : State) (ref driver : Nat) (x : Payload) :
    (s.offer ref driver x).log.engine.state = s.log.engine.state
      ∧ (s.offer ref driver x).log.engine.set = s.log.engine.set := by
  rcases s.offer_cases ref driver x with ⟨-, h⟩ | ⟨-, h⟩ <;> simp [h, State.admitEntry, LogStore.admit_engine]

/-- A requester entry is admitted where the store accepts it. -/
theorem LogStore.requesterRefusal_eq {l : LogStore} (h : l.accepts) : l.requesterRefusal = none := by
  unfold LogStore.requesterRefusal
  have h1 := h.1
  have h2 := h.2
  rw [if_neg (by simp only [Config.requesterQueue]; omega),
    if_neg (by simp only [Config.reserve]; omega)]

/-! ### The taking of pages, and completions -/

/-- The engine's test of a page, in the order of its checks (R161). -/
theorem LogStore.skips_eq (l : LogStore) (p : PageNo) : l.skips p = l.outcomeOf p := by
  unfold LogStore.skips LogStore.outcomeOf LogStore.exported
  generalize l.head = h
  generalize l.page p = x
  cases hs : x.state <;> cases hl : x.lastEntry <;> simp [Option.all]

/-- Pages taken in order: those before the first that is erased are skipped, that one is marked (R161). -/
theorem State.takePages_eq (order : List PageNo) : ∀ s : State, s.takePages order = s.pagesTaken order := by
  induction order with
  | nil => intro s; rfl
  | cons p rest ih =>
    intro s
    unfold State.takePages
    rw [LogStore.skips_eq]
    cases ho : s.log.outcomeOf p with
    | none =>
      unfold State.pagesTaken LogStore.beginErase
      have hq : (if (s.log.queue.isEmpty && !s.log.writing) = true then EngineState.erasing else .suspended) =
          (if s.log.queue = [] ∧ s.log.writing = false then EngineState.erasing else .suspended) := by simp
      simp only [List.takeWhile_cons, List.dropWhile_cons, ho, Option.isSome_none, Bool.false_eq_true,
        if_false, List.foldl_nil, hq]
      rfl
    | some o =>
      dsimp only
      rw [ih]
      unfold State.pagesTaken
      simp only [List.takeWhile_cons, List.dropWhile_cons, ho, Option.isSome_some, if_true, List.foldl_cons,
        Option.getD_some]
      rfl

/-- A completion leaves the log store, the phase and the rack link as they are. -/
theorem State.complete_frame (s : State) (e : Entry) :
    (s.complete e).log = s.log ∧ (s.complete e).phase = s.phase ∧ (s.complete e).rack = s.rack := by
  unfold State.complete
  split
  · exact ⟨rfl, rfl, rfl⟩
  · unfold State.completeFor
    split <;> (try split) <;> try exact ⟨rfl, rfl, rfl⟩
    unfold State.commit
    split <;> exact ⟨rfl, rfl, rfl⟩

end Sys2Proof.Machine
end

