-- ==== Sys2Proof/Laws/Order.lean ====
section
/-! SUPPORT. The order of the store and the export mark: what a write, an erase, the taking of a page, an admission
and a LOG_ACK make of them (R145 to R149, R154, R158, R161, R163). -/

namespace Sys2Proof.Machine

/-! ### The ring -/

theorem ringAfter_length (p : PageNo) : (ringAfter p).length = 64 := by simp [ringAfter]

theorem ringAfter_getElem (p : PageNo) (i : Nat) (h : i < (ringAfter p).length) :
    (ringAfter p)[i] = ⟨(p.val + 1 + i) % 64, Nat.mod_lt _ (by decide)⟩ := by simp [ringAfter]

theorem mem_ringAfter (p q : PageNo) : q ∈ ringAfter p := by
  rw [List.mem_iff_getElem]
  refine ⟨(q.val + 63 - p.val) % 64, by rw [ringAfter_length]; omega, ?_⟩
  rw [ringAfter_getElem]
  apply Fin.ext
  have := p.isLt; have := q.isLt
  simp only; omega

theorem ringAfter_nodup (p : PageNo) : (ringAfter p).Nodup := by
  unfold ringAfter
  refine List.Nodup.map_on ?_ List.nodup_range
  intro i hi j hj h
  rw [List.mem_range] at hi hj
  have := Fin.mk.inj h
  omega

theorem ringAfter_getElem? (p : PageNo) (i : Nat) :
    (ringAfter p)[i]? = if i < 64 then some ⟨(p.val + 1 + i) % 64, Nat.mod_lt _ (by decide)⟩ else none := by
  unfold ringAfter
  rw [List.getElem?_map]
  by_cases h : i < 64
  · rw [if_pos h, List.getElem?_range h]; rfl
  · rw [if_neg h, List.getElem?_eq_none (by simp; omega)]; rfl

/-- The ring after one page, from the ring after another: a rotation. -/
theorem ringAfter_rotate {t q : PageNo} {a b : List PageNo} (h : ringAfter t = a ++ q :: b) :
    ringAfter q = b ++ (a ++ [q]) := by
  have hl := congrArg List.length h
  rw [ringAfter_length] at hl
  simp at hl
  have hg : ∀ i, (a ++ q :: b)[i]? = if i < 64 then some ⟨(t.val + 1 + i) % 64, Nat.mod_lt _
      (by decide)⟩ else none := by
    intro i; rw [← h, ringAfter_getElem?]
  have hq := hg a.length
  rw [List.getElem?_append_right (Nat.le_refl _), Nat.sub_self, List.getElem?_cons_zero, if_pos
      (by omega)] at hq
  have hqv : q.val = (t.val + 1 + a.length) % 64 := congrArg Fin.val (Option.some.inj hq)
  apply List.ext_getElem?
  intro i
  rw [ringAfter_getElem?]
  by_cases hb : i < b.length
  · rw [List.getElem?_append_left hb, if_pos (by omega)]
    have := hg (a.length + 1 + i)
    rw [List.getElem?_append_right (by omega), show a.length + 1 + i - a.length = i + 1 by omega,
        List.getElem?_cons_succ, if_pos (by omega)] at this
    rw [this]; congr 1; apply Fin.ext; simp only [hqv]; omega
  · rw [List.getElem?_append_right (by omega)]
    by_cases ha : i - b.length < a.length
    · rw [List.getElem?_append_left ha, if_pos (by omega)]
      have := hg (i - b.length)
      rw [List.getElem?_append_left ha, if_pos (by omega)] at this
      rw [this]; congr 1; apply Fin.ext; simp only [hqv]; omega
    · rw [List.getElem?_append_right (by omega)]
      by_cases he : i < 64
      · rw [if_pos he, show i - b.length - a.length = 0 by omega, List.getElem?_cons_zero]
        congr 1; apply Fin.ext; simp only [hqv]; omega
      · rw [if_neg he, List.getElem?_eq_none (by simp; omega)]

theorem ringAfter_last (t : PageNo) : ringAfter t = (ringAfter t).dropLast ++ [t] := by
  have hne : ringAfter t ≠ [] := by intro h; have := ringAfter_length t; rw [h] at this; simp at this
  have := (List.dropLast_append_getLast hne).symm
  rw [this]; simp
  rw [List.getLast_eq_getElem, ringAfter_getElem]; apply Fin.ext; have := t.isLt; simp [ringAfter_length]; omega

theorem not_mem_dropLast (t : PageNo) : t ∉ (ringAfter t).dropLast := by
  have h := ringAfter_nodup t
  rw [ringAfter_last t, List.nodup_append] at h
  intro hm
  exact h.2.2 t hm t (by simp) rfl

theorem split_dropLast {t q : PageNo} {a b : List PageNo} (hr : ringAfter t = a ++ q :: b) :
    (q = t ∧ b = []) ∨ (q ≠ t ∧ ∃ b', b = b' ++ [t] ∧ (ringAfter t).dropLast = a ++ q :: b') := by
  have h1 := ringAfter_last t
  have hn := ringAfter_nodup t
  rw [hr] at hn
  by_cases hb : b = []
  · left; subst hb
    rw [hr] at h1
    have := congrArg List.getLast? h1
    simp at this; exact ⟨this, rfl⟩
  · right
    have hd : (ringAfter t).dropLast = a ++ q :: b.dropLast := by
      rw [hr, List.dropLast_append_of_ne_nil (by simp), List.dropLast_cons_of_ne_nil hb]
    rw [hd, hr] at h1
    have h2 := List.append_cancel_left (show a ++ (q :: b) = a ++ (q :: (b.dropLast ++ [t])) by rw [h1]; simp)
    have h3 := (List.cons.inj h2).2
    refine ⟨?_, b.dropLast, h3, hd⟩
    rintro rfl
    exact (List.nodup_cons.1 (List.nodup_append.1 hn).2.1).1 (by rw [h3]; simp)

/-- What the state of the pages makes of them: their slots suit their states, and at most one is FILLING
    (R145). -/
def LogStore.lawfulPages (l : LogStore) : Prop :=
  (∀ p, (l.page p).lawful)
    ∧ ∀ p q, (l.page p).state = .filling → (l.page q).state = .filling → p = q

theorem mem_page_entries (x : Page) (e : Entry) : e ∈ x.entries ↔ .entry e ∈ x.used := by
  unfold Page.entries
  rw [List.mem_filterMap]
  constructor
  · rintro ⟨u, hu, h⟩; cases u with
    | entry y => simp at h; subst h; exact hu
    | void => simp at h
  · intro h; exact ⟨_, h, rfl⟩

theorem entries_nil {x : Page} (h : x.used = []) : x.entries = [] := by simp [Page.entries, h]

theorem entries_append (st st' : PageState) (u v : List PageSlot) :
    (Page.entries ⟨st, u ++ v⟩) = Page.entries ⟨st', u⟩ ++ Page.entries ⟨st', v⟩ := by
  simp [Page.entries]

theorem entries_length (x : Page) : x.entries.length ≤ x.used.length := List.length_filterMap_le ..

/-- The entries of the pages of a list, in its order (R145). -/
def LogStore.along (l : LogStore) (ps : List PageNo) : List Entry := ps.flatMap fun p => (l.page p).entries

theorem along_append (l : LogStore) (a b : List PageNo) : l.along (a ++ b) = l.along a ++ l.along b := by
  simp [LogStore.along]
theorem along_cons (l : LogStore) (p) (b : List PageNo) : l.along (p :: b) =
    (l.page p).entries ++ l.along b := by
  simp [LogStore.along]
@[simp] theorem along_nil (l : LogStore) : l.along [] = [] := rfl

theorem along_empty (l : LogStore) (ps : List PageNo) (h : ∀ p ∈ ps, (l.page p).used = []) : l.along ps =
    [] := by
  induction ps with
  | nil => rfl
  | cons p ps ih => rw [along_cons, entries_nil (h p (by simp)), ih (fun q hq => h q (by simp [hq]))]; rfl

theorem along_congr (l m : LogStore) (ps : List PageNo) (h : ∀ p ∈ ps, l.page p = m.page p) : l.along ps =
    m.along ps := by
  induction ps with
  | nil => rfl
  | cons p ps ih => rw [along_cons, along_cons, h p (by simp), ih (fun q hq => h q (by simp [hq]))]

theorem inOrder_tail {l : LogStore} {t : PageNo} (h : l.tail = some t) : l.inOrder = l.along (ringAfter t) := by
  unfold LogStore.inOrder LogStore.along; rw [h]

theorem used_le {l : LogStore} (h : l.lawfulPages) (p : PageNo) : (l.page p).used.length ≤ 32 := by
  have := h.1 p
  unfold Page.lawful at this
  have h32 : Config.pageSlots = 32 := rfl
  split at this <;> simp_all <;> omega

theorem along_length {l : LogStore} (h : l.lawfulPages) (ps : List PageNo) :
    (l.along ps).length ≤ 32 * ps.length := by
  induction ps with
  | nil => simp
  | cons p ps ih =>
    rw [along_cons]; simp
    have := entries_length (l.page p); have := used_le h p; omega

theorem used_nil {l : LogStore} (h : l.lawfulPages) {p : PageNo}
    (hs : (l.page p).state = .free ∨ (l.page p).state = .bad) : (l.page p).used = [] := by
  have := h.1 p
  unfold Page.lawful at this
  rcases hs with hs | hs <;> rw [hs] at this <;> exact this

theorem filling_some {l : LogStore} (h : l.lawfulPages) {t} (ht : (l.page t).state = .filling) : l.filling =
    some t :=
  LogStore.filling_eq ht (fun q hq => h.2 q t hq ht)

theorem filling_none {l : LogStore} : l.filling = none ↔ ∀ p, (l.page p).state ≠ .filling := by
  constructor
  · intro h; have := l.filling_spec; rw [h] at this; exact this
  · intro h; cases hf : l.filling with
    | none => rfl
    | some p => have := l.filling_spec; rw [hf] at this; exact absurd this (h p)

theorem filling_state {l : LogStore} {t} (h : l.filling = some t) : (l.page t).state = .filling := by
  have := l.filling_spec; rw [h] at this; exact this

theorem tail_filling {l : LogStore} {t} (h : l.filling = some t) : l.tail = some t := by
  unfold LogStore.tail; rw [h]
theorem tail_nofill {l : LogStore} (h : l.filling = none) : l.tail = l.pageOf l.lastWritten := by
  unfold LogStore.tail; rw [h]

theorem numbersAfter_length (x n : Nat) : (numbersAfter x n).length = n := by simp [numbersAfter]

theorem numbersAfter_succ (x n : Nat) : numbersAfter x (n + 1) =
    numbersAfter x n ++ [(x + 1 + n) % Config.wrap32] := by
  unfold numbersAfter; rw [List.range_succ]; simp

theorem numbersAfter_add (x n m : Nat) : numbersAfter x (n + m) = numbersAfter x n ++ numbersAfter
    (x + n) m := by
  unfold numbersAfter
  rw [List.range_add]; simp
  intro a _; congr 1; omega

theorem numbersAfter_congr {x y : Nat} (n : Nat) (h : x % Config.wrap32 = y % Config.wrap32) :
    numbersAfter x n = numbersAfter y n := by
  unfold numbersAfter
  apply List.map_congr_left
  intro k _
  simp only [Config.wrap32] at *
  omega

theorem numbersAfter_nodup (x n : Nat) (h : n ≤ 4294967296) : (numbersAfter x n).Nodup := by
  unfold numbersAfter
  refine List.Nodup.map_on ?_ List.nodup_range
  intro i hi j hj hij
  rw [List.mem_range] at hi hj
  simp only [Config.wrap32] at hij
  omega

theorem usable_eq {l : LogStore} {t} (h : l.tail = some t) : l.usablePages =
    (((ringAfter t).takeWhile fun p => (l.page p).state == .free || (l.page p).state == .bad).countP fun p =>
        (l.page p).state == .free) := by
  unfold LogStore.usablePages; rw [h]

theorem head_eq {l : LogStore} {t} (h : l.tail = some t) : l.head = some
    (((ringAfter t).find? fun p => (l.page p).state.holds).getD t) := by
  unfold LogStore.head; rw [h]; dsimp only
  cases (ringAfter t).find? fun p => (l.page p).state.holds <;> rfl

/-- Before a head that holds entries the ring has FREE and BAD pages alone (R146). -/
theorem head_split {l : LogStore} (hp : l.lawfulPages) {t p} (h : l.tail = some t) (hh : l.head = some p)
    (hr : (l.page p).state.holds = true) :
    ∃ a b, ringAfter t = a ++ p :: b ∧ ∀ x ∈ a, (l.page x).state = .free ∨ (l.page x).state = .bad := by
  rw [head_eq h] at hh
  have hh := Option.some.inj hh
  cases hf : (ringAfter t).find? fun p => (l.page p).state.holds with
  | none =>
    have := List.find?_eq_none.1 hf p (mem_ringAfter t p)
    rw [hr] at this; simp at this
  | some x =>
    rw [hf] at hh; simp at hh; subst hh
    obtain ⟨h1, a, b, h2, h3⟩ := List.find?_eq_some_iff_append.1 hf
    refine ⟨a, b, h2, ?_⟩
    intro y hy
    have hy' := h3 y hy
    have hyt : y ≠ t := by
      intro e; subst e
      have hl := ringAfter_last y
      have : y ∉ a := by
        intro hya
        have hn := not_mem_dropLast y
        have : (ringAfter y).dropLast = a ++ (x :: b).dropLast := by
          rw [h2, List.dropLast_append_of_ne_nil (by simp)]
        rw [this] at hn; exact hn (by simp [hya])
      exact this hy
    have hnf : (l.page y).state ≠ .filling := by
      intro hyf
      rw [tail_filling (filling_some hp hyf)] at h
      exact hyt (Option.some.inj h)
    cases hs : (l.page y).state <;> simp_all [PageState.holds]

theorem usable_zero {l : LogStore} (h : ∀ p, (l.page p).state ≠ .free) : l.usablePages = 0 := by
  unfold LogStore.usablePages
  split
  · rfl
  · rw [List.countP_eq_zero]; intro p _; simpa using h p

theorem empty_zero {l : LogStore} (h : l.filling = none) : l.emptySlots = 0 := by
  unfold LogStore.emptySlots; rw [h]

theorem filling_of_queue {l : LogStore} (ho : l.Ordered) (hq : l.queue ≠ []) : ∃ t, l.filling = some t := by
  cases hf : l.filling with
  | some t => exact ⟨t, rfl⟩
  | none =>
    exfalso
    have hr := ho.room
    rw [empty_zero hf] at hr
    have : l.usablePages = 0 := by
      cases ht : l.tail with
      | none => unfold LogStore.usablePages; rw [ht]
      | some t => exact usable_zero (ho.full (by rw [ht]; simp) hf)
    rw [this] at hr
    cases hh : l.queue <;> simp_all

/-- The numbers of the entries once one more is written (R149). -/
theorem numbers_snoc {last n : Nat} (hl : last < Config.wrap32) (hn : n ≤ 4096) :
    numbersAfter (last + Config.wrap32 - n) n ++ [(last + 1) % Config.wrap32] =
      numbersAfter ((last + 1) % Config.wrap32 + Config.wrap32 - (n + 1)) (n + 1) := by
  rw [numbersAfter_succ]
  simp only [Config.wrap32] at *
  congr 1
  · apply numbersAfter_congr; simp only [Config.wrap32]; omega
  · congr 1; omega

/-- The numbers of the entries once the oldest are gone (R149). -/
theorem numbers_drop {last n m : Nat} (hl : last < Config.wrap32) (hn : m + n ≤ 4096) {a b : List Nat}
    (ha : a.length = m) (hb : b.length = n)
    (h : a ++ b = numbersAfter (last + Config.wrap32 - (m + n)) (m + n)) :
    b = numbersAfter (last + Config.wrap32 - n) n := by
  rw [numbersAfter_add] at h
  have := (List.append_inj h (by rw [ha, numbersAfter_length])).2
  rw [this]; apply numbersAfter_congr; simp only [Config.wrap32] at *; omega

theorem inOrder_length {l : LogStore} (hp : l.lawfulPages) : l.inOrder.length ≤ 2048 := by
  have hf : l.entries.length ≤ 2048 := by
    have := along_length hp (List.finRange 64)
    have h2 : l.entries = l.along (List.finRange 64) := rfl
    rw [h2]; simpa using this
  cases ht : l.tail with
  | none => unfold LogStore.inOrder; rw [ht]; exact hf
  | some t => rw [inOrder_tail ht]; have := along_length hp (ringAfter t); rw [ringAfter_length] at this; omega

theorem takeWhile_stop {α : Type} {f : α → Bool} {b : List α} {t : α} {c : List α} (h : f t = false) :
    (b ++ t :: c).takeWhile f = b.takeWhile f := by
  induction b with
  | nil => simp [h]
  | cons x b ih => rw [List.cons_append, List.takeWhile_cons, List.takeWhile_cons, ih]

/-- The FREE pages met along a list before the first that is neither FREE nor BAD (R147). -/
def LogStore.freeRun (l : LogStore) (ps : List PageNo) : Nat :=
  (ps.takeWhile fun p => (l.page p).state == .free || (l.page p).state == .bad).countP fun p =>
      (l.page p).state == .free

theorem freeRun_stop {l : LogStore} {b c : List PageNo} {t : PageNo} (h1 : (l.page t).state ≠ .free)
    (h2 : (l.page t).state ≠ .bad) :
    l.freeRun (b ++ t :: c) = l.freeRun b := by
  unfold LogStore.freeRun
  rw [takeWhile_stop (by simp [h1, h2])]

theorem freeRun_congr {l m : LogStore} : ∀ {ps : List PageNo}, (∀ p ∈ ps, (m.page p).state = (l.page p).state)
    → m.freeRun ps = l.freeRun ps := by
  intro ps
  unfold LogStore.freeRun
  induction ps with
  | nil => intro _; rfl
  | cons x ps ih =>
    intro h
    rw [List.takeWhile_cons, List.takeWhile_cons, h x (by simp)]
    split
    · rw [List.countP_cons, List.countP_cons, h x (by simp), ih (fun p hp => h p (by simp [hp]))]
    · rfl

theorem freeRun_bad {l : LogStore} {a c : List PageNo} (ha : ∀ p ∈ a, (l.page p).state = .bad) : l.freeRun
    (a ++ c) = l.freeRun c := by
  unfold LogStore.freeRun
  induction a with
  | nil => rfl
  | cons x a ih =>
    rw [List.cons_append, List.takeWhile_cons_of_pos (by rw [ha x (by simp)]; rfl), List.countP_cons_of_neg
        (by rw [ha x (by simp)]; decide)]
    exact ih (fun p hp => ha p (by simp [hp]))

theorem freeRun_free {l : LogStore} {q : PageNo} {c : List PageNo} (hq : (l.page q).state = .free) : l.freeRun
    (q :: c) = 1 + l.freeRun c := by
  unfold LogStore.freeRun
  rw [List.takeWhile_cons_of_pos (by rw [hq]; rfl), List.countP_cons_of_pos (by rw [hq]; rfl)]; omega

theorem usable_run {l : LogStore} {t} (h : l.tail = some t) : l.usablePages = l.freeRun (ringAfter t) := by
  rw [usable_eq h]; rfl

theorem along_dropLast_snoc {l m : LogStore} {t} (h : ∀ p, p ≠ t → (m.page p).entries = (l.page p).entries) :
    m.along (ringAfter t).dropLast = l.along (ringAfter t).dropLast := by
  have : ∀ ps : List PageNo, t ∉ ps → m.along ps = l.along ps := by
    intro ps
    induction ps with
    | nil => intro _; rfl
    | cons p ps ih =>
      intro hp; simp at hp
      rw [along_cons, along_cons, h p (fun e => hp.1 e.symm), ih hp.2]
  exact this _ (not_mem_dropLast t)

theorem pairwise_congr {l m : LogStore} {ps : List PageNo} (h : ∀ p ∈ ps, (m.page p).state = (l.page p).state)
    (hp : ps.Pairwise fun p q => (l.page p).state.holds = true → (l.page q).state ≠ .free) :
    ps.Pairwise fun p q => (m.page p).state.holds = true → (m.page q).state ≠ .free := by
  induction ps with
  | nil => exact List.Pairwise.nil
  | cons a ps ih =>
    rw [List.pairwise_cons] at hp ⊢
    refine ⟨?_, ih (fun p hp => h p (by simp [hp])) hp.2⟩
    intro q hq; rw [h a (by simp), h q (by simp [hq])]; exact hp.1 q hq

theorem find_congr {l m : LogStore} {ps : List PageNo} (h : ∀ p ∈ ps, (m.page p).state.holds =
    (l.page p).state.holds) :
    (ps.find? fun p => (m.page p).state.holds) = ps.find? fun p => (l.page p).state.holds := by
  induction ps with
  | nil => rfl
  | cons a ps ih => rw [List.find?_cons, List.find?_cons, h a (by simp), ih (fun p hp => h p (by simp [hp]))]

/-- The FILLING page takes an entry and keeps an empty slot: the order stands (R146, R149). -/
theorem ordered_fill {l m : LogStore} (hp : l.lawfulPages) (ho : l.Ordered) {t : PageNo} {e : Entry} {rest :
    List Entry}
    (hf : l.filling = some t) (hs : e.seq = (l.lastWritten + 1) % Config.wrap32) (hq : l.queue = e :: rest)
    (hm : ∀ p, m.page p = if p = t then ⟨.filling, (l.page t).used ++ [.entry e]⟩ else l.page p)
    (hu : (l.page t).used.length < 31)
    (hml : m.lastWritten = e.seq) (hme : m.engine = l.engine) (hmq : m.queue = rest) :
    m.Ordered ∧ m.inOrder = l.inOrder ++ [e] := by
  have hst : ∀ p, (m.page p).state = (l.page p).state := by
    intro p; rw [hm]; split
    · rename_i h; rw [h, filling_state hf]
    · rfl
  have hmf : m.filling = some t := by
    unfold LogStore.filling; simp only [hst]; exact hf
  have hmt := tail_filling hmf
  have hlt := tail_filling hf
  have hin : m.inOrder = l.inOrder ++ [e] := by
    rw [inOrder_tail hmt, inOrder_tail hlt, ringAfter_last t, along_append, along_append, along_cons,
        along_cons,
      along_dropLast_snoc (l := l) (m := m) (by intro p h; rw [hm, if_neg h])]
    simp
    rw [hm, if_pos rfl, entries_append _ (l.page t).state]
    rfl
  have hlen := inOrder_length hp
  refine ⟨?_, hin⟩
  constructor
  · rw [hml, hs]; exact Nat.mod_lt _ (by decide)
  · rw [hin, List.map_append, ho.numbers, hml]
    show _ ++ [e.seq] = _
    rw [hs, numbers_snoc ho.last (by omega)]
    simp
  · intro t' ht'; rw [hmt] at ht'; injection ht' with ht'; subst ht'
    exact pairwise_congr (fun p _ => hst p) (ho.freeFirst t hlt)
  · intro _ h; rw [hmf] at h; cases h
  · intro p h; rw [hst] at h
    rw [head_eq hmt, ← ho.oldest p h, head_eq hlt]
    simp only [hst]
  · rw [hme]; intro h; obtain ⟨p, r, h1, h2⟩ := ho.working h; exact ⟨p, r, h1, by rw [hst]; exact h2⟩
  · have h1 := ho.room
    have hu' : m.usablePages = l.usablePages := by
      rw [usable_eq hmt, usable_eq hlt]; simp only [hst]
    have he : l.emptySlots = 32 - (l.page t).used.length := by unfold LogStore.emptySlots; rw [hf]; rfl
    have he' : m.emptySlots = 32 - ((l.page t).used.length + 1) := by
      unfold LogStore.emptySlots; rw [hmf]; dsimp only; rw [hm, if_pos rfl]; simp [Config.pageSlots]
    rw [hmq, hu', he']; rw [hq, he] at h1; simp at h1; omega

/-- The FILLING page takes its last entry and the next page, FREE, is FILLING: the order stands (R146, R149). -/
theorem ordered_next {l m : LogStore} (hp : l.lawfulPages) (ho : l.Ordered) {t q : PageNo} {e : Entry} {rest :
    List Entry}
    {a b : List PageNo}
    (hf : l.filling = some t) (hs : e.seq = (l.lastWritten + 1) % Config.wrap32) (hq : l.queue = e :: rest)
    (hr : ringAfter t = a ++ q :: b) (ha : ∀ p ∈ a, (l.page p).state = .bad) (hqf : (l.page q).state = .free)
    (hm : ∀ p, m.page p = if p = q then ⟨.filling, (l.page q).used⟩ else if p = t then ⟨.full,
        (l.page t).used ++ [.entry e]⟩ else l.page p)
    (hu : (l.page t).used.length = 31)
    (hml : m.lastWritten = e.seq) (hme : m.engine = l.engine) (hmq : m.queue = rest) :
    m.Ordered ∧ m.inOrder = l.inOrder ++ [e] := by
  have hqt : q ≠ t := by intro h; rw [h, filling_state hf] at hqf; cases hqf
  have hnd := ringAfter_nodup t
  obtain ⟨b', rfl, hrd⟩ : ∃ b', b = b' ++ [t] ∧ (ringAfter t).dropLast = a ++ q :: b' := by
    rcases split_dropLast hr with ⟨h, _⟩ | ⟨_, h⟩
    · exact absurd h hqt
    · exact h
  rw [hr] at hnd
  have hta : t ∉ a := by intro h; rw [List.nodup_append] at hnd; exact hnd.2.2 t h t (by simp) rfl
  have hqa : q ∉ a := by intro h; rw [List.nodup_append] at hnd; exact hnd.2.2 q h q (by simp) rfl
  have hnd2 := (List.nodup_append.1 hnd).2.1
  rw [List.nodup_cons] at hnd2
  have hqb : q ∉ b' := fun h => hnd2.1 (by simp [h])
  have htb : t ∉ b' := by intro h; have := (List.nodup_append.1 hnd2.2).2.2 t h t (by simp); exact this rfl
  have hrq := ringAfter_rotate hr
  have hpa : ∀ p ∈ a, m.page p = l.page p := by
    intro p h; rw [hm, if_neg (fun e' : p = q => hqa (e' ▸ h)), if_neg (fun e' : p = t => hta (e' ▸ h))]
  have hpb : ∀ p ∈ b', m.page p = l.page p := by
    intro p h; rw [hm, if_neg (fun e' : p = q => hqb (e' ▸ h)), if_neg (fun e' : p = t => htb (e' ▸ h))]
  have hmq' : m.page q = ⟨.filling, (l.page q).used⟩ := by rw [hm, if_pos rfl]
  have hmt' : m.page t = ⟨.full, (l.page t).used ++ [.entry e]⟩ := by rw [hm, if_neg (Ne.symm hqt), if_pos rfl]
  have huniq : ∀ p, (m.page p).state = .filling → p = q := by
    intro p h; rw [hm] at h
    split at h
    · assumption
    · split at h
      · cases h
      · rename_i h1 h2; exact absurd (hp.2 p t h (filling_state hf)) h2
  have hmf : m.filling = some q := LogStore.filling_eq (by rw [hmq']) huniq
  have hmt := tail_filling hmf
  have hlt := tail_filling hf
  have huq := used_nil hp (Or.inl hqf)
  have hea : ∀ p ∈ a, (l.page p).used = [] := fun p h => used_nil hp (Or.inr (ha p h))
  have hin : m.inOrder = l.inOrder ++ [e] := by
    rw [inOrder_tail hmt, inOrder_tail hlt, hrq, hr]
    rw [along_append, along_append, along_append, along_append, along_cons, along_cons, along_cons,
        along_append, along_cons]
    rw [along_empty l a hea, along_empty m a (fun p h => by rw [hpa p h]; exact hea p h),
        along_congr m l b' hpb, hmq', hmt',
      entries_nil (x := l.page q) huq, entries_nil (x := ⟨.filling, (l.page q).used⟩) huq, entries_append _
          (l.page t).state]
    simp
    rfl
  have hlen := inOrder_length hp
  have hff := ho.freeFirst t hlt
  rw [hrd, List.pairwise_append, List.pairwise_cons] at hff
  have hrqd : (ringAfter q).dropLast = b' ++ (t :: a) := by
    rw [hrq, show b' ++ [t] ++ (a ++ [q]) = (b' ++ t :: a) ++ [q] by simp, List.dropLast_concat]
  refine ⟨?_, hin⟩
  constructor
  · rw [hml, hs]; exact Nat.mod_lt _ (by decide)
  · rw [hin, List.map_append, ho.numbers, hml]
    show _ ++ [e.seq] = _
    rw [hs, numbers_snoc ho.last (by omega)]
    simp
  · intro t' ht'; rw [hmt] at ht'; injection ht' with ht'; subst ht'
    rw [hrqd, List.pairwise_append]
    have hnt : ∀ x, x ∈ (t :: a) → (m.page x).state ≠ .free := by
      intro x hx; rcases List.mem_cons.1 hx with rfl | hx
      · rw [hmt']; simp
      · rw [hpa x hx, ha x hx]; simp
    refine ⟨pairwise_congr (fun p h => by rw [hpb p h]) hff.2.1.2, ?_, fun x _ y hy _ => hnt y hy⟩
    have : ∀ ps : List PageNo, (∀ x ∈ ps, (m.page x).state ≠ .free) → ps.Pairwise fun p q =>
        (m.page p).state.holds = true → (m.page q).state ≠ .free := by
      intro ps h; rw [List.pairwise_iff_forall_sublist]
      intro x y hxy _; exact h y (hxy.subset (by simp))
    exact this _ hnt
  · intro _ h; rw [hmf] at h; cases h
  · intro p h
    have hpq : p ≠ q := by intro e; rw [e, hmq'] at h; cases h
    have hpt : p ≠ t := by intro e; rw [e, hmt'] at h; cases h
    have hl : (l.page p).state = .reclaiming := by rw [hm, if_neg hpq, if_neg hpt] at h; exact h
    have hpna : p ∉ a := by intro hx; rw [ha p hx] at hl; cases hl
    have hpm : p ∈ b' := by
      have := mem_ringAfter t p; rw [hr] at this; simp [hpna, hpq, hpt] at this; exact this
    have hh := ho.oldest p hl
    rw [head_eq hlt, hr] at hh
    have hna : (a.find? fun x => (l.page x).state.holds) = none := by
      rw [List.find?_eq_none]; intro x hx; rw [ha x hx]; simp [PageState.holds]
    rw [List.find?_append, hna, Option.none_or, List.find?_cons,
        show (l.page q).state.holds = false by rw [hqf]; rfl] at hh
    dsimp only at hh
    rw [head_eq hmt, hrq]
    rw [List.find?_append] at hh ⊢
    rw [List.find?_append, find_congr (l := l) (m := m) (fun x hx => by rw [hpb x hx])]
    cases hb : b'.find? fun x => (l.page x).state.holds with
    | none =>
      have := List.find?_eq_none.1 hb p hpm
      rw [hl] at this; simp [PageState.holds] at this
    | some x => rw [hb] at hh; simpa using hh
  · rw [hme]; intro h; obtain ⟨p, r, h1, h2⟩ := ho.working h
    refine ⟨p, r, h1, ?_⟩
    rw [hm, if_neg (by intro e; rw [e, hqf] at h2; cases h2), if_neg
        (by intro e; rw [e, filling_state hf] at h2; cases h2)]; exact h2
  · have h1 := ho.room
    have he : l.emptySlots = 1 := by unfold LogStore.emptySlots; rw [hf]; dsimp only; rw [hu]; rfl
    have he' : m.emptySlots = 32 := by
      unfold LogStore.emptySlots; rw [hmf]; dsimp only; rw [hmq', huq]; simp [Config.pageSlots]
    have hu1 : l.usablePages = 1 + m.usablePages := by
      rw [usable_run hlt, usable_run hmt, hr, hrq, freeRun_bad ha, freeRun_free hqf,
        freeRun_stop (by rw [filling_state hf]; simp) (by rw [filling_state hf]; simp),
        show b' ++ [t] ++ (a ++ [q]) = b' ++ t :: (a ++ [q]) by simp,
        freeRun_stop (by rw [hmt']; simp) (by rw [hmt']; simp), freeRun_congr (l := l) (m := m)
            (fun p h => by rw [hpb p h])]
    rw [hmq, he']; rw [hq, he, hu1] at h1; simp [Config.pageSlots] at h1 ⊢; omega

theorem mem_along {l : LogStore} {ps : List PageNo} {e : Entry} : e ∈ l.along ps ↔ ∃ p ∈ ps, e ∈
    (l.page p).entries := by
  unfold LogStore.along; rw [List.mem_flatMap]

theorem pageOf_some {l : LogStore} {n : Nat} {p : PageNo} (h : l.pageOf n = some p) : ∃ e ∈ (l.page p).entries,
    e.seq = n := by
  have := List.find?_some h
  rw [List.any_eq_true] at this
  obtain ⟨e, h1, h2⟩ := this
  exact ⟨e, h1, by simpa using h2⟩

theorem pageOf_unique {l : LogStore} {n : Nat} {p : PageNo} (h : ∃ e ∈ (l.page p).entries, e.seq = n)
    (hu : ∀ q e, e ∈ (l.page q).entries → e.seq = n → q = p) : l.pageOf n = some p := by
  cases hf : l.pageOf n with
  | none =>
    have := List.find?_eq_none.1 hf p (List.mem_finRange p)
    obtain ⟨e, h1, h2⟩ := h
    exact absurd (List.any_eq_true.2 ⟨e, h1, by simpa using h2⟩) this
  | some q =>
    obtain ⟨e, h1, h2⟩ := pageOf_some hf
    rw [hu q e h1 h2]

/-- The FILLING page takes its last entry and no page is FREE after it: the order stands (R146, R149). -/
theorem ordered_stop {l m : LogStore} (hp : l.lawfulPages) (ho : l.Ordered) {t q : PageNo} {e : Entry} {rest :
    List Entry}
    {a b : List PageNo}
    (hf : l.filling = some t) (hs : e.seq = (l.lastWritten + 1) % Config.wrap32) (hq : l.queue = e :: rest)
    (hr : ringAfter t = a ++ q :: b) (ha : ∀ p ∈ a, (l.page p).state = .bad)
        (hqf : q = t ∨ ((l.page q).state ≠ .free ∧ (l.page q).state ≠ .bad))
    (hm : ∀ p, m.page p = if p = t then ⟨.full, (l.page t).used ++ [.entry e]⟩ else l.page p)
    (hu : (l.page t).used.length = 31)
    (hml : m.lastWritten = e.seq) (hme : m.engine = l.engine) (hmq : m.queue = rest) :
    m.Ordered ∧ m.inOrder = l.inOrder ++ [e] := by
  have hft := filling_state hf
  have hmt' : m.page t = ⟨.full, (l.page t).used ++ [.entry e]⟩ := by rw [hm, if_pos rfl]
  have hlt := tail_filling hf
  have hlen := inOrder_length hp
  have hal : m.along (ringAfter t) = l.inOrder ++ [e] := by
    rw [inOrder_tail hlt, ringAfter_last t, along_append, along_append, along_cons, along_cons,
      along_dropLast_snoc (l := l) (m := m) (by intro p h; rw [hm, if_neg h]), hmt', entries_append _
          (l.page t).state]
    simp; rfl
  have hnum : (m.along (ringAfter t)).map Entry.seq = numbersAfter
      (e.seq + Config.wrap32 - (l.inOrder.length + 1)) (l.inOrder.length + 1) := by
    rw [hal, List.map_append, ho.numbers]
    show _ ++ [e.seq] = _
    rw [hs, numbers_snoc ho.last (by omega)]
  -- the entry's number stands on that page alone
  have hmf : m.filling = none := by
    rw [filling_none]; intro p h; rw [hm] at h; split at h
    · cases h
    · rename_i h1; exact h1 (hp.2 p t h hft)
  have hnd : ((m.along (ringAfter t)).map Entry.seq).Nodup := by
    rw [hnum]; exact numbersAfter_nodup _ _ (by omega)
  have hmt : m.tail = some t := by
    rw [tail_nofill hmf, hml]
    apply pageOf_unique
    · refine ⟨e, ?_, rfl⟩; rw [mem_page_entries, hmt']; simp
    · intro p f hfe hfs
      by_cases hpt : p = t
      · exact hpt
      · exfalso
        have hpd : p ∈ (ringAfter t).dropLast := by
          have := mem_ringAfter t p; rw [ringAfter_last t] at this; simpa [hpt] using this
        rw [ringAfter_last t, along_append, List.map_append, List.nodup_append] at hnd
        refine hnd.2.2 f.seq (List.mem_map.2 ⟨f, mem_along.2 ⟨p, hpd, hfe⟩, rfl⟩) e.seq
            (List.mem_map.2 ⟨e, ?_, rfl⟩) hfs
        rw [mem_along]; exact ⟨t, by simp, by rw [mem_page_entries, hmt']; simp⟩
  have hin : m.inOrder = l.inOrder ++ [e] := by rw [inOrder_tail hmt, hal]
  have hff := ho.freeFirst t hlt
  have hdl : ∀ p ∈ (ringAfter t).dropLast, m.page p = l.page p := by
    intro p h; rw [hm, if_neg]; intro e'; subst e'; exact not_mem_dropLast p h
  have hnf : ∀ p ≠ t, (l.page p).state ≠ .free := by
    intro p hpt hfree
    have hpa : p ∉ a := by intro h; rw [ha p h] at hfree; cases hfree
    have hpm := mem_ringAfter t p
    rw [hr] at hpm
    rcases split_dropLast hr with ⟨_, rfl⟩ | ⟨hqt, b', rfl, hd⟩
    · rcases hqf with rfl | ⟨h1, _⟩
      · simp [hpa, hpt] at hpm
      · have hpq : p ≠ q := by rintro rfl; exact h1 hfree
        simp [hpa, hpq] at hpm
    · obtain ⟨h1, h2⟩ := hqf.resolve_left hqt
      have hpq : p ≠ q := by rintro rfl; exact h1 hfree
      have hqh : (l.page q).state.holds = true := by
        have : (l.page q).state ≠ .filling := fun h => hqt (hp.2 q t h hft)
        cases hs : (l.page q).state <;> simp_all [PageState.holds]
      rw [hd, List.pairwise_append, List.pairwise_cons] at hff
      exact hff.2.1.1 p (by simpa [hpa, hpq, hpt] using hpm) hqh hfree
  refine ⟨?_, hin⟩
  constructor
  · rw [hml, hs]; exact Nat.mod_lt _ (by decide)
  · rw [hin, hml, ← hal, hnum, hal]; simp
  · intro t' ht'; rw [hmt] at ht'; injection ht' with ht'; subst ht'
    exact pairwise_congr (fun p h => by rw [hdl p h]) hff
  · intro _ _ p h; rw [hm] at h; split at h
    · cases h
    · rename_i h1; exact hnf p h1 h
  · intro p h
    have hpt : p ≠ t := by intro e'; rw [e', hmt'] at h; cases h
    have hl : (l.page p).state = .reclaiming := by rw [hm, if_neg hpt] at h; exact h
    have hpd : p ∈ (ringAfter t).dropLast := by
      have := mem_ringAfter t p; rw [ringAfter_last t] at this; simpa [hpt] using this
    have hh := ho.oldest p hl
    rw [head_eq hlt, ringAfter_last t, List.find?_append] at hh
    rw [head_eq hmt, ringAfter_last t, List.find?_append, find_congr (l := l) (m := m)
        (fun x hx => by rw [hdl x hx])]
    cases hb : (ringAfter t).dropLast.find? fun x => (l.page x).state.holds with
    | none =>
      have := List.find?_eq_none.1 hb p hpd
      rw [hl] at this; simp [PageState.holds] at this
    | some x => rw [hb] at hh; simpa using hh
  · rw [hme]; intro h; obtain ⟨p, r, h1, h2⟩ := ho.working h
    refine ⟨p, r, h1, ?_⟩
    rw [hm, if_neg (by intro e'; rw [e', hft] at h2; cases h2)]; exact h2
  · have h1 := ho.room
    have he : l.emptySlots = 1 := by unfold LogStore.emptySlots; rw [hf]; dsimp only; rw [hu]; rfl
    have hu1 : l.usablePages = 0 := by
      unfold LogStore.usablePages; rw [hlt]; dsimp only
      rw [List.countP_eq_zero]; intro p hpm
      have : p ≠ t ∨ p = t := by tauto
      rcases this with h | h
      · simpa using hnf p h
      · rw [h, hft]; simp
    rw [hmq]; rw [hq, he, hu1] at h1; simp at h1
    rw [h1]; simp

/-- A write completion keeps the order of the store, and its entry stands last (R146, R149, R154). -/
theorem written_ordered {l : LogStore} (hp : l.lawfulPages) (ho : l.Ordered) {e : Entry} {rest : List Entry}
    (hs : e.seq = (l.lastWritten + 1) % Config.wrap32) (hq : l.queue = e :: rest) :
    (l.written e rest).Ordered ∧ (l.written e rest).inOrder = l.inOrder ++ [e] := by
  obtain ⟨t, hf⟩ := filling_of_queue ho (by rw [hq]; simp)
  have hft := filling_state hf
  have hlt : (l.page t).used.length < 32 := by
    have := hp.1 t; unfold Page.lawful at this; rw [hft] at this; exact this
  generalize hm : l.written e rest = m
  have hml : m.lastWritten = e.seq := by rw [← hm]; rfl
  have hmq : m.queue = rest := by rw [← hm]; rfl
  unfold LogStore.written at hm
  rw [hf] at hm; dsimp only at hm
  by_cases hu : (l.page t).used.length < 31
  · refine ordered_fill hp ho hf hs hq ?_ hu hml ?_ hmq
    · intro p; rw [← hm]
      unfold LogStore.rollOver
      rw [LogStore.page_setPage_self, if_neg (by simp [Config.pageSlots]; omega)]
      exact LogStore.page_setPage ..
    · rw [← hm]; unfold LogStore.rollOver; rw [LogStore.page_setPage_self, if_neg
          (by simp [Config.pageSlots]; omega)]; rfl
  · have hu : (l.page t).used.length = 31 := by omega
    unfold LogStore.rollOver at hm
    rw [LogStore.page_setPage_self, if_pos (by simp [Config.pageSlots]; omega)] at hm
    dsimp only at hm
    generalize hx : (l.setPage t ⟨.filling, (l.page t).used ++ [.entry e]⟩).setPage t ⟨.full,
        (l.page t).used ++ [.entry e]⟩ = x at hm
    have hxp : ∀ p, x.page p = if p = t then ⟨.full, (l.page t).used ++ [.entry e]⟩ else l.page p := by
      intro p; rw [← hx, LogStore.page_setPage, LogStore.page_setPage]; split <;> rfl
    unfold LogStore.fillNext at hm
    cases hn : x.nextPage t with
    | none =>
      have := List.find?_eq_none.1 hn t (mem_ringAfter t t)
      rw [hxp, if_pos rfl] at this; simp at this
    | some q =>
      obtain ⟨h1, a, b, h2, h3⟩ := List.find?_eq_some_iff_append.1 hn
      have hat : t ∉ a := by intro h; have := h3 t h; rw [hxp, if_pos rfl] at this; simp at this
      have ha : ∀ p ∈ a, (l.page p).state = .bad := by
        intro p h; have := h3 p h; rw [hxp, if_neg (fun e' : p = t => hat (e' ▸ h))] at this; simpa using this
      rw [hn] at hm; dsimp only at hm
      by_cases hqf : (x.page q).state = .free
      · rw [if_pos hqf] at hm
        have hqt : q ≠ t := by intro e'; rw [e', hxp, if_pos rfl] at hqf; cases hqf
        have hxq : x.page q = l.page q := by rw [hxp, if_neg hqt]
        rw [hxq] at hm hqf
        refine ordered_next hp ho hf hs hq h2 ha hqf ?_ hu hml ?_ hmq
        · intro p; rw [← hm]; show (x.setPage q _).page p = _
          rw [LogStore.page_setPage, hxp]
        · rw [← hm, ← hx]; rfl
      · rw [if_neg hqf] at hm
        refine ordered_stop hp ho hf hs hq h2 ha ?_ ?_ hu hml ?_ hmq
        · by_cases hqt : q = t
          · exact Or.inl hqt
          · right; rw [hxp, if_neg hqt] at hqf h1; exact ⟨hqf, by simpa using h1⟩
        · intro p; rw [← hm]; exact hxp p
        · rw [← hm, ← hx]; rfl

/-- A page whose erase has ended, FREE, FILLING or BAD, leaves the store in order without its entries
    (R146, R163). -/
theorem cleared_ordered {l m : LogStore} (hp : l.lawfulPages) (ho : l.Ordered) {p : PageNo} {st : PageState}
    (hpr : (l.page p).state = .reclaiming)
    (hm : ∀ x, m.page x = if x = p then ⟨st, []⟩ else l.page x)
    (hst : (st = .free ∧ l.filling ≠ none) ∨ (st = .filling ∧ l.filling = none) ∨ st = .bad)
    (hml : m.lastWritten = l.lastWritten) (hmq : m.queue = l.queue) (hme : m.engine = Engine.idle) :
    m.Ordered ∧ (∀ x, (m.page x).state ≠ .reclaiming) ∧ l.inOrder = (l.page p).entries ++ m.inOrder := by
  have hh := ho.oldest p hpr
  obtain ⟨t, ht⟩ : ∃ t, l.tail = some t := by
    cases ht : l.tail with
    | some t => exact ⟨t, rfl⟩
    | none => unfold LogStore.head at hh; rw [ht] at hh; cases hh
  obtain ⟨a, b, hr, ha⟩ := head_split hp ht hh (by rw [hpr]; rfl)
  have hnd := ringAfter_nodup t
  rw [hr] at hnd
  have hpa : p ∉ a := by intro h; exact (List.nodup_append.1 hnd).2.2 p h p (by simp) rfl
  have hpb : p ∉ b := (List.nodup_cons.1 (List.nodup_append.1 hnd).2.1).1
  have hma : ∀ x ∈ a, m.page x = l.page x := by intro x h; rw [hm, if_neg (fun e : x = p => hpa (e ▸ h))]
  have hmb : ∀ x ∈ b, m.page x = l.page x := by intro x h; rw [hm, if_neg (fun e : x = p => hpb (e ▸ h))]
  have hmp : m.page p = ⟨st, []⟩ := by rw [hm, if_pos rfl]
  have hae : l.along a = [] := along_empty l a (fun x h => used_nil hp (ha x h))
  have hae' : m.along a = [] := along_empty m a (fun x h => by rw [hma x h]; exact used_nil hp (ha x h))
  have hbe : m.along b = l.along b := along_congr m l b hmb
  have hlo : l.inOrder = (l.page p).entries ++ l.along b := by
    rw [inOrder_tail ht, hr, along_append, along_cons, hae]; rfl
  have hnr : ∀ x, (m.page x).state ≠ .reclaiming := by
    intro x h; rw [hm] at h
    split at h
    · dsimp only at h; rcases hst with h1 | h1 | h1 <;> simp_all
    · rename_i hx; have := ho.oldest x h; rw [hh] at this; exact hx (Option.some.inj this).symm
  have hlen := inOrder_length hp
  -- the numbers of what is left
  have hnum : (l.along b).map Entry.seq = numbersAfter (l.lastWritten + Config.wrap32 - (l.along b).length)
      (l.along b).length := by
    have h := ho.numbers
    rw [hlo, List.map_append, List.length_append] at h
    rw [hlo, List.length_append] at hlen
    exact numbers_drop ho.last (m := (l.page p).entries.length) (by omega) (by simp) (by simp) h
  have hff := ho.freeFirst t ht
  have huniqf : ∀ x y, (m.page x).state = .filling → (m.page y).state = .filling → x = y := by
    intro x y hx hy
    rcases hst with ⟨h1, _⟩ | ⟨h1, h2⟩ | h1
    · rw [hm] at hx hy; subst h1
      split at hx <;> [cases hx; skip]
      split at hy <;> [cases hy; skip]
      exact hp.2 x y hx hy
    · have := filling_none.1 h2
      rw [hm] at hx hy
      split at hx
      · split at hy
        · simp_all
        · exact absurd hy (this y)
      · exact absurd hx (this x)
    · rw [hm] at hx hy; subst h1
      split at hx <;> [cases hx; skip]
      split at hy <;> [cases hy; skip]
      exact hp.2 x y hx hy
  -- the positions after it, by case
  have main : (∃ t', m.tail = some t' ∧ m.along (ringAfter t') = l.along b
        ∧ ((ringAfter t').dropLast.Pairwise fun x y => (m.page x).state.holds = true → (m.page y).state ≠ .free)
        ∧ (m.filling = none → ∀ x, (m.page x).state ≠ .free)
        ∧ m.queue.length ≤ m.emptySlots + Config.pageSlots * m.usablePages)
      ∨ (m.tail = none ∧ (∀ x, (m.page x).used = []) ∧ b = [] ∧ m.queue = []) := by
    cases hf : l.filling with
    | some t0 =>
      have : t0 = t := by rw [tail_filling hf] at ht; exact Option.some.inj ht
      subst this
      have hft := filling_state hf
      have htp : t0 ≠ p := by intro e; rw [e, hpr] at hft; cases hft
      have hnst : st ≠ .filling := by rcases hst with ⟨h, _⟩ | ⟨_, h⟩ | h <;> simp_all
      have hmf : m.filling = some t0 := LogStore.filling_eq (by rw [hm, if_neg htp]; exact hft)
          (fun q hq => huniqf q t0 hq (by rw [hm, if_neg htp]; exact hft))
      have hmt := tail_filling hmf
      obtain ⟨hpt, b', hb', hd⟩ : p ≠ t0 ∧ ∃ b', b = b' ++ [t0] ∧ (ringAfter t0).dropLast = a ++ p :: b' := by
        rcases split_dropLast hr with ⟨h, _⟩ | h
        · exact absurd h.symm htp
        · exact h
      refine Or.inl ⟨t0, hmt, ?_, ?_, ?_, ?_⟩
      · rw [hr, along_append, along_cons, hae', hbe, hmp]; rfl
      · rw [hd] at hff ⊢
        rw [List.pairwise_append, List.pairwise_cons] at hff ⊢
        refine ⟨pairwise_congr (fun x h => by rw [hma x h]) hff.1,
            ⟨?_, pairwise_congr (fun x h => by rw [hmb x (by rw [hb']; simp [h])]) hff.2.1.2⟩, ?_⟩
        · intro y hy h; rw [hmp] at h
          rcases hst with ⟨h1, _⟩ | ⟨h1, _⟩ | h1 <;> subst h1 <;> cases h
        · intro x hx y hy h; rw [hma x hx] at h
          rcases ha x hx with h1 | h1 <;> rw [h1] at h <;> cases h
      · intro h; rw [hmf] at h; cases h
      · have h1 := ho.room
        have he : m.emptySlots = l.emptySlots := by
          unfold LogStore.emptySlots; rw [hmf, hf]; dsimp only; rw [hm, if_neg htp]
        have hu : l.usablePages ≤ m.usablePages := by
          rw [usable_run ht, usable_run hmt, hr, freeRun_stop (by rw [hpr]; simp) (by rw [hpr]; simp)]
          rw [← freeRun_congr (l := l) (m := m) (fun x h => by rw [hma x h])]
          unfold LogStore.freeRun
          rw [List.takeWhile_append]
          split
          · rw [List.countP_append]
            have : a.takeWhile (fun p => (m.page p).state == .free || (m.page p).state == .bad) = a := by
              rw [List.takeWhile_eq_self_iff]; intro x hx; rw [hma x hx];
                  rcases ha x hx with h | h <;> rw [h] <;> rfl
            rw [this]; omega
          · exact Nat.le_refl _
        rw [hmq, he]
        have := Nat.mul_le_mul_left Config.pageSlots hu
        omega
    | none =>
      have hnf := filling_none.1 hf
      have hfree := ho.full (by rw [ht]; simp) hf
      have hab : ∀ x ∈ a, (l.page x).state = .bad := fun x h => (ha x h).resolve_left (hfree x)
      have hq0 : l.queue = [] := by
        have h1 := ho.room
        rw [empty_zero hf, usable_zero hfree] at h1
        cases hh : l.queue <;> simp_all
      have hnfree : st ≠ .free := by rcases hst with ⟨_, h⟩ | ⟨h, _⟩ | h <;> simp_all
      have hmfree : ∀ x, (m.page x).state ≠ .free := by
        intro x h; rw [hm] at h; split at h
        · exact hnfree h
        · exact hfree x h
      by_cases hsf : st = .filling
      · have hmf : m.filling = some p := LogStore.filling_eq (by rw [hmp]; exact hsf)
            (fun q hq => huniqf q p hq (by rw [hmp]; exact hsf))
        have hmt := tail_filling hmf
        refine Or.inl ⟨p, hmt, ?_, ?_, fun _ => hmfree, by rw [hmq, hq0]; simp⟩
        · rw [ringAfter_rotate hr, along_append, along_append, along_cons, hae', hbe, hmp]; simp [entries_nil]
        · rw [List.pairwise_iff_forall_sublist]; intro x y _ _; exact hmfree y
      · have hmf : m.filling = none := by
          rw [filling_none]; intro x h; rw [hm] at h; split at h
          · exact hsf h
          · exact hnf x h
        rcases split_dropLast hr with ⟨rfl, hb⟩ | ⟨hpt, b', hb', hd⟩
        · -- the tail itself is gone, and with it every entry
          have hall : ∀ x, (m.page x).used = [] := by
            intro x
            by_cases hx : x = p
            · rw [hx, hmp]
            · have := mem_ringAfter p x; rw [hr, hb] at this
              have : x ∈ a := by simpa [hx] using this
              rw [hma x this]; exact used_nil hp (Or.inr (hab x this))
          refine Or.inr ⟨?_, hall, hb, by rw [hmq, hq0]⟩
          rw [tail_nofill hmf]
          cases hpo : m.pageOf m.lastWritten with
          | none => rfl
          | some x => obtain ⟨e, h1, _⟩ := pageOf_some hpo; rw [entries_nil (hall x)] at h1; cases h1
        · have hmt : m.tail = some t := by
            rw [tail_nofill hmf, hml]
            rw [tail_nofill hf] at ht
            unfold LogStore.pageOf at ht ⊢
            obtain ⟨h1, x, y, h2, h3⟩ := List.find?_eq_some_iff_append.1 ht
            rw [List.find?_eq_some_iff_append]
            refine ⟨by rw [hm, if_neg (Ne.symm hpt)]; exact h1, x, y, h2, ?_⟩
            intro z hz; rw [hm]; split
            · rfl
            · exact h3 z hz
          refine Or.inl ⟨t, hmt, ?_, ?_, fun _ => hmfree, by rw [hmq, hq0]; simp⟩
          · rw [hr, along_append, along_cons, hae', hbe, hmp]; rfl
          · rw [List.pairwise_iff_forall_sublist]; intro x y _ _; exact hmfree y
  have hidle : ¬ (m.engine.state = .erasing ∨ m.engine.state = .suspended) := by rw [hme]; simp [Engine.idle]
  rcases main with ⟨t', hmt, hal, h3, h4, h5⟩ | ⟨hmt, hall, hb, hq⟩
  · have hin : m.inOrder = l.along b := by rw [inOrder_tail hmt, hal]
    refine ⟨⟨by rw [hml]; exact ho.last, by rw [hin, hml, hnum], ?_, fun _ => h4, fun x h => absurd h (hnr x),
        fun h => absurd h hidle, h5⟩, hnr, by rw [hin, hlo]⟩
    intro t'' h; rw [hmt] at h; injection h with h; subst h; exact h3
  · have hin : m.inOrder = [] := by
      unfold LogStore.inOrder; rw [hmt]; exact along_empty m _ (fun x _ => hall x)
    refine ⟨⟨by rw [hml]; exact ho.last, by rw [hin]; rfl, (fun _ h => by rw [hmt] at h; cases h),
        (fun h => absurd hmt h), fun x h => absurd h (hnr x), fun h => absurd h hidle, by rw [hq]; simp⟩,
        hnr, by rw [hin, hlo, hb]; rfl⟩

/-- The head taken to be erased: the order stands (R146, R161). -/
theorem ordered_take {l m : LogStore} (ho : l.Ordered) {p : PageNo} {rest : List PageNo}
    (hn : ∀ x, (l.page x).state ≠ .reclaiming) (hh : l.head = some p) (hps : (l.page p).state = .full)
    (hm : ∀ x, m.page x = if x = p then ⟨.reclaiming, (l.page p).used⟩ else l.page x)
    (hml : m.lastWritten = l.lastWritten) (hmq : m.queue = l.queue) (hme : m.engine.set = p :: rest) :
    m.Ordered ∧ m.inOrder = l.inOrder := by
  have hent : ∀ x, (m.page x).entries = (l.page x).entries := by
    intro x; rw [hm]; split
    · rename_i h; rw [h]; rfl
    · rfl
  have hused : ∀ x, (m.page x).used = (l.page x).used := by
    intro x; rw [hm]; split
    · rename_i h; rw [h]
    · rfl
  have hfill : ∀ x, (m.page x).state = .filling ↔ (l.page x).state = .filling := by
    intro x; rw [hm]; split
    · rename_i h; rw [h, hps]; simp
    · rfl
  have hfree : ∀ x, (m.page x).state = .free ↔ (l.page x).state = .free := by
    intro x; rw [hm]; split
    · rename_i h; rw [h, hps]; simp
    · rfl
  have hbad : ∀ x, (m.page x).state = .bad ↔ (l.page x).state = .bad := by
    intro x; rw [hm]; split
    · rename_i h; rw [h, hps]; simp
    · rfl
  have hholds : ∀ x, (m.page x).state.holds = (l.page x).state.holds := by
    intro x; rw [hm]; split
    · rename_i h; rw [h, hps]; rfl
    · rfl
  have hb : ∀ x, ((m.page x).state == .filling) = ((l.page x).state == .filling) := by
    intro x; rw [Bool.eq_iff_iff]; simpa using hfill x
  have hb2 : ∀ x, ((m.page x).state == .free) = ((l.page x).state == .free) := by
    intro x; rw [Bool.eq_iff_iff]; simpa using hfree x
  have hb3 : ∀ x, ((m.page x).state == .bad) = ((l.page x).state == .bad) := by
    intro x; rw [Bool.eq_iff_iff]; simpa using hbad x
  have hmf : m.filling = l.filling := by unfold LogStore.filling; simp only [hb]
  have hmp : ∀ n, m.pageOf n = l.pageOf n := by intro n; unfold LogStore.pageOf; simp only [hent]
  have hmt : m.tail = l.tail := by unfold LogStore.tail; rw [hmf, hml, hmp]
  have hin : m.inOrder = l.inOrder := by unfold LogStore.inOrder LogStore.entries; rw [hmt]; simp only [hent]
  have hmh : m.head = l.head := by unfold LogStore.head; rw [hmt]; simp only [hholds]
  refine ⟨⟨?_, ?_, ?_, ?_, ?_, ?_, ?_⟩, hin⟩
  · rw [hml]; exact ho.last
  · rw [hin, hml]; exact ho.numbers
  · intro t ht; rw [hmt] at ht
    have := ho.freeFirst t ht
    simp only [hholds, ne_eq, hfree]; exact this
  · intro h1 h2 x; rw [hmt] at h1; rw [hmf] at h2
    rw [ne_eq, hfree]; exact ho.full h1 h2 x
  · intro x h; rw [hm] at h; split at h
    · rename_i hx; rw [hx, hmh]; exact hh
    · exact absurd h (hn x)
  · intro _; exact ⟨p, rest, hme, by rw [hm, if_pos rfl]⟩
  · have h := ho.room
    have he : m.emptySlots = l.emptySlots := by unfold LogStore.emptySlots; rw [hmf]; simp only [hused]
    have hu : m.usablePages = l.usablePages := by unfold LogStore.usablePages; rw [hmt]; simp only [hb2, hb3]
    rw [hmq, he, hu]; exact h

/-! ### The mark -/

theorem unexported_eq (l : LogStore) : l.unexported = (l.lastWritten +
    (Config.wrap32 - l.exportMark % Config.wrap32)) % Config.wrap32 := rfl

theorem atOrBefore_iff (n m : Nat) : atOrBefore n m = true ↔ (m +
    (4294967296 - n % 4294967296)) % 4294967296 < 2147483648 := by
  unfold atOrBefore; rw [decide_eq_true_iff]; rfl

/-- An entry's number by its place from the tail (R149). -/
theorem seq_at {l : LogStore} (hp : l.lawfulPages) (ho : l.Ordered) {i : Nat} {e : Entry}
    (h : l.inOrder[i]? = some e) :
    i < l.inOrder.length ∧ e.seq = (l.lastWritten + 4294967296 - (l.inOrder.length - 1 - i)) % 4294967296 := by
  obtain ⟨hi, he⟩ := List.getElem?_eq_some_iff.1 h
  refine ⟨hi, ?_⟩
  have h1 : (l.inOrder.map Entry.seq)[i]? = some e.seq := by simp [h]
  rw [ho.numbers] at h1
  unfold numbersAfter at h1
  rw [List.getElem?_map, List.getElem?_range hi] at h1
  have h1 : (l.lastWritten + Config.wrap32 - l.inOrder.length + 1 + i) % Config.wrap32 = e.seq := by
    simpa using h1
  have := inOrder_length hp
  have := ho.last
  simp only [Config.wrap32] at *
  omega

/-- The entries at or before the mark are those before the last `unexported` ones (R158). -/
theorem exported_iff {l : LogStore} (hp : l.lawfulPages) (ho : l.Ordered)
    (hu : l.unexported ≤ l.inOrder.length) {i : Nat} {e : Entry}
    (h : l.inOrder[i]? = some e) : atOrBefore e.seq l.exportMark = true ↔
        i + l.unexported < l.inOrder.length := by
  obtain ⟨hi, hs⟩ := seq_at hp ho h
  have hlen := inOrder_length hp
  have hl := ho.last
  rw [atOrBefore_iff, hs]
  rw [unexported_eq] at *
  simp only [Config.wrap32] at *
  omega

/-- Where the mark stands, as the entries of the store show it. -/
theorem marked_iff {l : LogStore} (hp : l.lawfulPages) :
    l.marked ↔ l.unexported ≤ l.inOrder.length
      ∧ ∀ p, (l.page p).state = .reclaiming → ∀ e, .entry e ∈ (l.page p).used
          → atOrBefore e.seq l.exportMark = true := by
  unfold LogStore.marked
  constructor
  · exact fun h => h.2
  · intro h
    refine ⟨?_, h⟩
    have := inOrder_length hp
    rw [atOrBefore_iff]
    have h1 := h.1
    rw [unexported_eq] at h1
    simp only [Config.wrap32] at h1
    omega

/-- A RECLAIMING page's entries are the first of the store. -/
theorem head_entries {l : LogStore} (hp : l.lawfulPages) {p : PageNo} (hh : l.head = some p)
    (hs : (l.page p).state.holds = true) :
    ∃ rest, l.inOrder = (l.page p).entries ++ rest := by
  cases ht : l.tail with
  | none => unfold LogStore.head at hh; rw [ht] at hh; cases hh
  | some t =>
    obtain ⟨a, b, hr, ha⟩ := head_split hp ht hh hs
    refine ⟨l.along b, ?_⟩
    rw [inOrder_tail ht, hr, along_append, along_cons, along_empty l a (fun x h => used_nil hp (ha x h))]; rfl

/-- The mark after an entry has been written. -/
theorem written_marked {l m : LogStore} (hp : l.lawfulPages) (ho : l.Ordered) (hmp : m.lawfulPages)
    (hk : l.marked) {e : Entry}
    (hin : m.inOrder = l.inOrder ++ [e]) (hml : m.lastWritten = (l.lastWritten + 1) % Config.wrap32)
    (hmm : m.exportMark = l.exportMark)
    (hr : ∀ p, (m.page p).state = .reclaiming → m.page p = l.page p) : m.marked := by
  rw [marked_iff hmp]
  obtain ⟨h1, h2⟩ := (marked_iff hp).1 hk
  have hlen := inOrder_length hp
  have hlast := ho.last
  refine ⟨?_, ?_⟩
  · rw [hin, List.length_append, unexported_eq, hml, hmm]
    rw [unexported_eq] at h1
    simp only [Config.wrap32, List.length_singleton] at *; omega
  · intro p hps f hf
    have he := hr p hps
    rw [he] at hps hf
    rw [hmm]; exact h2 p hps f hf

/-- The mark after a page has been cleared. -/
theorem cleared_marked {l m : LogStore} (hp : l.lawfulPages) (ho : l.Ordered) (hmp : m.lawfulPages)
    (hk : l.marked) {p : PageNo}
    (hps : (l.page p).state = .reclaiming) (hin : l.inOrder = (l.page p).entries ++ m.inOrder)
    (hml : m.lastWritten = l.lastWritten)
    (hmm : m.exportMark = l.exportMark) (hr : ∀ x, (m.page x).state ≠ .reclaiming) : m.marked := by
  rw [marked_iff hmp]
  obtain ⟨h1, h2⟩ := (marked_iff hp).1 hk
  refine ⟨?_, fun x h => absurd h (hr x)⟩
  have hu : m.unexported = l.unexported := by rw [unexported_eq, unexported_eq, hml, hmm]
  rw [hu]
  by_cases hn : (l.page p).entries = []
  · rw [hin, hn] at h1; simpa using h1
  · have hpos : 0 < (l.page p).entries.length := List.length_pos_iff.2 hn
    have hg : l.inOrder[(l.page p).entries.length - 1]? = some ((l.page p).entries.getLast hn) := by
      rw [hin, List.getElem?_append_left (by omega), List.getLast_eq_getElem, List.getElem?_eq_getElem]
    have := (exported_iff hp ho h1 hg).1 (h2 p hps _ ((mem_page_entries _ _).1 (List.getLast_mem hn)))
    rw [hin, List.length_append] at this
    omega

/-- The mark once a page has been taken. -/
theorem take_marked {l m : LogStore} (hp : l.lawfulPages) (ho : l.Ordered) (hmp : m.lawfulPages)
    (hk : l.marked) {p : PageNo}
    (hps : (l.page p).state = .full) (hh : l.head = some p) (hx : l.exported p = true)
    (hm : ∀ x, m.page x = if x = p then ⟨.reclaiming, (l.page p).used⟩ else l.page x)
    (hin : m.inOrder = l.inOrder) (hml : m.lastWritten = l.lastWritten)
        (hmm : m.exportMark = l.exportMark) : m.marked := by
  rw [marked_iff hmp]
  obtain ⟨h1, h2⟩ := (marked_iff hp).1 hk
  have hu : m.unexported = l.unexported := by rw [unexported_eq, unexported_eq, hml, hmm]
  refine ⟨by rw [hu, hin]; exact h1, ?_⟩
  intro x hxs e he
  rw [hmm]
  rw [hm] at hxs he
  split at hxs
  · rename_i hxp
    rw [if_pos hxp] at he
    have he' : e ∈ (l.page p).entries := (mem_page_entries _ _).2 he
    obtain ⟨rest, hin2⟩ := head_entries hp hh (by rw [hps]; rfl)
    obtain ⟨i, hi, hie⟩ := List.getElem_of_mem he'
    have hn : (l.page p).entries ≠ [] := by intro h; rw [h] at he'; cases he'
    have hg : l.inOrder[i]? = some e := by
      rw [hin2, List.getElem?_append_left hi, List.getElem?_eq_getElem hi, hie]
    have hgl : l.inOrder[(l.page p).entries.length - 1]? = some ((l.page p).entries.getLast hn) := by
      rw [hin2, List.getElem?_append_left (by omega), List.getLast_eq_getElem, List.getElem?_eq_getElem]
    rw [exported_iff hp ho h1 hg]
    have hlast : atOrBefore ((l.page p).entries.getLast hn).seq l.exportMark = true := by
      unfold LogStore.exported Page.lastEntry at hx
      rw [List.getLast?_eq_getLast_of_ne_nil hn] at hx; exact hx
    have := (exported_iff hp ho h1 hgl).1 hlast
    omega
  · rename_i hxp
    rw [if_neg hxp] at he
    exact h2 x hxs e he

/-- LOG_ACK: the mark goes forward, not past the last written number. -/
theorem ack_marked {l m : LogStore} (hp : l.lawfulPages) (ho : l.Ordered) (hmp : m.lawfulPages)
    (hmo : m.Ordered) (hk : l.marked) {n : Nat}
    (hm : m = { l with exportMark := later l.exportMark (earlier n l.lastWritten) }) : m.marked := by
  obtain ⟨h0, h1, h2⟩ := hk
  have hlen := inOrder_length hp
  have hin : m.inOrder = l.inOrder := by subst hm; rfl
  have hlast := ho.last
  have hu : m.unexported ≤ l.unexported := by
    rw [atOrBefore_iff] at h0
    subst hm
    rw [unexported_eq, unexported_eq]
    show (l.lastWritten + (Config.wrap32 - later l.exportMark (earlier n l.lastWritten) % Config.wrap32)) %
        Config.wrap32 ≤ _
    unfold later earlier
    simp only [Config.wrap32]
    split <;> rename_i ha
    · split <;> rename_i hb
      · rw [atOrBefore_iff] at hb; rw [atOrBefore_iff] at ha; omega
      · exact Nat.le_refl _
    · split <;> rename_i hb
      · simp only [Config.wrap32] at hlast; omega
      · exact Nat.le_refl _
  rw [marked_iff hmp]
  refine ⟨by rw [hin]; omega, ?_⟩
  intro p hps e he
  have hps' : (l.page p).state = .reclaiming := by subst hm; exact hps
  have he' : .entry e ∈ (l.page p).used := by subst hm; exact he
  have hold := h2 p hps' e he'
  obtain ⟨rest, hin2⟩ := head_entries hp (ho.oldest p hps') (by rw [hps']; rfl)
  obtain ⟨i, hi, hie⟩ := List.getElem_of_mem ((mem_page_entries _ _).2 he')
  have hg : l.inOrder[i]? = some e := by
    rw [hin2, List.getElem?_append_left hi, List.getElem?_eq_getElem hi, hie]
  have := (exported_iff hp ho h1 hg).1 hold
  have hg' : m.inOrder[i]? = some e := by rw [hin]; exact hg
  rw [exported_iff hmp hmo (by rw [hin]; omega) hg', hin]; omega

/-- The order rests on the pages, the last written number, the engine's state and set,
    and the length of the queue. -/
theorem LogStore.Ordered.congr {l m : LogStore} (ho : l.Ordered) (hp : m.pages = l.pages)
    (hl : m.lastWritten = l.lastWritten)
    (he : m.engine.state = .erasing ∨ m.engine.state = .suspended → l.engine.state = .erasing
        ∨ l.engine.state = .suspended)
    (hs : m.engine.state = .erasing ∨ m.engine.state = .suspended → m.engine.set = l.engine.set)
    (hq : m.queue.length ≤ l.emptySlots + Config.pageSlots * l.usablePages) : m.Ordered := by
  have hpg : ∀ p, m.page p = l.page p := by intro p; unfold LogStore.page; rw [hp]
  have hf : m.filling = l.filling := by unfold LogStore.filling; simp only [hpg]
  have ht : m.tail = l.tail := by unfold LogStore.tail LogStore.pageOf; rw [hf, hl]; simp only [hpg]
  have hin : m.inOrder = l.inOrder := by unfold LogStore.inOrder LogStore.entries; rw [ht]; simp only [hpg]
  have hh : m.head = l.head := by unfold LogStore.head; rw [ht]; simp only [hpg]
  constructor
  · rw [hl]; exact ho.last
  · rw [hin, hl]; exact ho.numbers
  · rw [ht]; simp only [hpg]; exact ho.freeFirst
  · rw [ht, hf]; simp only [hpg]; exact ho.full
  · simp only [hpg, hh]; exact ho.oldest
  · intro h; rw [hs h]; simp only [hpg]; exact ho.working (he h)
  · have h1 : m.emptySlots = l.emptySlots := by unfold LogStore.emptySlots; rw [hf]; simp only [hpg]
    have h2 : m.usablePages = l.usablePages := by unfold LogStore.usablePages; rw [ht]; simp only [hpg]
    rw [h1, h2]; exact hq

theorem LogStore.marked.congr {l m : LogStore} (hk : l.marked) (hp : m.pages = l.pages)
    (hl : m.lastWritten = l.lastWritten)
    (hm : m.exportMark = l.exportMark) : m.marked := by
  have hpg : ∀ p, m.page p = l.page p := by intro p; unfold LogStore.page; rw [hp]
  have hf : m.filling = l.filling := by unfold LogStore.filling; simp only [hpg]
  have ht : m.tail = l.tail := by unfold LogStore.tail LogStore.pageOf; rw [hf, hl]; simp only [hpg]
  have hin : m.inOrder = l.inOrder := by unfold LogStore.inOrder LogStore.entries; rw [ht]; simp only [hpg]
  unfold LogStore.marked LogStore.unexported at *
  rw [hm, hl, hin]; simp only [hpg]; exact hk

/-- An entry admitted with a slot left for it. -/
theorem admit_ordered {l : LogStore} (ho : l.Ordered) (h : 1 ≤ l.freeSpace) (r : Bool) (t n ref d : Nat)
    (x : Payload) :
    (l.admitEntry r t n ref d x).Ordered := by
  obtain ⟨h1, h2, _⟩ := l.admit_engine r t n ref d x
  refine ho.congr (by simp) (by simp) (by rw [h1]; exact id) (fun _ => h2) ?_
  rw [LogStore.admit_length]
  unfold LogStore.freeSpace at h; omega

theorem beginWrite_ordered {l : LogStore} (ho : l.Ordered) (r : Bool) : (l.beginWrite r).Ordered :=
  ho.congr (by simp) (by simp) (by simp) (by simp) (by rw [LogStore.beginWrite_length]; exact ho.room)

/-- Pages taken: the first that the engine may erase is RECLAIMING, and the order and the mark stand. -/
theorem takePages_ordered : ∀ (ps : List PageNo) (s : State), s.log.lawfulPages →
    ({ s.log with engine := Engine.idle } : LogStore).Ordered →
    (∀ p, (s.log.page p).state ≠ .reclaiming) → s.log.marked →
    (s.takePages ps).log.lawfulPages ∧ (s.takePages ps).log.Ordered ∧ (s.takePages ps).log.marked := by
  intro ps
  induction ps with
  | nil => intro s hp ho _ hk; exact ⟨hp, ho, hk.congr rfl rfl rfl⟩
  | cons p ps ih =>
    intro s hp ho hn hk
    unfold State.takePages
    cases hsk : s.log.skips p with
    | some o => exact ih _ hp ho hn hk
    | none =>
      dsimp only
      have hsf : (s.log.page p).state = .full ∧ s.log.exported p = true ∧ s.log.head = some p := by
        unfold LogStore.skips at hsk
        have := hn p
        cases hst : (s.log.page p).state <;> rw [hst] at hsk <;> simp only [reduceCtorEq] at hsk
        · split at hsk
          · cases hsk
          · split at hsk
            · cases hsk
            · simp_all
        · exact absurd hst this
      obtain ⟨h1, h2, h3⟩ := hsf
      generalize hm : s.log.beginErase p (p :: ps) = m
      have hmp : ∀ x, m.page x = if x = p then ⟨.reclaiming, (s.log.page p).used⟩ else s.log.page x := by
        intro x; rw [← hm]; exact LogStore.page_setPage ..
      obtain ⟨h4, h5⟩ := ordered_take (l := { s.log with engine := Engine.idle }) (m := m) ho (p := p)
          (rest := ps) hn h3 h1 hmp
        (by rw [← hm]; rfl) (by rw [← hm]; rfl) (by rw [← hm]; rfl)
      have hlp : m.lawfulPages := by
        refine ⟨?_, ?_⟩
        · intro x; rw [hmp]; split
          · have := hp.1 p; unfold Page.lawful at this ⊢; rw [h1] at this; exact this
          · exact hp.1 x
        · intro x y hx hy; rw [hmp] at hx hy
          split at hx <;> [cases hx; skip]
          split at hy <;> [cases hy; skip]
          exact hp.2 x y hx hy
      refine ⟨hlp, h4, ?_⟩
      exact take_marked (l := { s.log with engine := Engine.idle }) hp ho hlp
        (hk.congr rfl rfl rfl) h1 h3 h2 hmp h5 (by rw [← hm]; rfl) (by rw [← hm]; rfl)

end Sys2Proof.Machine
end

