-- ==== Sys2Proof/Laws/Outbox.lean ====
section
/-! SUPPORT. What queueing a message does to a bay's outbox (R63 to R65). -/

namespace Sys2Proof.Machine

theorem Message.isStop_iff (a : Arm) (m : Message) : m.isStop a = true ↔ m = .stop a := by
  cases m <;> simp [Message.isStop]

theorem any_isStop (a : Arm) (box : List Message) :
    box.any (Message.isStop a) = true ↔ Message.stop a ∈ box := by
  simp [List.any_eq_true, Message.isStop_iff]

/-- The outbox that a queued STOP leaves. -/
theorem withStop_eq (a : Arm) (box : List Message) : withStop a box = stopQueued a box := by
  unfold withStop stopQueued
  by_cases h : Message.stop a ∈ box
  · simp [h, (any_isStop a box).2 h]
  · have : box.any (Message.isStop a) = false := by
      rw [Bool.eq_false_iff]; exact fun hc => h ((any_isStop a box).1 hc)
    simp [h, this]

/-- A STOP that has been queued waits in the outbox. -/
theorem stop_mem_stopQueued (a : Arm) (box : List Message) : Message.stop a ∈ stopQueued a box := by
  unfold stopQueued
  split
  · assumption
  · split
    · rename_i h
      obtain ⟨m, hm, hp⟩ := List.any_eq_true.1 h
      exact List.mem_map.2 ⟨m, hm, by simp [hp]⟩
    · simp

/-- A message queued by a rule: the outbox of a POLLED bay that is not SILENT, and nothing else. -/
theorem State.enqueue_eq (s : State) (b : BayNo) (rule : List Message → List Message) :
    s.enqueue b rule = s.setBay b { s.bay b with
      outbox := if s.polled b = true ∧ (s.bay b).link ≠ .silent then rule (s.bay b).outbox
        else (s.bay b).outbox } := by
  unfold State.enqueue
  split
  · rfl
  · exact (s.setBay_bay b).symm

theorem State.enqueue_frame (s : State) (b : BayNo) (rule : List Message → List Message) :
    s.enqueue b rule = { s with bays := (s.enqueue b rule).bays } := by
  rw [State.enqueue_eq]; rfl

/-- A queued message reaches a bay that can be told. -/
theorem State.enqueue_told {s : State} {b : BayNo} (hp : s.polled b = true)
    (hl : (s.bay b).link ≠ .silent) (rule : List Message → List Message) :
    s.enqueue b rule = s.setBay b { s.bay b with outbox := rule (s.bay b).outbox } := by
  simp [State.enqueue, hp, hl]

theorem State.bay_enqueue (s : State) (b c : BayNo) (rule : List Message → List Message) :
    (s.enqueue b rule).bay c = { s.bay c with
      outbox := if c = b ∧ s.polled b = true ∧ (s.bay b).link ≠ .silent then rule (s.bay c).outbox
        else (s.bay c).outbox } := by
  rw [State.enqueue_eq, State.bay_setBay]
  by_cases h : c = b
  · subst h; simp
  · simp [h]

/-- Arm records stand as they are when a message is queued. -/
@[simp] theorem State.arm_enqueue (s : State) (b c : BayNo) (a : Arm)
    (rule : List Message → List Message) : (s.enqueue b rule).arm c a = s.arm c a := by
  unfold State.arm
  rw [State.bay_enqueue]
  cases a <;> rfl

/-- A STOP queued for an arm: the bay's outbox and nothing else. -/
theorem State.queueStop_eq (s : State) (b : BayNo) (a : Arm) :
    s.queueStop b a = s.setBay b { s.bay b with outbox := s.boxWithStop b a } := by
  unfold State.queueStop State.boxWithStop
  rw [State.enqueue_eq]
  simp only [withStop_eq]

theorem State.queueStop_frame (s : State) (b : BayNo) (a : Arm) :
    s.queueStop b a = { s with bays := (s.queueStop b a).bays } := s.enqueue_frame b _

theorem State.queueVerdict_frame (s : State) (b : BayNo) (q : BayRequest) (x : Option Arm)
    (r : Option DenyReason) :
    s.queueVerdict b q x r = { s with bays := (s.queueVerdict b q x r).bays } := s.enqueue_frame b _

theorem State.queueDismiss_frame (s : State) (b : BayNo) :
    s.queueDismiss b = { s with bays := (s.queueDismiss b).bays } := s.enqueue_frame b _

theorem State.stopIf_frame (s : State) (x : Bool) (b : BayNo) (a : Arm) :
    s.stopIf x b a = { s with bays := (s.stopIf x b a).bays } := by
  unfold State.stopIf
  split
  · exact s.queueStop_frame b a
  · rfl

end Sys2Proof.Machine
end

