-- ==== Sys2Proof/Laws/Rack.lean ====
section
/-! SUPPORT. What the rack link's shared operations do: the end of a visit, a miss, a valid answer (R66 to
R76), when a bay's note of a cancelled delivery is cleared, and what a loss of power and the scan of a slot
leave (R187, R196). -/

namespace Sys2Proof.Machine

theorem State.polledBays_isEmpty (s : State) :
    (!s.polledBays.isEmpty) = (List.finRange 12).any fun b => s.polled b := by
  unfold State.polledBays
  rw [Bool.eq_iff_iff]
  simp [List.filter_eq_nil_iff]

/-- The end of a visit changes the line alone. -/
theorem State.endVisit_eq (s : State) : s.endVisit = { s with rack := s.lineAfterVisit } := by
  unfold State.lineAfterVisit
  rw [← State.polledBays_isEmpty]
  unfold State.endVisit State.settleRound
  by_cases h : s.rack.roundLeft = []
  · simp only [h, Option.isNone_none, List.isEmpty_nil, Bool.and_self, if_true]
    rfl
  · have : s.rack.roundLeft.isEmpty = false := by simpa using h
    simp only [this, h, Option.isNone_none, Bool.true_and, Bool.false_eq_true, if_false]

/-- The line after a visit depends on the line, the polled set and the latch alone. -/
theorem State.lineAfterVisit_congr {s t : State} (h1 : t.rack = s.rack) (h2 : t.settings = s.settings)
    (h3 : t.latch = s.latch) : t.lineAfterVisit = s.lineAfterVisit := by
  unfold State.lineAfterVisit State.polled
  rw [h1, h2, h3]

/-- The arms of a silenced bay: what an arm refers to is INTERRUPTED (R71). -/
theorem State.interruptArm_frame (s : State) (b : BayNo) (x : Arm) :
    s.interruptArm b x = { s with
      dispatch := (s.interruptArm b x).dispatch
      bays := (s.interruptArm b x).bays } := by
  unfold State.interruptArm
  split
  · rfl
  · conv_lhs => rw [State.updComp_frame]
    rw [State.updComp_frame]
  · conv_lhs => rw [State.updOrphan_frame]
    rw [State.updOrphan_frame]

/-- The message of an exchange leaves the outbox, with a DISMISS the bay's note of its cancelled delivery is cleared,
and nothing else changes. -/
theorem State.removeSent_eq (s : State) (b : BayNo) (sent : Option Message) :
    s.removeSent b sent = s.setBay b { s.bay b with
      outbox := withoutSent (s.bay b).outbox sent
      withdrawn := if sent = some .dismiss then none else (s.bay b).withdrawn } := by
  cases sent with
  | none => exact (s.setBay_bay b).symm
  | some m => simp [State.removeSent, BayRecord.without, withoutSent]

/-- A valid answer of a bay that is not SILENT leaves it ONLINE with no miss. -/
theorem State.answered_eq {s : State} {b : BayNo} (h : (s.bay b).link ≠ .silent) :
    s.answered b = s.setBay b { s.bay b with link := .online, missed := 0 } := by
  unfold State.answered
  rw [if_neg h]
  rfl

/-- Steps 1 of R70 and R73 at a bay that is not SILENT: all that a valid answer does before it is taken. -/
theorem State.answered_removeSent {s : State} {v : Visit} (h : (s.bay v.bay).link ≠ .silent)
    (sent : Option Message) : (s.answered v.bay).removeSent v.bay sent = s.heard v sent := by
  rw [State.answered_eq h, State.removeSent_eq, State.bay_setBay_self, State.setBay_setBay]
  rfl

/-- The end of an exchange by a valid answer changes the line alone. -/
theorem State.afterExchange_eq {v : Visit} (h : v.dropped = false) (s : State) :
    s.afterExchange v = s.exchangeOver v := by
  obtain ⟨b, n, dropped⟩ := v
  simp only at h
  subst h
  unfold State.afterExchange State.exchangeOver
  by_cases hb : (s.bay b).outbox = [] ∨ 2 ≤ n
  · rw [if_pos hb, if_pos (by rcases hb with hb | hb <;> simp [hb]), State.endVisit_eq]
  · obtain ⟨h1, h2⟩ := not_or.1 hb
    rw [if_neg hb, if_neg (by simp [h1]; omega)]
    rfl

/-! ### A bay's note of the delivery that a CANCEL took from it (log entry 44) -/

/-- `takeLeave` clears the note of the bays that name the slot, and nothing else. -/
theorem State.bay_takeLeave (s : State) (i : SlotNo) (b : BayNo) :
    (s.takeLeave i).bay b = { s.bay b with
      withdrawn := if (s.bay b).withdrawn = some i then none else (s.bay b).withdrawn } := by
  rw [show (s.takeLeave i).bay b = _ from get_mapTable ..]
  simp only [State.bay]
  split <;> rename_i h <;> simp [h]

theorem State.takeLeave_frame (s : State) (i : SlotNo) :
    s.takeLeave i = { s with bays := (s.takeLeave i).bays } := rfl

/-! ### What a loss of power leaves (R187) -/

/-- A loss of power leaves the phase and the log store, and changes nothing else. -/
theorem State.losePower_frame (s : State) (cut : EventCut) :
    s.losePower cut = if s.powered then { s with phase := .unpowered, log := s.cutAt cut } else s := rfl

/-- A cut inside the end of an erase leaves the page's mark, with or without the mark of the page taken next. -/
theorem State.cutErase_eq {s : State} {p : PageNo} {rest : List PageNo} (h : s.erasing = true)
    (hs : s.log.engine.set = p :: rest) (next : Bool) (f : LogStore → PageNo → LogStore) :
    s.cutErase next f = if next then
        { s.log with pages := (State.pagesTaken { s with log := f s.log p } rest).log.pages }
      else f s.log p := by
  unfold State.cutErase
  rw [h, hs]
  dsimp only
  rw [State.takePages_eq]

/-- The scan's test of a slot: empty, void, or a good check (R196). -/
theorem slotTest_spec (slot : List Byte) :
    ((∀ b ∈ slot, b = 0xFF#8) → slotTest slot = .blank)
    ∧ ((∃ b ∈ slot, b ≠ 0xFF#8) →
      slotTest slot = if crc16 (slot.take 30) = number (slot.drop 30) then .whole else .torn) := by
  unfold slotTest
  constructor
  · intro h
    rw [if_pos (by simpa using h)]
  · rintro ⟨b, hb, hn⟩
    rw [if_neg]
    simp only [List.all_eq_true, beq_iff_eq, not_forall]
    exact ⟨b, hb, hn⟩

end Sys2Proof.Machine
end

