-- ==== Sys2Proof/Laws/Requests.lean ====
section
/-! SUPPORT. How a request reaches its owner and its answer the port: a request taken at once is its owner's
answer, made on the port (R168 to R170). -/

namespace Sys2Proof.Machine

/-- Being in service does not change what a port's deferred table names. -/
theorem State.setService_eq (s : State) (p : Port) (x : Option (Nat × Nat)) :
    s.setService p x = s.setPort p { s.port p with inService := x } := rfl

@[simp] theorem State.owned_setPort_inService (s : State) (p : Port) (x : Option (Nat × Nat))
    (d : Delivery) :
    State.owned (s.setPort p { s.port p with inService := x }) d = s.owned d := by
  cases p <;> rfl

/-- The state in which the office port has a request of a tag and code in service. -/
def State.serving (s : State) (p : Port) (tag code : Nat) : State :=
  s.setPort p { s.port p with inService := some (tag, code) }

/-- A request at a port with none in service and none waiting, which passes the port's checks, is answered by its
owner (R168, R170). -/
theorem State.request_served {s : State} {p : Port} {tag code : Nat} {body : ReqBody} (hr : s.phase = .running)
    (hs : (s.port p).inService = none) (hq : (s.port p).queue = [])
    (hc : State.portRefusal (s.serving p tag code) p ⟨tag, code, body⟩ = none) :
    s.request p ⟨tag, code, body⟩ =
      State.answer p tag code (State.owner (s.serving p tag code) p tag body) := by
  have hp : s.powered = true := by simp [State.powered, hr]
  have hv : s.setService p (some (tag, code)) = s.serving p tag code := rfl
  unfold State.request
  rw [if_pos hp]
  simp only [State.arrive, hs, hq, Option.isNone_none, List.isEmpty_nil, Bool.and_self, if_true]
  simp only [State.serve, hv, hc]

/-- The port's checks of a request pass in a running part whose store has not FAILED, or, for RESTART and STATUS, in
any, where the tag of a request that is not deferrable is free (R170, R177). -/
theorem State.portRefusal_none {s : State} {p : Port} {tag code : Nat} {body : ReqBody} (hr : s.phase = .running)
    (hk : (knownCode code && belongsTo p code) = true) (hb : body ≠ .badLength)
    (hf : s.log.status ≠ .failed ∨ answeredFailed code = true)
    (ht : deferrable code = true ∨ ∀ e ∈ (s.port p).deferred, e.tag ≠ tag) :
    State.portRefusal (s.serving p tag code) p ⟨tag, code, body⟩ = none := by
  have hd : (!deferrable code && (s.port p).deferred.any fun e => e.tag == tag) = false := by
    rcases ht with ht | ht
    · rw [ht]
      rfl
    · rw [show ((s.port p).deferred.any fun e => e.tag == tag) = false from
        List.any_eq_false.2 fun e he => by simpa using ht e he, Bool.and_false]
  have hst : ¬ (s.log.status = .failed ∧ (!answeredFailed code) = true) := by
    rcases hf with hf | hf <;> simp [hf]
  rw [Bool.and_eq_true] at hk
  simp only [State.portRefusal, State.serving, State.setPort_phase, State.setPort_log, State.setPort_port]
  simp only [hr, hk.1, hk.2, hb, hst, hd]
  rfl

/-- A request that is taken at once is answered by its owner. -/
theorem State.request_owner {s : State} {p : Port} {tag code : Nat} {body : ReqBody}
    (h : s.ready p tag) (hc : (knownCode code && belongsTo p code) = true) (hl : body ≠ .badLength) :
    s.request p ⟨tag, code, body⟩ =
      State.answer p tag code (State.owner (s.serving p tag code) p tag body) :=
  State.request_served h.1 h.2.2.1 h.2.2.2.1 (State.portRefusal_none h.1 hc hl (.inl h.2.1) (.inr h.2.2.2.2))

/-- A deferrable request at a free port reaches its owner whatever its tag (R170). -/
theorem State.request_owner_deferrable {s : State} {p : Port} {tag code : Nat} {body : ReqBody}
    (h : s.portFree p) (hc : (knownCode code && belongsTo p code) = true) (hl : body ≠ .badLength)
    (hd : deferrable code = true) :
    s.request p ⟨tag, code, body⟩ =
      State.answer p tag code (State.owner (s.serving p tag code) p tag body) :=
  State.request_served h.1 h.2.2.1 h.2.2.2 (State.portRefusal_none h.1 hc hl (.inl h.2.1) (.inl hd))

/-- An owner's answer that changes nothing is made on the port and changes nothing else. -/
theorem State.answer_unchanged {s : State} {p : Port} {tag code : Nat} {y : FrameBody} :
    State.answer p tag code (s.serving p tag code, y) = s.responded p tag code y := by
  cases p <;> rfl

/-- A port's deferral checks pass where its table has room and no entry of the tag. -/
theorem PortState.deferralRefusal_eq {x : PortState} {tag : Nat} (h : ∀ e ∈ x.deferred, e.tag ≠ tag)
    (hl : x.deferred.length < 8) : x.deferralRefusal tag = none := by
  have ht : (x.deferred.any fun e => e.tag == tag) = false := by
    simp only [List.any_eq_false]
    intro e he
    simpa using h e he
  unfold PortState.deferralRefusal
  rw [ht, if_neg (by decide), if_neg (by omega)]

/-- The checks of a request that waits for its entry pass where port and store have room. -/
theorem State.deferrableRefusal_eq {s : State} {p : Port} {tag code : Nat} (h : s.ready p tag)
    (hl : (s.port p).deferred.length < 8) (ha : s.log.accepts) :
    (s.serving p tag code).deferrableRefusal p tag = none := by
  have hd : ((s.serving p tag code).port p).deferred = (s.port p).deferred := by cases p <;> rfl
  have hg : (s.serving p tag code).log = s.log := by cases p <;> rfl
  unfold State.deferrableRefusal
  rw [PortState.deferralRefusal_eq (by rw [hd]; exact h.2.2.2.2) (by rw [hd]; exact hl), hg]
  exact LogStore.requesterRefusal_eq ha

end Sys2Proof.Machine
end

