-- ==== Sys2Proof/Laws/StartUp.lean ====
section
/-! SUPPORT. What the steps of start-up find in the store: the page to fill, where a start goes on, and the
number that the scan fixes (R188 to R191). -/

namespace Sys2Proof.Machine

/-- The lowest page of which something holds. -/
theorem find_lowest (P : PageNo → Bool) (p : PageNo) (h : P p = true) (hl : ∀ q, q < p → P q = false) :
    (List.finRange 64).find? P = some p := by
  cases hf : (List.finRange 64).find? P with
  | none => exact absurd h (List.find?_eq_none.1 hf p (List.mem_finRange _))
  | some q =>
    obtain ⟨hq, as, bs, hab, hn⟩ := List.find?_eq_some_iff_append.1 hf
    have sorted : (as ++ q :: bs).Pairwise (· < ·) := hab ▸ List.pairwise_lt_finRange 64
    rw [List.pairwise_append, List.pairwise_cons] at sorted
    have hm : p ∈ as ++ q :: bs := hab ▸ List.mem_finRange p
    rw [List.mem_append, List.mem_cons] at hm
    rcases hm with hm | rfl | hm
    · simpa [h] using hn p hm
    · rfl
    · simp [hl q (sorted.2.1.1 p hm)] at hq

theorem LogStore.reclaiming_isEmpty {l : LogStore} (h : ∀ p, (l.page p).state ≠ .reclaiming) :
    l.reclaiming.isEmpty = true := by
  rw [List.isEmpty_iff, LogStore.reclaiming, List.filter_eq_nil_iff]
  intro p _
  simpa using h p

theorem LogStore.reclaiming_isEmpty_false {l : LogStore} {p : PageNo} (h : (l.page p).state = .reclaiming) :
    l.reclaiming.isEmpty = false := by
  rw [Bool.eq_false_iff, Ne, List.isEmpty_iff, LogStore.reclaiming, List.filter_eq_nil_iff]
  exact fun hc => hc p (List.mem_finRange _) (by simpa using h)

theorem LogStore.filling_none {l : LogStore} (h : ∀ p, (l.page p).state ≠ .filling) : l.filling = none := by
  rw [LogStore.filling, List.find?_eq_none]
  intro p _
  simpa using h p

theorem LogStore.filling_some {l : LogStore} (h : ∃ p, (l.page p).state = .filling) :
    ∃ p, l.filling = some p := by
  cases hf : l.filling with
  | some p => exact ⟨p, rfl⟩
  | none =>
    obtain ⟨p, hp⟩ := h
    exact absurd (by simpa using hp) (List.find?_eq_none.1 hf p (List.mem_finRange _))

/-- The one FILLING page. -/
theorem LogStore.filling_unique {l : LogStore} {p : PageNo} (h : (l.page p).state = .filling)
    (hu : ∀ q, (l.page q).state = .filling → q = p) : l.filling = some p := by
  obtain ⟨q, hq⟩ := LogStore.filling_some ⟨p, h⟩
  rw [hq, hu q (by simpa using List.find?_some hq)]

/-- The candidate that is after all others is found, wherever it stands in the list. -/
theorem foldl_laterPage (t : PageNo) (n : Nat) : ∀ (xs : List (PageNo × Nat)) (a : Option (PageNo × Nat)),
    (∀ y ∈ xs, y.1 ≠ t → atOrBefore y.2 n = true ∧ atOrBefore n y.2 = false) → (∀ y ∈ xs, y.1 = t → y.2 = n) →
    (a = some (t, n) ∨ ((t, n) ∈ xs ∧ ∀ y, a = some y → atOrBefore y.2 n = true)) →
    xs.foldl laterPage a = some (t, n)
  | [], a, _, _, h => h.elim id fun h => absurd h.1 (by simp)
  | y :: ys, a, h1, h2, h => by
    rw [List.foldl_cons]
    refine foldl_laterPage t n ys _ (fun z hz => h1 z (List.mem_cons_of_mem _ hz))
      (fun z hz => h2 z (List.mem_cons_of_mem _ hz)) ?_
    by_cases hy : y.1 = t
    · obtain rfl : y = (t, n) := Prod.ext hy (h2 y (by simp) hy)
      left
      rcases h with rfl | h
      · simp [laterPage]
      · cases a with
        | none => rfl
        | some x => simp [laterPage, h.2 x rfl]
    · have hb := h1 y (by simp) hy
      rcases h with rfl | h
      · left
        simp [laterPage, hb.2]
      · refine .inr ⟨(List.mem_cons.1 h.1).resolve_left fun h' => hy (by rw [← h']), fun z hz => ?_⟩
        cases a with
        | none =>
          obtain rfl := Option.some.inj hz
          exact hb.1
        | some x =>
          simp only [laterPage] at hz
          split at hz <;> obtain rfl := Option.some.inj hz
          · exact hb.1
          · exact h.2 _ rfl

/-- A FULL page that holds an entry is a candidate for the tail, by the number of its last entry. -/
theorem LogStore.mem_candidates {l : LogStore} {y : PageNo × Nat} :
    (y ∈ (List.finRange 64).filterMap fun p =>
      if (l.page p).state = .full then (l.page p).lastEntry.map fun e => (p, e.seq) else none) ↔
      (l.page y.1).state = .full ∧ ∃ e, (l.page y.1).lastEntry = some e ∧ y.2 = e.seq := by
  rw [List.mem_filterMap]
  constructor
  · rintro ⟨q, -, hq⟩
    split at hq
    · obtain ⟨e, he, rfl⟩ := Option.map_eq_some_iff.1 hq
      exact ⟨‹_›, e, he, rfl⟩
    · exact absurd hq (by simp)
  · rintro ⟨hf, e, he, hn⟩
    exact ⟨y.1, List.mem_finRange _, by rw [if_pos hf, he, Option.map_some, ← hn]⟩

/-- The tail, where its last entry is after those of the other FULL pages (R190). -/
theorem LogStore.latestFull_eq {l : LogStore} {t : PageNo} {e : Entry} (h : l.tailIs t e) :
    l.latestFull = some (t, e.seq) := by
  obtain ⟨hs, he, ho⟩ := h
  refine foldl_laterPage t e.seq _ none (fun y hy hne => ?_) (fun y hy hye => ?_)
    (.inr ⟨LogStore.mem_candidates.2 ⟨hs, e, he, rfl⟩, by simp⟩)
  · obtain ⟨hf, x, hx, hn⟩ := LogStore.mem_candidates.1 hy
    exact hn ▸ ho y.1 x hne hf hx
  · obtain ⟨-, x, hx, hn⟩ := LogStore.mem_candidates.1 hy
    rw [hye, he] at hx
    rw [hn, Option.some.inj hx]

/-- No tail is found where no FULL page holds an entry (R190). -/
theorem LogStore.latestFull_none {l : LogStore}
    (h : ∀ q, (l.page q).state = .full → (l.page q).lastEntry = none) : l.latestFull = none := by
  have : ((List.finRange 64).filterMap fun p =>
      if (l.page p).state = .full then (l.page p).lastEntry.map fun e => (p, e.seq) else none) = [] := by
    rw [List.eq_nil_iff_forall_not_mem]
    intro y hy
    obtain ⟨hf, e, he, -⟩ := LogStore.mem_candidates.1 hy
    exact absurd he (by simp [h y.1 hf])
  rw [LogStore.latestFull, this]
  rfl

/-- The end of step 2 leaves the pages found (R190). -/
theorem LogStore.findFilling_eq {l : LogStore} {pages : Vector Page 64} (h : l.pagesFound pages) :
    l.findFilling = { l with pages := pages } := by
  unfold LogStore.findFilling
  rcases h with ⟨h, rfl⟩ | ⟨h, ⟨t, e, ht, ⟨p, hn, hp, rfl⟩ | ⟨hn, rfl⟩⟩ | ⟨hno, ⟨p, hp, hl, rfl⟩ | ⟨hn, rfl⟩⟩⟩
  · obtain ⟨p, hp⟩ := LogStore.filling_some h
    rw [hp]
  · simp only [LogStore.filling_none h, LogStore.latestFull_eq ht, LogStore.fillNext, hn, if_pos hp]
    rfl
  · simp only [LogStore.filling_none h, LogStore.latestFull_eq ht, LogStore.fillNext]
    cases hx : l.nextPage t with
    | none => rfl
    | some p => simp only [if_neg (hn p hx)]
  · simp only [LogStore.filling_none h, LogStore.latestFull_none hno, LogStore.fillFirst]
    rw [find_lowest _ p (by simpa using hp) fun q hq => by simpa using hl q hq]
    rfl
  · simp only [LogStore.filling_none h, LogStore.latestFull_none hno, LogStore.fillFirst]
    rw [List.find?_eq_none.2 fun q _ => by simpa using hn q]

/-- Start-up goes on to step 2 or step 3, with the pages found there (R190). -/
theorem State.enterStep2_eq {s : State} {phase : Phase} {pages : Vector Page 64}
    (h : s.log.goesOn phase pages) :
    s.enterStep2 = { s with phase := phase, log := { s.log with pages := pages } } := by
  unfold State.enterStep2
  rcases h with ⟨⟨p, hp⟩, rfl, rfl⟩ | ⟨hn, rfl, hp⟩
  · rw [LogStore.reclaiming_isEmpty_false hp]
    rfl
  · rw [if_pos (LogStore.reclaiming_isEmpty hn), LogStore.findFilling_eq hp]

/-- A start begins at step 1, step 2 or step 3 (R188, R190). -/
theorem State.enterStep1_eq {s : State} {phase : Phase} {pages : Vector Page 64} (h : s.startsAt phase pages) :
    s.enterStep1 = { s with phase := phase, log := { s.log with pages := pages } } := by
  unfold State.enterStep1
  rcases h with ⟨hr, rfl, rfl⟩ | ⟨hr, hg⟩
  · rw [if_pos hr]
  · rw [if_neg (by simp [hr])]
    exact State.enterStep2_eq hg

/-- In a store without entries no page holds one. -/
theorem LogStore.lastEntry_none {l : LogStore} (h : l.entries = []) (q : PageNo) :
    (l.page q).lastEntry = none := by
  cases hx : (l.page q).lastEntry with
  | none => rfl
  | some x =>
    have : x ∈ l.entries := List.mem_flatMap.2 ⟨q, List.mem_finRange _, List.mem_of_getLast? hx⟩
    simp [h] at this

/-- The last written number that the scan fixes (R191). -/
theorem LogStore.lastFound_eq {l : LogStore} {n : Nat} (h : l.scanFinds n) : l.lastFound l.filling = n := by
  rcases h with ⟨p, hf, hu, -, h⟩ | ⟨hno, t, e, ht, rfl⟩
  · rw [LogStore.filling_unique hf hu]
    rcases h with ⟨e, he, rfl⟩ | ⟨h1, q, e, h2, h3, h4, rfl⟩ | ⟨h1, rfl⟩
    · simp only [LogStore.lastFound, he]
    · simp only [LogStore.lastFound, LogStore.entryBefore, h1, h2, if_pos h3, h4]
    · have hb : l.entryBefore p = none := by
        unfold LogStore.entryBefore
        cases l.pageBefore p <;> simp [LogStore.lastEntry_none h1]
      simp only [LogStore.lastFound, LogStore.lastEntry_none h1, hb, LogStore.latestNumber, h1]
      rfl
  · simp only [LogStore.filling_none hno, LogStore.lastFound, LogStore.latestFull_eq ht]
    rfl

/-- A scan with no write cut short fixes the last written number and changes nothing else (R191). -/
theorem LogStore.scan_eq {l : LogStore} {n : Nat} (found : CutWrite) (hc : l.cutWrite = none)
    (h : l.scanFinds n) : l.scan found = { l with lastWritten := n } := by
  have hs : l.foundSlot found = none := by simp only [LogStore.foundSlot, hc]
  have hn := LogStore.lastFound_eq h
  rcases h with ⟨p, hf, hu, hl, -⟩ | ⟨hno, -⟩
  · have : ¬ Config.pageSlots ≤ (l.page p).used.length := by simp [Config.pageSlots]; omega
    rw [LogStore.filling_unique hf hu] at hn
    simp only [LogStore.scan, hs, LogStore.filling_unique hf hu, LogStore.scanned, LogStore.rollOver,
      if_neg this, hn]
    simp [← hc]
  · rw [LogStore.filling_none hno] at hn
    simp only [LogStore.scan, hs, LogStore.filling_none hno, hn]
    simp [← hc]

end Sys2Proof.Machine
end

