-- ==== Sys2Proof/Tests/Slice0.lean ====
section
/-! SUPPORT. The model's own tests: ill-formed commands that `wellFormed` refuses, figures of the spec's
worked cases, one command each on a small state, and for each statement with hypotheses a witness that
meets them. -/

namespace Sys2Proof.Tests
open Sys2Proof Sys2Proof.Machine

-- One proof after another: each kernel evaluation would otherwise hold a thread of its own.
set_option Elab.async false

/-! ### Small states -/

/-- The state after a command, for tests. -/
def ran (c : Instr) (s : State) : State :=
  match exec c s with
  | .next t => t
  | _ => s

/-- Product 2 of the worked cases (chapter 2 and section 3.9). -/
def table2 : List CorrPoint := [⟨-100, 66623⟩, ⟨150, 65536⟩, ⟨400, 64449⟩]

/-- A product of high flash with that table. -/
def goods : Product := ⟨.enabled, Vector.replicate 8 0x41#8, 1202, 3, 0, .three, .high, table2⟩

/-- The driver of the worked case of section 6.14, on shift, with an empty ring. -/
def driver1 : Driver := ⟨4117, 20400, some 863000, Vector.replicate 14 ⟨0, 0, 0⟩, none⟩

/-- A part that runs, on day 10, with product 2 and one driver; no latch cause, nothing in progress. -/
def part : State :=
  { State.reset with
    phase := .running
    time := some 864000
    latch := ⟨false, false, false, false⟩
    products := State.reset.products.set 1 goods
    drivers := [driver1] }

/-- A compartment of product 2. -/
def comp (st : CompState) (arm : Option ArmRef) (acc : Acc) (deadline : Option Deadline) : Compartment :=
  ⟨1, 2, 740, 7600, 2, false, st, arm, acc, deadline⟩

/-- A compartment that nothing has been loaded into. -/
def planned : Compartment := comp .planned none Acc.zero none

/-- A set after report 2 of section 3.9. -/
def someVolume : Acc := ⟨7500, 488820500, 7500, 1746500, Flags.none⟩

/-- A delivery with one compartment. -/
def delivery (st : DelState) (bay : Option BayNo) (paper : Option Paper) (c : Compartment) : Delivery :=
  ⟨70214, some 4117, 812, 300, 420, [c], bay, st, HoldSet.empty, HoldSet.empty, none, paper, 900000, none,
    none⟩

/-- A first paper without lines. -/
def paper1 : Paper := ⟨1, 1, 863000, false, []⟩

/-- The record in slot 1 of the table. -/
def put (d : Delivery) (s : State) : State := s.setSlot 0 (some d)

/-- The record of bay 7. -/
def atBay7 (r : BayRecord) (s : State) : State := s.setBay 6 r

/-- An ONLINE bay bound to slot 1. -/
def bay7 (a : ArmRecord) (box : List Message) : BayRecord := ⟨.online, 0, some 0, none, a, .free, box, 0, 0⟩

theorem part_free : ∀ j, part.slot j = none := by decide

/-- In a table with one record, that record is the one of its reference. -/
theorem put_only {s : State} {d : Delivery} (h : ∀ j, s.slot j = none) :
    ∀ j e, (put d s).slot j = some e → j = 0 ∧ e = d := by
  intro j e hj
  rw [put, State.slot_setSlot] at hj
  split at hj
  · exact ⟨‹_›, (Option.some.inj hj).symm⟩
  · simp [h j] at hj

theorem put_slot (s : State) (d : Delivery) : (put d s).slot 0 = some d := State.slot_setSlot_self ..

theorem put_holdsAt {s : State} {d : Delivery} (h : ∀ j, s.slot j = none) : (put d s).holdsAt 0 d :=
  ⟨put_slot s d, fun j e hj _ => (put_only h j e hj).1⟩

/-- The part takes a request at once, whatever the record. -/
theorem part_ready (d : Delivery) (p : Port) (tag : Nat) : (put d part).ready p tag := by
  refine ⟨rfl, (by decide : part.log.status ≠ .failed), by cases p <;> rfl, by cases p <;> rfl, ?_⟩
  cases p <;> exact fun e he => nomatch he

/-! ### Ill-formed commands -/

theorem test_wf_tag : (Instr.status .gate 16).wellFormed = false := by decide
theorem test_wf_ref : (Instr.cancel .office 1 (2 ^ 32)).wellFormed = false := by decide
theorem test_wf_book_comps :
    (Instr.book .office 1 ⟨1, 0, 1, 1, 1, List.replicate 29 ⟨1, 1, 100, 100, 0, 0⟩⟩).wellFormed = false := by
  decide
theorem test_wf_book_comp : (BookComp.mk 1 256 100 100 0 0).wellFormed = false := by decide
theorem test_wf_amend_change :
    (Instr.amend .office 1 ⟨1, 0, 0, 65535, [⟨1, 65536⟩]⟩).wellFormed = false := by decide
theorem test_wf_define_without_data :
    (Instr.productDefine .office 1 ⟨1, 1, none⟩).wellFormed = false := by decide
theorem test_wf_point_temperature :
    (ProductData.mk (Vector.replicate 8 0x20#8) 0 0 0 0 0 [⟨-32769, 0⟩]).wellFormed = false := by decide
theorem test_wf_settings : (SettingsBody.mk 0 0 0 0 0 0 0 256 0).wellFormed = false := by decide
theorem test_wf_declaration :
    (Declaration.mk 0 (List.replicate 39 ⟨0, 0, 0⟩)).wellFormed = false := by decide +kernel
theorem test_wf_frame : (Instr.frameReceived .gate [1, 0, 0, 0]).wellFormed = false := by decide
theorem test_wf_answer : (Instr.answerReceived []).wellFormed = false := by decide
theorem test_wf_index : (Instr.permitWindowExpiry 0 7).wellFormed = false := by decide
theorem test_wf_target : (Instr.settleIntervalExpiry (.compartment 0 0)).wellFormed = false := by decide

/-! ### Figures of the worked cases -/

/-- Section 3.9, report 1: T = 231 draws 65,184. -/
theorem test_factor_of_report1 : factor table2 231 = 65184 := by decide
/-- Section 3.9, report 2: T = 235 draws 65,167. -/
theorem test_factor_of_report2 : factor table2 235 = 65167 := by decide
/-- Section 3.9, reports 1 and 2: the totals, 746 litres net, 750 gross, 23.2 degrees. -/
theorem test_two_reports :
    (increment table2 (increment table2 Acc.zero 4000 231).acc 7500 235).acc = someVolume
      ∧ someVolume.net = 746 ∧ someVolume.gross = 750 ∧ someVolume.average = some 232 := by
  decide +kernel
/-- Section 3.9, report 4: 841 litres pass the allowance of 100 over 740. -/
theorem test_report4_passes_the_plan :
    (increment table2 (increment table2 someVolume 8450 235).acc 8460 235).acc.net = 841 := by decide
/-- Section 3.9: two totals of 1,005 dL at the middle point are an exact half and round up. -/
theorem test_exact_half_rounds_up : (increment table2 Acc.zero 1005 150).acc.net = 101 := by decide
/-- R42: a lowered count is a regression, and nothing is counted. -/
theorem test_regression :
    (increment table2 someVolume 7499 235).acc =
      { someVolume with flags := { Flags.none with regression := true } } := by decide

/-- The declaration of section 6.14. -/
def declared : Declaration :=
  ⟨1736659800, [⟨20085, 600, 700⟩, ⟨20088, 500, 620⟩, ⟨20089, 540, 650⟩, ⟨20090, 480, 590⟩, ⟨20091, 0, 0⟩,
    ⟨20092, 0, 0⟩, ⟨20093, 530, 640⟩, ⟨20094, 510, 630⟩, ⟨20095, 520, 615⟩, ⟨20096, 540, 700⟩,
    ⟨20098, 450, 400⟩, ⟨20099, 500, 1500⟩, ⟨20098, 460, 600⟩, ⟨20087, 400, 520⟩]⟩

/-- The driver of section 6.14 before the arrival: slots 7 and 10 as given, the rest stale. -/
def before : Driver :=
  { driver1 with
    ring := ((Vector.replicate 14 (DayEntry.mk 20073 0 0)).set 10 ⟨20086, 480, 600⟩).set 7
      ⟨20083, 510, 640⟩ }

/-- Section 6.14: 12 entries kept, 2 altered, D0 = 0, R = 4,980, S = 40. -/
theorem test_declaration_figures :
    keptDays declared 20100 = 12 ∧ alteredDays declared 20100 = 2
      ∧ (before.declare declared 1736662200).drivingOn 20100 = 0
      ∧ (before.declare declared 1736662200).rolling 20100 = 4980
      ∧ (before.declare declared 1736662200).sinceShift 1736662200 = some 40 := by decide +kernel
/-- Section 6.14: slots 8, 9 and 7 after the merge. -/
theorem test_declaration_slots :
    (mergeRing before.ring declared 20100).get 8 = ⟨20098, 460, 600⟩
      ∧ (mergeRing before.ring declared 20100).get 9 = ⟨20099, 500, 1440⟩
      ∧ (mergeRing before.ring declared 20100).get 7 = ⟨20083, 510, 640⟩ := by decide
/-- Section 6.14: the margins of the arrival are 240, 120 and 320. -/
theorem test_margins_of_the_arrival :
    (project Settings.cold 1736662200 (before.declare declared 1736662200) 300 420 true) =
      ⟨HoldSet.empty, ⟨240, 120, some 320⟩⟩ := by decide
/-- Section 6.14: the commit of the release leaves 300 and 420 minutes on day 20,100. -/
theorem test_commit :
    (commitRing (mergeRing before.ring declared 20100) 20100 300 420).get 10 = ⟨20100, 300, 420⟩ := by
  decide +kernel

/-- R194: the register of that generator and start value has 29B1h after the nine digits (the catalogued
check value of this code). -/
theorem test_frame_check : crc16 [0x31, 0x32, 0x33, 0x34, 0x35, 0x36, 0x37, 0x38, 0x39] = 0x29B1 := by
  decide +kernel
/-- R195, by hand: value 1 leaves x^6 modulo x^6 + x + 1, which is x + 1. -/
theorem test_word_check : wordCheck 1 = 3 ∧ wordCheck 2 = 6 := by decide +kernel

/-! ### One command each -/

/-- The immediate responses that stand in a port's outgoing list after a command. -/
def answers (p : Port) (c : Instr) (s : State) : List FrameBody :=
  ((ran c s).port p).outgoing.map OutFrame.body

/-- A BOOK of the worked case. -/
def booking : BookBody := ⟨70214, 4117, 812, 300, 420, [⟨1, 2, 740, 7600, 2, 0⟩]⟩

/-- R13: the lowest slot, and 720 minutes on. -/
theorem test_book :
    answers .office (.book .office 1 booking) part = [.done (.booked 0 907200)] := by decide +kernel
/-- R12, check 2. -/
theorem test_book_duplicate :
    answers .office (.book .office 1 booking) (put (delivery .booked none none planned) part) =
      [.refused .duplicate] := by decide +kernel
/-- R17: a planned change above the capacity. -/
theorem test_amend_above_capacity :
    answers .office (.amend .office 1 ⟨70214, 0, 0, 65535, [⟨1, 7601⟩]⟩)
      (put (delivery .booked none none planned) part) = [.refused .badField] := by decide +kernel
/-- R19: a reference that is not in the table. -/
theorem test_cancel_unknown :
    answers .office (.cancel .office 1 5) part = [.refused .noDelivery] := by decide +kernel
/-- R22: a delivery that is at no bay. -/
theorem test_detach_arrived :
    answers .office (.detach .office 1 70214) (put (delivery .arrived none none planned) part) =
      [.refused .wrongState] := by decide +kernel
/-- R108, R110. -/
theorem test_driver_register_zero :
    answers .office (.driverRegister .office 1 0 3) part = [.refused .badField] := by decide +kernel
theorem test_driver_remove_unknown :
    answers .office (.driverRemove .office 1 5) part = [.refused .unknownDriver] := by decide +kernel
/-- R33, check 2. -/
theorem test_product_state_undefined :
    answers .office (.productState .office 1 1 1) part = [.refused .wrongState] := by decide +kernel
/-- R182, check 2. -/
theorem test_time_set_backwards :
    answers .office (.timeSet .office 1 863999) part = [.refused .backwards] := by decide +kernel
/-- R157: nothing has been written. -/
theorem test_log_read_not_written :
    answers .office (.logRead .office 1 1 1) part = [.refused .notWritten] := by decide +kernel
/-- R159: a page above 63. -/
theorem test_reclaim_bad_page :
    answers .office (.reclaim .office 1 64) part = [.refused .badField] := by decide +kernel
/-- R77: a bay above 12. -/
theorem test_bay_read_13 :
    answers .office (.bayRead .office 1 13) part = [.refused .badField] := by decide +kernel
/-- R188: RESTART COLD with a delivery in the table. -/
theorem test_restart_cold_in_use :
    answers .office (.restart .office 1 2) (put (delivery .booked none none planned) part) =
      [.refused .inUse] := by decide +kernel
/-- R112: ARRIVE at the other port. -/
theorem test_arrive_wrong_port :
    answers .office (.arrive .office 1 ⟨70214, 4117, none⟩) part = [.refused .wrongPort] := by
  decide +kernel
/-- R120: D0 0, R 0, S 16 minutes, margins 540, 5,400 and 764; endorsed until day 20,400. -/
theorem test_hours_query :
    answers .gate (.hoursQuery .gate 1 4117) part =
      [.done (.hours 0 0 (some 16) none ⟨540, 5400, some 764⟩ 20400 true)] := by decide +kernel
/-- R134: a delivery that is only BOOKED has no paper to release. -/
theorem test_release_booked :
    answers .gate (.release .gate 1 70214 4117) (put (delivery .booked none none planned) part) =
      [.refused .notLoaded] := by decide +kernel
/-- R167: a frame with a wrong check is counted and not answered. -/
theorem test_frame_with_wrong_check :
    (ran (.frameReceived .gate [2, 0x11, 0x16, 0, 0]) part).gate =
      { PortState.started with errors := 1 } := by decide +kernel
/-- R181: one second. -/
theorem test_time_advances : (ran .terminalTimeAdvance part).time = some 864001 := by decide +kernel
/-- R193, R76: the ports open after the scan; a cold start has set the latch, so an ALL_STOP is owed. -/
theorem test_scan_opens_the_ports :
    (ran (.startUpScanEnd []) State.reset).phase = .running
      ∧ (ran (.startUpScanEnd []) State.reset).rack.roundStop = true
      ∧ (ran (.startUpScanEnd []) State.reset).log.queue.map Entry.seq = [1] := by decide +kernel
/-- R187, R189: a return with the backup supply failed starts cold. -/
theorem test_power_return_cold :
    (ran (.powerReturn true) (ran (.powerLoss .betweenEvents) part)).lastStart = .cold
      ∧ (ran (.powerReturn true) (ran (.powerLoss .betweenEvents) part)).latch =
        ⟨false, false, true, false⟩ := by decide +kernel
/-- The queue: step takes the front command. -/
theorem test_step :
    (match step { part with pending := [.terminalTimeAdvance, .exchangeStart] } with
      | .next t => (t.pending, t.time)
      | _ => ([], none)) = ([.exchangeStart], some 864001) := by decide +kernel

/-! ### Witnesses: for each statement with hypotheses, a state and operands that meet them all

One theorem to a statement, or one to a clause, named after the statement. -/

theorem ran_next {c : Instr} {s : State}
    (h : (match exec c s with | .next _ => true | _ => false) = true) : exec c s = .next (ran c s) := by
  unfold ran
  revert h
  cases exec c s <;> simp

theorem ready_of {s : State} {p : Port} (tag : Nat)
    (h : s.phase = .running ∧ s.log.status ≠ .failed ∧ (s.port p).inService = none
      ∧ (s.port p).queue = [] ∧ (s.port p).deferred = []) : s.ready p tag := by
  refine ⟨h.1, h.2.1, h.2.2.1, h.2.2.2.1, ?_⟩
  simp [h.2.2.2.2]

theorem part_accepts : part.log.accepts := by
  unfold LogStore.accepts
  decide +kernel

theorem comps_single {P : Compartment → Prop} {c : Compartment} (h : P c) : ∀ x ∈ [c], P x := by
  simpa using h

theorem witness_StepTakesTheFrontCommand : part.pending = [] ∧ part.phase ≠ .unpowered := by decide

/-- An office port that serves a request while `n` wait, with `r` refusal records. -/
def crowded (n r : Nat) : State :=
  { part with office := { PortState.started with
      inService := some (1, 0x16)
      queue := List.replicate n (.request ⟨2, 0x16, .status⟩) ++ List.replicate r (.refusal 2 0x16) } }

/-- The queue at 0 and 3 waiting, the refusal records at 0 and 7, and full. -/
theorem witness_RequestsAreServedInArrivalOrder :
    requestOf (.status .office 3) = some (.office, ⟨3, 0x16, .status⟩)
      ∧ ∀ x ∈ [(0, 0), (3, 0), (4, 0), (4, 7), (4, 8)],
        (crowded x.1 x.2).phase ≠ .unpowered ∧ ((crowded x.1 x.2).port .office).inService ≠ none
          ∧ ((crowded x.1 x.2).port .office).waiting = x.1
          ∧ ((crowded x.1 x.2).port .office).records = x.2 := by decide +kernel

theorem witness_PortChecksAnswerFirst_starting :
    requestOf (.status .gate 1) = some (.gate, ⟨1, 0x16, .status⟩) ∧ State.reset.phase = .step3
      ∧ (State.reset.port .gate).inService = none ∧ (State.reset.port .gate).queue = [] := by decide

/-- The last office code at the gate, and the first gate code at the office. -/
theorem witness_PortChecksAnswerFirst_wrongPort :
    requestOf (.restart .gate 1 1) = some (.gate, ⟨1, 0x15, .restart 1⟩)
      ∧ requestOf (.arrive .office 1 ⟨1, 1, none⟩) = some (.office, ⟨1, 0x20, .arrive ⟨1, 1, none⟩⟩)
      ∧ part.phase = .running ∧ (part.port .gate).inService = none ∧ (part.port .gate).queue = []
      ∧ (part.port .office).inService = none ∧ (part.port .office).queue = [] := by decide

/-- The last code before RESTART and STATUS. -/
theorem witness_PortChecksAnswerFirst_storeFailed :
    let s : State := { part with log := { part.log with status := .failed } }
    requestOf (.bayRead .office 1 0) = some (.office, ⟨1, 0x14, .bayRead 0⟩) ∧ s.phase = .running
      ∧ (s.port .office).inService = none ∧ (s.port .office).queue = [] ∧ s.log.status = .failed := by
  decide

/-- A part with a CANCEL of tag 1 in the office port's deferred table. -/
def deferring : State :=
  { part with office := { PortState.started with deferred := [⟨1, 0x03, .delivery 70214 1⟩] } }

theorem witness_PortChecksAnswerFirst_tagInUse :
    requestOf (.status .office 1) = some (.office, ⟨1, 0x16, .status⟩) ∧ deferring.phase = .running
      ∧ (deferring.port .office).inService = none ∧ (deferring.port .office).queue = []
      ∧ deferring.log.status ≠ .failed
      ∧ ∃ e ∈ (deferring.port .office).deferred, e.tag = 1 := by decide

theorem witness_BookEntersTheTable :
    part.ready .office 1 ∧ bookable booking ∧ (∀ j d, part.slot j = some d → d.ref ≠ booking.ref)
      ∧ (∀ c ∈ booking.comps, (part.product c.product).state = .enabled) ∧ part.time = some 864000
      ∧ part.slot 0 = none ∧ (∀ j : SlotNo, j < 0 → part.slot j ≠ none) ∧ part.log.accepts := by
  refine ⟨ready_of 1 (by decide), by unfold bookable; decide, ?_, by decide, rfl, part_free 0, ?_,
    part_accepts⟩
  · intro j d h
    simp [part_free j] at h
  · intro j h
    exact absurd h (by simp)

/-- The delivery of the worked case, BOOKED, alone in the table. -/
def booked : Delivery := delivery .booked none none planned

/-- Every part of the body given, the planned litres at the capacity; and the planned litres alone. -/
theorem witness_AmendChangesItsParts :
    ∀ b ∈ [AmendBody.mk 70214 30 60 9 [⟨1, 7600⟩], AmendBody.mk 70214 0 0 65535 [⟨1, 100⟩]],
      (put booked part).ready .office 1 ∧ (put booked part).holdsAt 0 booked ∧ booked.ref = b.ref
        ∧ (put booked part).owned booked = false ∧ amendable b booked
        ∧ (put booked part).log.accepts := by
  intro b hb
  simp only [List.mem_cons, List.not_mem_nil, or_false] at hb
  rcases hb with rfl | rfl <;>
  · refine ⟨part_ready _ _ _, put_holdsAt part_free, rfl, by decide, ?_, part_accepts⟩
    refine ⟨by decide, by decide, by decide, by decide, ?_, by decide⟩
    intro x hx
    obtain rfl := List.mem_singleton.mp hx
    exact ⟨by decide, planned, rfl, rfl, by decide⟩

/-- A delivery at bay 7. -/
def atBay : Delivery := delivery .atBay (some 6) none planned

theorem witness_CancelWaitsForItsEntry :
    (put atBay part).ready .office 1 ∧ (put atBay part).office.deferred.length < 8
      ∧ (put atBay part).holdsAt 0 atBay ∧ (put atBay part).owned atBay = false
      ∧ atBay.state ≠ .loaded ∧ atBay.state ≠ .held
      ∧ (∀ c ∈ atBay.comps,
        c.acc.G = 0 ∧ (c.state = .planned ∨ c.state = .done ∨ c.state = .void))
      ∧ (put atBay part).log.accepts :=
  ⟨part_ready _ _ _, by decide, put_holdsAt part_free, by decide, by decide, by decide, by decide,
    part_accepts⟩

/-- Bay 7 as it stands after a start: SILENT. -/
theorem witness_DetachEndsTheSession_arrived :
    (put atBay part).ready .office 1 ∧ (put atBay part).holdsAt 0 atBay
      ∧ (put atBay part).owned atBay = false ∧ atBay.state = .atBay ∧ atBay.bay = some 6
      ∧ ((put atBay part).bay 6).link = .silent ∧ (put atBay part).log.accepts
      ∧ ∀ c ∈ atBay.comps, c.state ≠ .interrupted ∧ (c.state = .done → c.acc.G = 0) :=
  ⟨part_ready _ _ _, put_holdsAt part_free, by decide, rfl, rfl, by decide, part_accepts, by decide⟩

/-- An INTERRUPTED compartment at arm B of bay 7. -/
def interrupted : Compartment := comp .interrupted (some ⟨6, .B⟩) someVolume none

/-- One DONE compartment with a decilitre metered, and one INTERRUPTED. -/
theorem witness_DetachEndsTheSession_loaded :
    ∀ c ∈ [comp .done none { Acc.zero with G := 1 } none, interrupted],
      let d := delivery .atBay (some 6) none c
      (put d part).ready .office 1 ∧ (put d part).holdsAt 0 d ∧ (put d part).owned d = false
        ∧ d.state = .atBay ∧ d.bay = some 6 ∧ ((put d part).bay 6).link = .silent
        ∧ (put d part).log.accepts
        ∧ (∃ c ∈ d.comps, c.state = .interrupted ∨ (c.state = .done ∧ 0 < c.acc.G))
        ∧ (put d part).log.paperCounter < 4294967295 := by
  intro c hc
  simp only [List.mem_cons, List.not_mem_nil, or_false] at hc
  rcases hc with rfl | rfl <;>
    exact ⟨part_ready _ _ _, put_holdsAt part_free, by decide, rfl, rfl, by decide, part_accepts,
      by decide, by decide⟩

theorem witness_ReadsAnswerFromTheState_readouts :
    (put booked part).ready .office 1 ∧ (put booked part).holdsAt 0 booked :=
  ⟨part_ready _ _ _, put_holdsAt part_free⟩

/-- A deadline one second away, and one two seconds away. -/
theorem witness_TimeReachesBookingDeadlines :
    ∀ t ∈ [864001, 864002], let d : Delivery := { booked with deadline := t }
      (put d part).phase = .running ∧ (put d part).time = some 864000 ∧ 864000 < 4294967295
        ∧ (put d part).slot 0 = some d ∧ d.state = .booked
        ∧ (d.deadline ≤ 864000 + 1 ∨ 864000 + 1 < d.deadline) := by
  intro t ht
  simp only [List.mem_cons, List.not_mem_nil, or_false] at ht
  rcases ht with rfl | rfl <;> exact ⟨rfl, rfl, by decide, put_slot _ _, rfl, by decide⟩

/-- Without a declaration, and with one whose rest end is not yet reached. -/
theorem witness_ArriveBindsTheDriver :
    ∀ y ∈ [(none, 863000), (some (Declaration.mk 864060 [⟨10, 60, 90⟩]), 864000)],
      (put booked part).ready .gate 1 ∧ 70214 ≠ 0 ∧ (1 ≤ 4117 ∧ 4117 ≤ 65534)
        ∧ (∀ w, y.1 = some w → 1 ≤ w.days.length ∧ w.days.length ≤ 14)
        ∧ (put booked part).time = some 864000 ∧ (put booked part).holdsAt 0 booked
        ∧ booked.ref = 70214 ∧ (put booked part).owned booked = false ∧ booked.state = .booked
        ∧ (booked.driver = none ∨ booked.driver = some 4117)
        ∧ (put booked part).driver 4117 = some driver1 ∧ driver1.bound = none
        ∧ (y.1 = none → driver1.shiftStart = some y.2)
        ∧ (∀ w, y.1 = some w → y.2 = min w.restEnd 864000) ∧ (put booked part).log.accepts := by
  intro y hy
  simp only [List.mem_cons, List.not_mem_nil, or_false] at hy
  rcases hy with rfl | rfl
  · exact ⟨part_ready _ _ _, by decide, by decide, by simp, rfl, put_holdsAt part_free, rfl, by decide,
      rfl, by decide, rfl, rfl, by simp [driver1], by simp, part_accepts⟩
  · refine ⟨part_ready _ _ _, by decide, by decide, ?_, rfl, put_holdsAt part_free, rfl, by decide,
      rfl, by decide, rfl, rfl, by simp, ?_, part_accepts⟩ <;>
    · rintro w ⟨⟩
      decide

/-- The first and the last day of the window. -/
theorem witness_HoursAreMergedAndProjected :
    ∀ day ∈ [20100, 20087], day ≤ 20100 ∧ 20100 ≤ day + 13 := by decide

theorem witness_DriversAreRegisteredAndRemoved :
    part.ready .office 1 ∧ part.driver 4117 = some driver1 ∧ part.driverOwned driver1 = false
      ∧ driver1.bound = none ∧ part.driver 1 = none ∧ part.driver 65534 = none
      ∧ part.drivers.length < 128 :=
  ⟨ready_of 1 (by decide), by decide, by decide, by decide, by decide, by decide, by decide⟩

/-- An entry with number 1 that has been written. -/
def entry1 : Entry := ⟨1, some 0, 863000, 0, 0, .shutdownClear ⟨true, false, false, false⟩⟩

/-- A store that has written that entry. -/
def store1 : LogStore :=
  { LogStore.new with
    pages := LogStore.new.pages.set 0 ⟨.filling, [.entry entry1]⟩
    nextNumber := 2
    lastWritten := 1
    everWritten := true }

/-- A LOADED delivery with a paper. -/
def loaded (c : Compartment) : Delivery := delivery .loaded none (some paper1) c

theorem witness_ReadsAnswerFromTheState :
    let s : State := { put (loaded planned) part with log := store1 }
    s.ready .office 1 ∧ s.ready .gate 1 ∧ s.driver 4117 = some driver1 ∧ s.time = some 864000
      ∧ s.log.everWritten = true ∧ atOrBefore 1 s.log.lastWritten = true ∧ s.log.pageOf 1 = some 0
      ∧ (s.log.page 0).state ≠ .reclaiming ∧ s.holdsAt 0 (loaded planned)
      ∧ (loaded planned).ref ≠ 0 ∧ (loaded planned).paper = some paper1
      ∧ (loaded planned).state = .loaded := by
  have h := put_holdsAt (s := part) (d := loaded planned) part_free
  exact ⟨ready_of 1 (by decide), ready_of 1 (by decide), by decide, rfl, rfl, by decide,
    by decide +kernel, by decide, h, by decide, rfl, rfl⟩

theorem store1_page : ∀ p, store1.page p = if p = 0 then ⟨.filling, [.entry entry1]⟩ else Page.free := by
  decide +kernel

/-- The only entry, as many as the count asks for and fewer. -/
theorem witness_ReadsAnswerFromTheState_log :
    store1.seqsDiffer ∧ store1.reads 1 1 [entry1] ∧ store1.reads 1 8 [entry1] := by
  refine ⟨fun p q e f he hf _ => ?_, ?_, ?_⟩
  · rw [store1_page] at he hf
    split at he <;> split at hf <;> simp_all [Page.free]
  all_goals
    refine ⟨by decide, fun j e h => ?_, by decide⟩
    rcases j with _ | j
    · obtain rfl := Option.some.inj h
      exact ⟨by decide, by decide, 0, by rw [store1_page]; decide⟩
    · simp at h

/-- The data of the worked case's product 2, and of a product without UN number. -/
theorem witness_ProductsAreDefinedAndSwitched :
    part.ready .office 1 ∧ part.inUse (1 + 1) = 0 ∧ tableValid table2
      ∧ ∃ (data : ProductData) (e : Product), e = goods ∧ e.state = .enabled
        ∧ definable data ∧ data.points = table2
        ∧ e.name = data.name ∧ e.un = data.un ∧ e.cls = data.cls ∧ e.division = data.division
        ∧ e.packing.code = data.packing ∧ e.flash.code = data.flash ∧ e.points = data.points := by
  refine ⟨ready_of 1 (by decide), by decide +kernel, by unfold tableValid; decide,
    ⟨goods.name, 1202, 3, 0, 3, 1, table2⟩, goods, rfl, rfl, by unfold definable tableValid; decide,
    rfl, rfl, rfl, rfl, rfl, rfl, rfl, rfl⟩

theorem witness_ProductsAreDefinedAndSwitched_state :
    part.ready .office 1 ∧ (part.products.get 0).state = .undefined
      ∧ (part.products.get 1).state ≠ .undefined :=
  ⟨ready_of 1 (by decide), by decide, by decide⟩

/-- A write that keeps bays 1 to 11, with a bay 12 that is free, and with one that is bound; the values at
and past the ends of their ranges. -/
theorem witness_SettingsWriteClampsAndStores :
    let b : SettingsBody := ⟨239, 6001, 360, 4320, 501, 300, 900, 11, 0x0FFE⟩
    let polled : Vector Bool 12 := Vector.ofFn fun k => b.polled.testBit (k.val + 1)
    let busy := { part with bays := part.bays.set 11 { BayRecord.cold with bound := some 0 } }
    let free := { part with rack := { part.rack with roundLeft := [6] } }
    (busy.ready .office 1 ∧ ∃ k, busy.polled k = true ∧ polled.get k = false
        ∧ ((busy.bay k).bound ≠ none ∨ (busy.bay k).armA ≠ .free ∨ (busy.bay k).armB ≠ .free))
      ∧ free.ready .office 1
      ∧ (∀ k, free.polled k = true → polled.get k = false →
        (free.bay k).bound = none ∧ (free.bay k).armA = .free ∧ (free.bay k).armB = .free)
      ∧ free.rack.visit = none ∧ ∃ k ∈ free.rack.roundLeft, polled.get k = true := by
  refine ⟨⟨ready_of 1 (by decide), ?_⟩, ready_of 1 (by decide), ?_⟩ <;> decide +kernel

/-- The same second, and the second of a booking's deadline. -/
theorem witness_TimeSetMovesForwardOnly :
    (put booked part).ready .office 1 ∧ (put booked part).log.accepts
      ∧ (put booked part).time = some 864000
      ∧ (put booked part).slot 0 = some booked ∧ booked.state = .booked ∧ booked.deadline ≤ 900000
      ∧ 899999 < booked.deadline ∧ { part with time := none }.time = none :=
  ⟨part_ready _ _ _, part_accepts, rfl, put_slot _ _, rfl, by decide, by decide,
    rfl⟩

theorem witness_RestartBeginsOnceItsAnswerIsSent :
    (part.ready .office 1 ∧ ∀ i, part.slot i = none)
      ∧ ((put booked part).ready .office 1 ∧ ∃ i, (put booked part).slot i ≠ none)
      ∧ ∃ s : State, s.phase ≠ .unpowered ∧ s.checkWordValid = true
        ∧ s.office.outgoing = [⟨1, 0x15, .done (.restart .warm)⟩] := by
  refine ⟨⟨ready_of 1 (by decide), part_free⟩, ⟨part_ready _ _ _, 0, ?_⟩,
    ran (.restart .office 1 1) part, ?_⟩
  · rw [put_slot]
    simp
  · decide +kernel

theorem witness_LogRequestsMoveTheMarkAndCollectPages :
    part.ready .office 1 ∧ part.office.deferred.length < 8 ∧ part.log.engine.state = .idle :=
  ⟨ready_of 1 (by decide), by decide, by decide⟩

/-- The part while driver 4117 brings the delivery in. -/
theorem witness_ReleaseMakesOrphansAndWaits :
    let d : Delivery := { loaded interrupted with
      overrides := { HoldSet.empty with provisional := true, quantity := true } }
    (put d part).ready .gate 1 ∧ (put d part).gate.deferred.length < 8 ∧ d.ref ≠ 0
      ∧ (1 ≤ 4117 ∧ 4117 ≤ 65534) ∧ (put d part).holdsAt 0 d ∧ (put d part).owned d = false
      ∧ (d.state = .loaded ∨ d.state = .held) ∧ d.paper = some paper1 ∧ d.driver = some 4117
      ∧ (∀ c ∈ d.comps, c.state ≠ .stopping)
      ∧ (∃ c ∈ d.comps, c.state = .interrupted) ∧ d.overrides.provisional = true
      ∧ d.overrides.quantity = true
      ∧ ((put d part).projectFor d).failing.without d.overrides = HoldSet.empty
      ∧ (put d part).log.accepts
      ∧ ((d.comps.filter fun c => c.state == CompState.interrupted).map Compartment.arm).Nodup := by
  refine ⟨part_ready _ _ _, by decide, by decide, by decide, put_holdsAt part_free, by decide, by decide,
    rfl, rfl, by decide, by decide, by decide, by decide, by decide +kernel, part_accepts, by decide⟩

/-- An INTERRUPTED compartment without an override: PROVISIONAL holds it. -/
theorem witness_ReleaseIsHeldByItsHolds :
    ∀ waiting ∈ [[], [⟨1, 0x22, .delivery 5 7⟩]],
      let d := loaded interrupted
      let s : State := { put d part with gate := { part.gate with deferred := waiting } }
      let raised := { (s.projectFor d).failing with
        provisional := d.comps.any fun c => c.state == CompState.interrupted
        quantity := false
        logFull := decide (s.log.freeSpace < 65) }
      s.portFree .gate ∧ d.ref ≠ 0 ∧ s.holdsAt 0 d ∧ s.owned d = false ∧ d.state = .loaded
        ∧ d.paper = some paper1 ∧ d.driver = some 4117 ∧ (∀ c ∈ d.comps, c.state ≠ .stopping)
        ∧ raised.without d.overrides ≠ HoldSet.empty := by
  intro waiting hw
  have h := put_holdsAt (s := part) (d := loaded interrupted) part_free
  simp only [List.mem_cons, List.not_mem_nil, or_false] at hw
  rcases hw with rfl | rfl <;>
    exact ⟨⟨rfl, (by decide : part.log.status ≠ .failed), rfl, rfl⟩, by decide, h, by decide, rfl, rfl, rfl,
      by decide, by decide +kernel⟩

theorem witness_OverrideWaitsForItsEntry :
    let d := loaded planned
    (put d part).ready .office 1 ∧ (put d part).office.deferred.length < 8 ∧ d.ref ≠ 0
      ∧ 1 ≠ 0 ∧ 31 < 32 ∧ (put d part).holdsAt 0 d ∧ (put d part).owned d = false
      ∧ d.state ≠ .booked ∧ (put d part).log.accepts :=
  ⟨part_ready _ _ _, by decide, by decide, by decide, by decide, put_holdsAt part_free, by decide,
    by decide, part_accepts⟩

theorem witness_FramesOfRequestsAreTheirCommands :
    requestOf (.book .office 15 booking) = some (.office, ⟨15, 0x01, .book booking⟩)
      ∧ (Instr.book .office 15 booking).wellFormed = true ∧ part.phase ≠ .unpowered
      ∧ (part.port .office).receiver = none := by decide

/-- A wrong check, a frame that is too short, a length that does not match and a kind that is not
REQUEST. -/
theorem witness_TheReceiverTakesBytesByPosition_frames :
    part.phase ≠ .unpowered ∧ (part.port .gate).receiver = none
      ∧ ∀ content ∈ [[2, 0x11, 0x16, 0, 0], [1, 0, 0, 0], [3, 0x11, 0x16, 0, 0], [2, 0x21, 0x16, 0, 0]],
        content.length < 5 ∨ crc16 (content.take (content.length - 2)) ≠
            field content (content.length - 2) 2
          ∨ field content 0 1 + 3 ≠ content.length ∨ 242 < field content 0 1
          ∨ field content 1 1 / 16 ≠ 1 := by decide +kernel

/-- The length bytes 1 and 243 in a frame that has just begun; and a frame of the least and the greatest
length on a hunting receiver. -/
theorem witness_TheReceiverTakesBytesByPosition_bytes :
    let s : State := { part with gate := { part.gate with receiver := some ⟨[], 20000⟩ } }
    s.phase ≠ .unpowered ∧ (s.port .gate).receiver = some ⟨[], 20000⟩
      ∧ (∀ byte ∈ [(1 : Byte), 243], byte.toNat < 2 ∨ 242 < byte.toNat)
      ∧ (part.port .gate).receiver = none
      ∧ ∀ len ∈ [(2 : Byte), 242], 2 ≤ len.toNat ∧ len.toNat ≤ 242
        ∧ (List.replicate (len.toNat + 2) (0 : Byte)).length = len.toNat + 2 := by decide +kernel

/-- An office port with a frame to send, and what waits behind it. -/
def sending (body : FrameBody) (queue : List QueueItem) : State :=
  { part with office := { PortState.started with
      inService := if body.kind = 6 then none else some (1, 0x16)
      queue := queue
      outgoing := [⟨1, 0x16, body⟩] } }

/-- A REPLY, and an immediate response with nothing, a refusal record, and a request behind it. -/
theorem witness_RequestsAreServedInArrivalOrder_sent :
    FrameBody.replyDone.kind = 6 ∧ (FrameBody.retry .owned).kind ≠ 6
      ∧ requestOf (.status .office 2) = some (.office, ⟨2, 0x16, .status⟩)
      ∧ ∀ x ∈ [(FrameBody.replyDone, []), (.retry .owned, []),
          (.retry .owned, [QueueItem.refusal 2 0x16]),
          (.retry .owned, [.request ⟨2, 0x16, .status⟩])],
        (sending x.1 x.2).phase ≠ .unpowered
          ∧ ((sending x.1 x.2).port .office).outgoing = [⟨1, 0x16, x.1⟩]
          ∧ x.1 ≠ .done (.restart .warm) ∧ x.1 ≠ .done (.restart .cold)
          ∧ ((sending x.1 x.2).port .office).queue = x.2 := by decide +kernel

/-- The line at bay 7 between two exchanges. -/
def visiting (s : State) : State := { s with rack := { s.rack with visit := some ⟨6, 0, false⟩ } }

/-- An exchange in progress with bay 7, which sent `sent`. -/
def exchanging (sent : Option Message) (s : State) : State :=
  { s with rack := { s.rack with visit := some ⟨6, 0, false⟩, exchange := some ⟨sent, 528⟩ } }

/-- A visit in progress, a visit that begins, and an ALL_STOP owed for either reason. -/
theorem witness_ExchangesSendTheOutboxInTurn :
    let next : State := { part with rack := { part.rack with roundLeft := [6] } }
    let latch : State := { part with rack := { part.rack with latchStop := true } }
    let round : State := { part with rack := { part.rack with roundStop := true } }
    (∀ s ∈ [visiting part, next], s.phase = .running ∧ s.rack.exchange = none
        ∧ s.rack.latchStop = false ∧ s.rack.roundStop = false)
      ∧ (visiting part).rack.visit = some ⟨6, 0, false⟩ ∧ next.rack.visit = none
      ∧ next.rack.roundLeft = [6]
      ∧ latch.phase = .running ∧ latch.rack.exchange = none ∧ latch.rack.latchStop = true
      ∧ round.phase = .running ∧ round.rack.exchange = none ∧ round.rack.latchStop = false
      ∧ round.rack.roundStop = true := by decide +kernel

/-- Bay 7 at each point of the way to silence, with an exchange in progress. -/
theorem witness_MissesCountDownToSilence :
    ∀ x ∈ [(Link.online, 0), (.suspect, 1), (.suspect, 2), (.silent, 3)],
      let s := exchanging none (atBay7 { BayRecord.cold with link := x.1, missed := x.2 } part)
      s.phase = .running ∧ s.rack.visit = some ⟨6, 0, false⟩ ∧ s.rack.exchange = some ⟨none, 528⟩
        ∧ (s.bay 6).link = x.1 ∧ (s.bay 6).missed = x.2 := by decide +kernel

/-- An answer whose head word is damaged. -/
theorem witness_MissesCountDownToSilence_damaged :
    let s := exchanging none part
    s.phase = .running ∧ s.rack.visit = some ⟨6, 0, false⟩ ∧ s.rack.exchange = some ⟨none, 528⟩
      ∧ decodeAnswer 6 [⟨false, 0, 0⟩] = none
      ∧ exec .answerWindowExpiry { s with rack := { s.rack with exchange := some ⟨none, 0⟩ } } =
        .next (ran .answerWindowExpiry
          { s with rack := { s.rack with exchange := some ⟨none, 0⟩ } }) :=
  ⟨rfl, rfl, rfl, by decide +kernel, ran_next (by decide +kernel)⟩

theorem witness_AnswersReadBackWhole :
    (Answer.status [⟨.A, 0, -2048, true, false⟩, ⟨.B, 16777215, 2047, false, true⟩]).wellFormed = true
      ∧ (Answer.claim 4294967295).wellFormed = true ∧ (Answer.start .B 7 31).wellFormed = true
      ∧ Answer.finish.wellFormed = true ∧ (Answer.fault 4).wellFormed = true := by decide

/-- A CLAIM of an ARRIVED delivery from an ONLINE bay that is bound to nothing: granted. -/
theorem witness_ClaimsAreJudgedInOrder :
    let d := delivery .arrived none none planned
    let s := exchanging none (atBay7 { BayRecord.cold with link := .online, missed := 0 } (put d part))
    s.exchanging ⟨6, 0, false⟩ none ∧ s.polled 6 = true ∧ (s.bay 6).link ≠ .silent
      ∧ (∀ m ∈ withoutSent (s.bay 6).outbox none, m.isVerdict = false ∧ m ≠ .dismiss)
      ∧ s.holdsAt 0 d ∧ d.ref ≠ 0 ∧ d.ref < 2 ^ 32 ∧ s.owned d = false
      ∧ ¬ (d.state = .atBay ∧ d.bay = some 6) ∧ (s.bay 6).bound = none ∧ (s.bay 6).armA = .free
      ∧ (s.bay 6).armB = .free ∧ d.state = .arrived
      ∧ (s.projectFor d).failing.without d.overrides = HoldSet.empty := by
  exact ⟨⟨rfl, rfl, rfl, _, rfl, rfl⟩, by decide, by decide, by decide,
    put_holdsAt (s := part) part_free, by decide, by decide, by decide, by decide, by decide, by decide,
    by decide, rfl, by decide +kernel⟩

/-- A repeated claim, and a delivery that a CANCEL owns. -/
theorem witness_ClaimsAreJudgedInOrder_others :
    let s := exchanging none (atBay7 (bay7 .free []) (put atBay part))
    let d := delivery .cancelling none none planned
    s.exchanging ⟨6, 0, false⟩ none ∧ s.holdsAt 0 atBay ∧ s.owned atBay = false
      ∧ atBay.state = .atBay ∧ atBay.bay = some 6
      ∧ (exchanging none (atBay7 (bay7 .free []) (put d part))).holdsAt 0 d
      ∧ (exchanging none (atBay7 (bay7 .free []) (put d part))).owned d = true :=
  ⟨⟨rfl, rfl, rfl, _, rfl, rfl⟩, put_holdsAt (s := part) part_free, by decide, rfl, rfl,
    put_holdsAt (s := part) part_free, by decide⟩

/-- A START of arm A for compartment 1, with the right product and with code 31. -/
theorem witness_StartsAreJudgedInOrder :
    let s := exchanging none (atBay7 (bay7 .free []) (put atBay part))
    s.exchanging ⟨6, 0, false⟩ none ∧ s.polled 6 = true ∧ (s.bay 6).link ≠ .silent
      ∧ (∀ m ∈ withoutSent (s.bay 6).outbox none, m.isVerdict = false) ∧ (s.bay 6).bound = some 0
      ∧ s.slot 0 = some atBay ∧ s.owned atBay = false ∧ atBay.comp 1 = some planned
      ∧ planned.index < 8 ∧ 2 < 32 ∧ 31 < 32
      ∧ (∀ m ∈ withoutSent (s.bay 6).outbox none,
        m.isPermit .A = true → (s.bay 6).armRecord .A ≠ .free)
      ∧ planned.state = .planned ∧ (s.bay 6).armRecord .A = .free ∧ s.latch.isSet = false
      ∧ (s.product planned.product).state = .enabled ∧ planned.product = 2
      ∧ (s.product planned.last).flash = .high :=
  ⟨⟨rfl, rfl, rfl, _, rfl, rfl⟩, by decide, by decide, by decide, by decide, put_slot part atBay,
    by decide, rfl, by decide, by decide, by decide, by decide, rfl, by decide, by decide, by decide, rfl,
    by decide⟩

/-- A delivery at bay 7 with a compartment in a state, at arm A. -/
def loadingAt (st : CompState) (acc : Acc) (deadline : Option Deadline) : Compartment :=
  comp st (some ⟨6, .A⟩) acc deadline

/-- Its state, with bay 7 bound and its arm referring to the compartment. -/
def loading (c : Compartment) : State :=
  exchanging none (atBay7 (bay7 (.compartment 0 1) []) (put (delivery .atBay (some 6) none c) part))

/-- A row of each table: a first flow, a flow that goes on past its plan, a stop awaited, a settling valve
that opens again, and the end of an interruption. -/
theorem witness_ReportsMoveTheCompartment :
    ∀ c ∈ [loadingAt .permitted Acc.zero (some ⟨.permitWindow, 900⟩),
        loadingAt .flowing someVolume (some ⟨.flowingLimit, 900⟩),
        loadingAt .stopping someVolume (some ⟨.stopDeadline, 900⟩),
        loadingAt .stopping someVolume (some ⟨.settleInterval, 900⟩),
        loadingAt .interrupted someVolume none],
      let d := delivery .atBay (some 6) none c
      let q : Report := ⟨.A, 16777215, 2047, true, false⟩
      (loading c).exchanging ⟨6, 0, false⟩ none ∧ (loading c).polled 6 = true
        ∧ ((loading c).bay 6).link ≠ .silent ∧ q.wellFormed = true
        ∧ ((loading c).bay 6).armRecord q.arm = .compartment 0 c.index
        ∧ (loading c).slot 0 = some d ∧ d.comp c.index = some c
        ∧ (c.state = .permitted ∨ c.state = .flowing
          ∨ (c.state = .stopping ∧ c.deadline.map Deadline.kind = some .stopDeadline)
          ∨ (c.state = .stopping ∧ c.deadline.map Deadline.kind = some .settleInterval)
          ∨ c.state = .interrupted)
        ∧ q.valveOpen = true ∧ ∀ y ∈ d.comps, y.index = c.index → y = c := by
  intro c hc
  simp only [List.mem_cons, List.not_mem_nil, or_false] at hc
  rcases hc with rfl | rfl | rfl | rfl | rfl <;>
    exact ⟨⟨rfl, rfl, rfl, _, rfl, rfl⟩, by decide, by decide, by decide, by decide, put_slot part _,
      rfl, by decide, rfl, by simp [delivery]⟩

/-- The four deadlines, each of a compartment in the state that it belongs to. -/
theorem witness_PermitWindowReturnsToPlanned :
    let c := loadingAt .permitted Acc.zero (some ⟨.permitWindow, 900⟩)
    (loading c).phase = .running ∧ (loading c).slot 0 = some (delivery .atBay (some 6) none c)
      ∧ (delivery .atBay (some 6) none c).comp c.index = some c
      ∧ (∀ y ∈ (delivery .atBay (some 6) none c).comps, y.index = c.index → y = c)
      ∧ c.state = .permitted ∧ c.deadline = some ⟨.permitWindow, 900⟩ ∧ c.arm = some ⟨6, .A⟩ ∧ c.lawful :=
  ⟨rfl, put_slot part _, rfl, by simp [delivery], rfl, rfl, rfl, by unfold Compartment.lawful; decide⟩

theorem witness_FlowingLimitStopsTheFlow :
    let c := loadingAt .flowing someVolume (some ⟨.flowingLimit, 900⟩)
    (loading c).phase = .running ∧ (loading c).slot 0 = some (delivery .atBay (some 6) none c)
      ∧ (delivery .atBay (some 6) none c).comp c.index = some c
      ∧ (∀ y ∈ (delivery .atBay (some 6) none c).comps, y.index = c.index → y = c)
      ∧ c.state = .flowing ∧ c.deadline = some ⟨.flowingLimit, 900⟩ ∧ c.arm = some ⟨6, .A⟩ :=
  ⟨rfl, put_slot part _, rfl, by simp [delivery], rfl, rfl, rfl⟩

/-- A settling compartment with and without volume, at a bay and in a LOADED delivery. -/
theorem witness_SettleIntervalEndsTheLoading :
    ∀ acc ∈ [Acc.zero, someVolume], ∀ st ∈ [DelState.atBay, .loaded],
      let c := loadingAt .stopping acc (some ⟨.settleInterval, 900⟩)
      let d := delivery st (some 6) (some paper1) c
      let s := atBay7 (bay7 (.compartment 0 1) []) (put d part)
      s.phase = .running ∧ s.slot 0 = some d ∧ d.comp c.index = some c
        ∧ (∀ y ∈ d.comps, y.index = c.index → y = c) ∧ c.state = .stopping
        ∧ c.deadline = some ⟨.settleInterval, 900⟩ ∧ c.arm = some ⟨6, .A⟩
        ∧ (d.state ≠ .loaded ∧ d.state ≠ .held ∨ d.state = .loaded) ∧ d.paper = some paper1 := by
  intro acc _ st hst
  simp only [List.mem_cons, List.not_mem_nil, or_false] at hst
  rcases hst with rfl | rfl <;>
    exact ⟨rfl, put_slot part _, rfl, by simp [delivery], rfl, rfl, rfl, by simp [delivery], rfl⟩

/-- An orphan of arm A at bay 7. -/
def orphan (st : OrphanState) (deadline : Option Deadline) : Orphan :=
  ⟨70214, 1, 2, 740, 7600, st, deadline, someVolume⟩

theorem witness_SettleIntervalEndsTheLoading_orphan :
    let o := orphan .stopping (some ⟨.settleInterval, 900⟩)
    let s := atBay7 (bay7 (.orphan o) []) part
    s.phase = .running ∧ s.arm 6 .A = .orphan o ∧ o.state = .stopping
      ∧ o.deadline = some ⟨.settleInterval, 900⟩ := by decide

/-- With an empty latch, and with STOP_FAILED in it. -/
theorem witness_StopDeadlineLatchesTheFailure :
    ∀ l ∈ [Latch.mk false false false false, ⟨false, true, false, false⟩],
      let c := loadingAt .stopping someVolume (some ⟨.stopDeadline, 900⟩)
      let d := delivery .atBay (some 6) none c
      let s : State := { loading c with latch := l }
      s.phase = .running ∧ s.slot 0 = some d ∧ d.comp c.index = some c
        ∧ (∀ y ∈ d.comps, y.index = c.index → y = c) ∧ c.state = .stopping
        ∧ c.deadline = some ⟨.stopDeadline, 900⟩ ∧ c.arm = some ⟨6, .A⟩
        ∧ (s.latch = ⟨false, false, false, false⟩ ∨ s.latch.stopFailed = true) := by
  intro l hl
  simp only [List.mem_cons, List.not_mem_nil, or_false] at hl
  rcases hl with rfl | rfl <;>
    exact ⟨rfl, put_slot part _, rfl, by simp [delivery], rfl, rfl, rfl, by decide⟩

/-- A FLOWING and a PERMITTED compartment under an input that rises; and a SHUTDOWN_CLEAR with the input
asserted, with an empty latch and with a cause. -/
theorem witness_TheShutdownLatchStopsEveryFlow :
    let c := loadingAt .flowing someVolume (some ⟨.flowingLimit, 900⟩)
    let s := loading c
    let up : State := { part with shutdownInput := true }
    let latched : State := { part with latch := ⟨true, false, false, false⟩ }
    s.shutdownInput = false ∧ s.phase = .running ∧ s.latch = ⟨false, false, false, false⟩
      ∧ s.slot 0 = some (delivery .atBay (some 6) none c) ∧ c.state = .flowing
      ∧ c.arm = some ⟨6, .A⟩ ∧ s.polled 6 = true ∧ (s.bay 6).link ≠ .silent
      ∧ up.ready .office 1 ∧ up.shutdownInput = true
      ∧ part.ready .office 1 ∧ part.shutdownInput = false
      ∧ latched.ready .office 1 ∧ latched.shutdownInput = false
      ∧ latched.latch ≠ ⟨false, false, false, false⟩ :=
  ⟨rfl, rfl, rfl, put_slot part _, rfl, rfl, by decide, by decide, ready_of 1 (by decide), rfl,
    ready_of 1 (by decide), rfl, ready_of 1 (by decide), rfl, by decide⟩

/-- A running part with this queue in a page with `n` used slots, whose write of the front entry is in
progress. -/
def writing (n : Nat) (queue : List Entry) : State :=
  { part with log := { LogStore.new with
      pages := LogStore.new.pages.set 0 ⟨.filling, List.replicate n .void⟩
      queue := queue
      writing := true } }

/-- The lowest slot, slot 30 and slot 31 of page 0; page 1 is the next page that is not BAD. -/
theorem witness_EntriesAreAdmittedAndWritten_pages :
    ∀ n ∈ [0, 30, 31],
      (writing n [entry1]).phase = .running ∧ (writing n [entry1]).log.writing = true
        ∧ (writing n [entry1]).log.queue = [entry1]
        ∧ ((writing n [entry1]).log.page 0).state = .filling
        ∧ (∀ q, ((writing n [entry1]).log.page q).state = .filling → q = 0)
        ∧ ((writing n [entry1]).log.page 0).used.length = n
        ∧ entry1.payload.code ∉ [9, 10, 11, 12]
        ∧ (1 : PageNo).val = ((0 : PageNo).val + 1 + 0) % 64
        ∧ ((writing n [entry1]).log.page 1).state ≠ .bad := by decide +kernel

/-- The entry that each kind of delivery waits for. -/
def entryOf (x : Payload) : Entry := ⟨1, some 0, 863000, 70214, 4117, x⟩

theorem witness_WrittenEntriesCompleteTheirOperations :
    ∀ x ∈ [(DelState.releasing,
          Payload.release 1 1 false HoldSet.empty 300 420 746 750),
        (.cancelling, .cancel .booked none), (.expiring, .expire 900000 812),
        (.loaded, .override ⟨true, false, false, false, false, false, false⟩ HoldSet.empty 31)],
      let d := delivery x.1 none none planned
      let s := put d (writing 0 [entryOf x.2])
      s.phase = .running ∧ s.log.writing = true ∧ s.log.queue = [entryOf x.2] ∧ s.holdsAt 0 d
        ∧ (entryOf x.2).ref = d.ref ∧ d.driver = some 4117
        ∧ (x.1 = .releasing → x.2.code = 10) ∧ (x.1 = .cancelling → x.2.code = 11)
        ∧ (x.1 = .expiring → x.2.code = 12) := by
  intro x hx
  simp only [List.mem_cons, List.not_mem_nil, or_false] at hx
  rcases hx with rfl | rfl | rfl | rfl <;>
    exact ⟨rfl, rfl, rfl, put_holdsAt part_free, rfl, rfl, by decide, by decide, by decide⟩

/-- An idle store; a store at work with 23 entries, and with 24. -/
theorem witness_EntriesAreAdmittedAndWritten :
    part.phase = .running ∧ part.log.queue = [] ∧ part.log.writing = false
      ∧ part.log.engine.state ≠ .erasing
      ∧ (writing 0 (List.replicate 23 entry1)).phase = .running
      ∧ (writing 0 (List.replicate 23 entry1)).log.writing = true
      ∧ (writing 0 (List.replicate 23 entry1)).log.queue ≠ []
      ∧ (writing 0 (List.replicate 23 entry1)).log.engine.state ≠ .erasing
      ∧ (writing 0 (List.replicate 23 entry1)).log.queue.length < 24
      ∧ 1 ≤ (writing 0 (List.replicate 23 entry1)).log.freeSpace
      ∧ 24 ≤ (writing 0 (List.replicate 24 entry1)).log.queue.length := by decide +kernel

/-- A store whose page 1 holds exported entries, with page 2 to be written. -/
def store2 (engine : Engine) (st : PageState) : LogStore :=
  { LogStore.new with
    pages := (LogStore.new.pages.set 0 ⟨st, List.replicate 32 .void⟩).set 1 ⟨.filling, []⟩
    engine := engine }

/-- The collection of page 0, which is FULL and the head; and of page 1, which is not FULL. -/
theorem witness_TheEngineTakesAndErasesPages :
    ∀ p ∈ [(0 : PageNo), 1],
      let s : State := { part with log := store2 ⟨.collecting, [p], some 500000, none⟩ .full }
      s.phase = .running ∧ s.log.engine = ⟨.collecting, [p], some 500000, none⟩
        ∧ s.log.head = some 0 := by decide +kernel

/-- An erase of page 0 in progress: with an entry that asks for its suspension, and with none. -/
theorem witness_TheEngineTakesAndErasesPages_erase :
    let s : State := { part with log := { store2 ⟨.erasing, [0], none, some 20000⟩ .reclaiming with
      queue := [{ entry1 with lost := none }] } }
    let t : State := { part with log := store2 ⟨.erasing, [0], none, none⟩ .reclaiming }
    s.phase = .running ∧ s.log.engine = ⟨.erasing, [0], none, some 20000⟩
      ∧ (s.log.page 1).state = .filling ∧ (1 : PageNo) ≠ 0 ∧ some 20000 ≠ none
      ∧ s.log.queue = [{ entry1 with lost := none }] ∧ s.log.writing = false
      ∧ t.phase = .running ∧ t.log.engine = ⟨.erasing, [0], none, none⟩
      ∧ (t.log.page 1).state = .filling ∧ t.log.queue = [] ∧ t.log.writing = false := by
  decide +kernel

theorem witness_ResetWarmStartsThePart :
    part.resetInput = false ∧ part.phase ≠ .unpowered
      ∧ (let s : State := { part with phase := .step1, log := store2 Engine.idle .reclaiming }
        s.phase = .step1 ∧ (s.log.page 0).state = .reclaiming)
      ∧ (let s : State := { part with phase := .step1 }
        s.phase = .step1 ∧ (∀ p, (s.log.page p).state ≠ .reclaiming)
          ∧ (s.log.page 0).state = .filling) := by decide +kernel

/-- A loss inside a first issue, with a delivery at a bay; a return without power for a while. -/
theorem witness_PowerReturnsWarmOrCold :
    let s : State := { part with phase := .unpowered }
    (put atBay part).phase = .running ∧ (put atBay part).log.paperCounter < 4294967295
      ∧ (put atBay part).slot 0 = some atBay ∧ atBay.state = .atBay
      ∧ s.phase = .unpowered ∧ s.checkWordValid = true
      ∧ (∀ asserted, ∃ phase, State.startsAt { s with resetInput := asserted } phase s.log.pages)
      ∧ exec .resetAsserted { s with phase := .running, resetInput := false } =
        .next (ran .resetAsserted { s with phase := .running, resetInput := false }) := by
  refine ⟨rfl, by decide, put_slot _ _, rfl, rfl, rfl, fun asserted => ?_, ran_next (by decide +kernel)⟩
  cases asserted
  · exact ⟨.step3, .inr ⟨rfl, .inr ⟨by decide +kernel, rfl, .inl ⟨⟨0, by decide⟩, rfl⟩⟩⟩⟩
  · exact ⟨.step1, .inl ⟨rfl, rfl, rfl⟩⟩

theorem witness_StartUpScansAndOpensThePorts_erase :
    let s : State := { part with phase := .step2, log := store2 Engine.idle .reclaiming }
    s.phase = .step2 ∧ (s.log.page 0).state = .reclaiming
      ∧ (∀ q : PageNo, q < 0 → (s.log.page q).state ≠ .reclaiming)
      ∧ ∀ verified : Bool, ∃ pages, LogStore.goesOn { s.log with
        pages := s.log.pages.set 0 ⟨if verified then .free else .bad, []⟩ } .step3 pages := by
  refine ⟨rfl, by decide, ?_, ?_⟩
  · intro q h
    exact absurd h (by simp)
  · intro verified
    cases verified <;> exact ⟨_, .inr ⟨by decide +kernel, rfl, .inl ⟨⟨1, by decide⟩, rfl⟩⟩⟩

/-- A tail is found by comparing its last entry with those of the other FULL pages. -/
theorem tailIs_of {l : LogStore} {tail : PageNo} {e : Entry} (hs : (l.page tail).state = .full)
    (he : (l.page tail).lastEntry = some e)
    (ho : ∀ q, q ≠ tail → (l.page q).state = .full →
      ((l.page q).lastEntry.all fun x => atOrBefore x.seq e.seq && !atOrBefore e.seq x.seq) = true) :
    l.tailIs tail e := by
  refine ⟨hs, he, fun q x hq hf hx => ?_⟩
  have := ho q hq hf
  rw [hx] at this
  simpa using this

/-- A store without a FILLING page whose numbers wrap between its FULL pages 62 and 63, with this state of page 0. -/
def wrapped (first : PageState) : LogStore :=
  { LogStore.new with
    pages := ((LogStore.new.pages.set 0 ⟨first, []⟩).set 62 ⟨.full, [.entry { entry1 with seq := 4294967295 }]⟩).set 63
      ⟨.full, [.entry { entry1 with seq := 0 }]⟩ }

theorem wrapped_tail (first : PageState) (h : first ≠ .full) : (wrapped first).tailIs 63 { entry1 with seq := 0 } := by
  refine tailIs_of ?_ ?_ ?_ <;> cases first <;> first | exact absurd rfl h | decide +kernel

/-- With no page FILLING: the page after the tail FREE, or BAD with the next one FREE, or FULL without an entry; and
FULL pages that hold only void slots, with a FREE page. -/
theorem witness_ResetWarmStartsThePart_filling :
    (∃ pages, (wrapped .free).goesOn .step3 pages ∧ (pages.get 0).state = .filling)
      ∧ (∃ pages, (wrapped .bad).goesOn .step3 pages ∧ (pages.get 1).state = .filling)
      ∧ (let l := wrapped .free
        let m : LogStore := { l with pages := l.pages.set 0 ⟨.full, [.void]⟩ }
        m.goesOn .step3 m.pages)
      ∧ (let l : LogStore := { LogStore.new with pages := LogStore.new.pages.set 0 ⟨.full, [.void]⟩ }
        ∃ pages, l.goesOn .step3 pages ∧ (pages.get 1).state = .filling) := by
  refine ⟨⟨_, .inr ⟨by decide +kernel, rfl, .inr ⟨by decide +kernel, .inl ⟨63, _, wrapped_tail _ (by decide),
      .inl ⟨0, by decide +kernel, by decide, rfl⟩⟩⟩⟩, by decide +kernel⟩,
    ⟨_, .inr ⟨by decide +kernel, rfl, .inr ⟨by decide +kernel, .inl ⟨63, _, wrapped_tail _ (by decide),
      .inl ⟨1, by decide +kernel, by decide, rfl⟩⟩⟩⟩, by decide +kernel⟩,
    .inr ⟨by decide +kernel, rfl, .inr ⟨by decide +kernel, .inl ⟨63, { entry1 with seq := 0 },
      tailIs_of (by decide) (by decide) (by decide +kernel), .inr ⟨?_, rfl⟩⟩⟩⟩,
    ⟨_, .inr ⟨by decide +kernel, rfl, .inr ⟨by decide +kernel, .inr ⟨by decide +kernel,
      .inl ⟨1, by decide, ?_, rfl⟩⟩⟩⟩, by decide +kernel⟩⟩
  · intro p hp
    have : p = 0 := by
      revert hp p
      decide +kernel
    subst this
    decide
  · decide +kernel

/-- Scans of a page that holds an entry, of an empty one after a FULL page, of a store without entries, and of a store
with no page FILLING. -/
theorem witness_StartUpScansAndOpensThePorts :
    let full : LogStore := { LogStore.new with
      pages := LogStore.new.pages.set 63 ⟨.full, [.entry entry1]⟩ }
    ∀ x ∈ [(store1, 1), (full, 1), (LogStore.new, 0), (wrapped .full, 0)],
      let s : State := { part with phase := .step3, log := x.1 }
      s.phase = .step3 ∧ s.log.cutWrite = none ∧ s.log.queue = [] ∧ s.log.writing = false
        ∧ s.log.engine = ⟨.idle, [], none, none⟩ ∧ s.log.scanFinds x.2
        ∧ s.rack = ⟨[], none, none, false, false, []⟩ := by
  intro full x hx
  simp only [List.mem_cons, List.not_mem_nil, or_false] at hx
  rcases hx with rfl | rfl | rfl | rfl
  · exact ⟨rfl, rfl, rfl, rfl, rfl, .inl ⟨0, by decide, by decide +kernel, by decide, .inl ⟨entry1, by decide, rfl⟩⟩, rfl⟩
  · exact ⟨rfl, rfl, rfl, rfl, rfl, .inl ⟨0, by decide, by decide +kernel, by decide,
      .inr (.inl ⟨by decide, 63, entry1, by decide +kernel, by decide, by decide, rfl⟩)⟩, rfl⟩
  · exact ⟨rfl, rfl, rfl, rfl, rfl, .inl ⟨0, by decide, by decide +kernel, by decide,
      .inr (.inr ⟨by decide +kernel, rfl⟩)⟩, rfl⟩
  · exact ⟨rfl, rfl, rfl, rfl, rfl, .inr ⟨by decide +kernel, 63, { entry1 with seq := 0 },
      tailIs_of (by decide) (by decide) (by decide +kernel), rfl⟩, rfl⟩

/-- A start that cut the write of entry 2 short. -/
theorem witness_StartUpScansAndOpensThePorts_cut :
    let e : Entry := { entry1 with seq := 2 }
    let s : State := { part with phase := .step3, log := { store1 with queue := [e], cutWrite := some e } }
    s.phase = .step3 ∧ s.log.cutWrite = some e ∧ s.log.queue = [e] ∧ e.lost = some 0
      ∧ s.log.writing = false ∧ s.log.engine = ⟨.idle, [], none, none⟩
      ∧ (s.log.page 0).state = .filling ∧ (∀ q, (s.log.page q).state = .filling → q = 0)
      ∧ (s.log.page 0).used.length < 30 ∧ e.seq < 4294967296
      ∧ (s.log.page 0).lastEntry = some entry1 ∧ e.seq = (entry1.seq + 1) % 4294967296
      ∧ e.payload.code ∉ [9, 10, 11, 12] := by decide +kernel

/-- Below the first point, at the inner point, between two points and at the last. -/
theorem witness_IncrementsFollowTheTable_factor :
    tableValid table2 ∧ table2.head? = some ⟨-100, 66623⟩ ∧ -101 ≤ -100
      ∧ table2[1]? = some ⟨150, 65536⟩ ∧ table2[1 + 1]? = some ⟨400, 64449⟩ ∧ 150 ≤ 150 ∧ 399 < 400
      ∧ table2.getLast? = some ⟨400, 64449⟩ := by
  unfold tableValid
  decide

/-- Below L, at L and beyond it. -/
theorem witness_IncrementsFollowTheTable :
    7499 ≤ someVolume.L ∧ 7500 ≤ someVolume.L ∧ someVolume.L < 7501 := by decide

/-- The last total below the limit, and the limit. -/
theorem witness_NetReadoutsRoundHalfUp :
    { someVolume with A := 42949345279 }.A < 42949345280
      ∧ 42949345280 ≤ { someVolume with A := 42949345280 }.A
      ∧ { someVolume with G := 655354 }.G < 655355 ∧ 655355 ≤ { someVolume with G := 655355 }.G
      ∧ (∃ x, x ∈ part.paperLines (loaded interrupted)) ∧ (loaded interrupted).comps.length ≤ 6 := by
  refine ⟨by decide, by decide, by decide, by decide, ⟨_, List.mem_of_mem_head? (a := ?_) ?_⟩, by decide⟩
  rotate_left
  · rfl

/-! ### Witnesses of further clauses: checks in their order, bays, deadlines, the store, starts -/

theorem holdsOne_put (d : Delivery) (ref : Nat) (P : Delivery → Prop) :
    (put d part).holdsOne ref P ↔ d.ref = ref ∧ P d := by
  constructor
  · rintro ⟨i, e, h, hr, hp⟩
    obtain ⟨rfl, rfl⟩ := put_only part_free i e h
    exact ⟨hr, hp⟩
  · rintro ⟨hr, hp⟩
    exact ⟨0, d, put_slot part d, hr, hp⟩

theorem put_refsDiffer (d : Delivery) : (put d part).refsDiffer := by
  intro i j a b hi hj _
  rw [(put_only part_free i a hi).1, (put_only part_free j b hj).1]

/-- The six checks of R170, one frame for each: before the ports open; a code of no catalogue; codes of the other
port, the last of the office's and the first of the gate's; a store that FAILED; a CANCEL with one byte too many;
and a tag in use. -/
theorem witness_PortChecksAnswerFirst_frames :
    ∀ x ∈ [(State.reset, Port.gate, 1, 0x20, [], FrameBody.retry .starting),
        (part, .office, 0, 0x17, [], .refused .unknownRequest),
        (part, .gate, 1, 0x15, [], .refused .wrongPort), (part, .office, 15, 0x20, [], .refused .wrongPort),
        ({ part with log := { part.log with status := .failed } }, .office, 1, 0x14, [0], .refused .storeFailed),
        (part, .office, 1, 0x03, [0, 0, 0, 1, 0], .refused .badField),
        (deferring, .office, 1, 0x16, [], .refused .tagInUse)],
      x.2.2.1 < 16 ∧ x.2.2.2.1 < 256 ∧ x.2.2.2.2.1.length ≤ 240 ∧ x.1.phase ≠ .unpowered
        ∧ (x.1.port x.2.1).receiver = none ∧ (x.1.port x.2.1).inService = none ∧ (x.1.port x.2.1).queue = []
        ∧ firstFailing
          [(x.1.phase ≠ .running, .retry .starting),
            (x.2.2.2.1 = 0 ∨ (0x17 ≤ x.2.2.2.1 ∧ x.2.2.2.1 ≤ 0x1F) ∨ 0x24 ≤ x.2.2.2.1,
              .refused .unknownRequest),
            ((x.2.1 = .gate ∧ x.2.2.2.1 ≤ 0x15) ∨ (x.2.1 = .office ∧ 0x20 ≤ x.2.2.2.1), .refused .wrongPort),
            (x.1.log.status = .failed ∧ x.2.2.2.1 ≠ 0x15 ∧ x.2.2.2.1 ≠ 0x16, .refused .storeFailed),
            (lengthAllowed x.2.2.2.1 x.2.2.2.2.1 = false, .refused .badField),
            (x.2.2.2.1 ∉ [0x03, 0x05, 0x13, 0x22] ∧ ∃ e ∈ (x.1.port x.2.1).deferred, e.tag = x.2.2.1,
              .refused .tagInUse)] x.2.2.2.2.2 := by
  unfold firstFailing firstFailing firstFailing firstFailing firstFailing firstFailing firstFailing
  decide +kernel

theorem fails_later {P : Prop} {x y : FrameBody} {rest : List (Prop × FrameBody)} (h : ¬ P)
    (hr : firstFailing rest y) : firstFailing ((P, x) :: rest) y := .inr ⟨h, hr⟩

theorem fails_here {P : Prop} {y : FrameBody} {rest : List (Prop × FrameBody)} (h : P) :
    firstFailing ((P, y) :: rest) y := .inl ⟨h, rfl⟩

/-- A RELEASE and a CANCEL of a reference that is not in the table. -/
theorem witness_RefusedRequestsChangeNothing :
    ∀ x ∈ [(Instr.cancel .office 1 5, Port.office, Request.mk 1 0x03 (.cancel 5)),
        (.release .gate 1 5 1, .gate, ⟨1, 0x22, .release 5 1⟩)],
      requestOf x.1 = some (x.2.1, x.2.2) ∧ part.phase ≠ .unpowered ∧ (part.port x.2.1).inService = none
        ∧ (part.port x.2.1).queue = [] ∧ exec x.1 part = .next (ran x.1 part)
        ∧ ((ran x.1 part).port x.2.1).outgoing.getLast? = some ⟨1, x.2.2.code, .refused .noDelivery⟩
        ∧ (FrameBody.refused .noDelivery).kind = 5 := by
  simp only [List.forall_mem_cons, List.not_mem_nil, false_implies, implies_true, and_true]
  refine ⟨⟨rfl, by decide, rfl, rfl, ran_next (by decide +kernel), by decide +kernel, by decide⟩,
    rfl, by decide, rfl, rfl, ran_next (by decide +kernel), by decide +kernel, by decide⟩

/-- The part with 16 entries queued. -/
def backlog : State :=
  { part with log := { part.log with queue := List.replicate 16 entry1, writing := true } }

/-- The ports of the part take a request at once, whatever the record. -/
theorem put_portFree (d : Delivery) (p : Port) : (put d part).portFree p :=
  let h := part_ready d p 0
  ⟨h.1, h.2.1, h.2.2.1, h.2.2.2.1⟩

/-- A BOOK that the queue alone turns away, the last check but one. -/
theorem witness_OfficeRequestsAreRefusedInOrder_book :
    backlog.portFree .office ∧ backlog.refsDiffer ∧ (∀ e ∈ backlog.office.deferred, e.tag ≠ 1)
      ∧ firstFailing (backlog.bookChecks booking ++ backlog.log.requesterChecks) (.retry .logBusy) := by
  have empty : ∀ i, backlog.slot i = none := part_free
  have nowhere : ∀ ref P, ¬ backlog.holdsOne ref P := by
    rintro ref P ⟨i, d, h, -⟩
    simp [empty i] at h
  refine ⟨⟨rfl, by decide, rfl, rfl⟩, fun i j d e h => by simp [empty i] at h, by decide, ?_⟩
  exact fails_later (by unfold bookable; decide) <| fails_later (nowhere _ _) <| fails_later (nowhere _ _) <|
    fails_later (by decide) <| fails_later (by decide) <| fails_later (fun h => h 0 (empty 0)) <|
    fails_here (by decide)

/-- An AMEND of the driver, a CANCEL, a DETACH and an OVERRIDE of a delivery in a state that does not allow them, the
last check before those of the log. -/
theorem witness_OfficeRequestsAreRefusedInOrder :
    let s := put booked part
    let t := put (loaded planned) part
    (∀ d, (put d part).portFree .office ∧ (put d part).refsDiffer
        ∧ ∀ e ∈ (put d part).office.deferred, e.tag ≠ 1)
      ∧ firstFailing (t.amendChecks ⟨70214, 0, 0, 9, []⟩ ++ t.log.requesterChecks) (.refused .wrongState)
      ∧ firstFailing (t.cancelChecks 70214 ++ t.office.deferralChecks 1 ++ t.log.requesterChecks)
        (.refused .wrongState)
      ∧ firstFailing (s.detachChecks 70214 ++ s.log.requesterChecks) (.refused .wrongState)
      ∧ firstFailing (s.overrideChecks 70214 31 1 ++ s.office.deferralChecks 1 ++ s.log.requesterChecks)
        (.refused .wrongState) := by
  refine ⟨fun d => ⟨put_portFree d _, put_refsDiffer d, (part_ready d .office 1).2.2.2.2⟩, ?_, ?_, ?_, ?_⟩
  · refine fails_later (by decide) <| fails_later ?_ <| fails_later ?_ <| fails_later ?_ <| fails_here ?_
    · simp [holdsOne_put, loaded, delivery]
    · rw [holdsOne_put]
      decide
    · simp [holdsOne_put]
    · rw [holdsOne_put]
      exact ⟨rfl, .inr (.inr (by decide))⟩
  · refine fails_later ?_ <| fails_later ?_ <| fails_here ?_ <;> rw [holdsOne_put] <;> decide
  · refine fails_later ?_ <| fails_later ?_ <| fails_here ?_ <;> rw [holdsOne_put] <;> decide
  · refine fails_later (by decide) <| fails_later ?_ <| fails_later ?_ <| fails_here ?_ <;>
      rw [holdsOne_put] <;> decide

/-- The part with its driver off shift. -/
def offShift : State := { put booked part with drivers := [{ driver1 with shiftStart := none }] }

theorem holdsOne_offShift (ref : Nat) (P : Delivery → Prop) :
    offShift.holdsOne ref P ↔ booked.ref = ref ∧ P booked := holdsOne_put booked ref P

/-- An ARRIVE without the declaration that the driver needs, the last check before those of the log; a RELEASE of a
delivery that is not loaded, the fourth; and one that the queue turns away, the last. -/
theorem witness_GateRequestsAreRefusedInOrder :
    let d := loaded planned
    let s : State := { put d part with log := backlog.log }
    offShift.portFree .gate ∧ offShift.refsDiffer ∧ (∀ e ∈ offShift.gate.deferred, e.tag ≠ 1)
      ∧ firstFailing (offShift.arriveChecks 70214 4117 none ++ offShift.log.requesterChecks)
        (.refused .needDeclaration)
      ∧ firstFailing (offShift.releaseChecks 70214 4117) (.refused .notLoaded)
      ∧ s.portFree .gate ∧ s.refsDiffer ∧ s.slot 0 = some d ∧ d.ref = 70214 ∧ s.owned d = false
      ∧ d.state = .loaded ∧ d.paper ≠ none ∧ d.driver = some 4117 ∧ (∀ c ∈ d.comps, c.state = .planned)
      ∧ (∀ c ∈ d.withReadouts.comps, c.acc.flags = Flags.none)
      ∧ (s.projectFor d).failing.without d.overrides = HoldSet.empty ∧ 65 ≤ s.log.freeSpace
      ∧ firstFailing (s.gate.deferralChecks 1 ++ [(16 ≤ s.log.queue.length, .retry .logBusy)])
        (.retry .logBusy) := by
  refine ⟨⟨rfl, by decide, rfl, rfl⟩, put_refsDiffer _, by decide, ?_, ?_, ⟨rfl, by decide, rfl, rfl⟩,
    put_refsDiffer _, put_slot part _, rfl, by decide, rfl, by decide, rfl, by decide, by decide,
    by decide +kernel, by decide +kernel, ?_⟩
  · refine fails_later (by simp) <| fails_later (by decide) <| fails_later ?_ <| fails_later ?_ <|
      fails_later ?_ <| fails_later (by decide) <| fails_later ?_ <| fails_later ?_ <|
      fails_here ⟨⟨_, rfl, rfl⟩, rfl⟩
    · simp [holdsOne_offShift, booked, delivery]
    · rw [holdsOne_offShift]
      rintro (h | ⟨x, h, ho⟩)
      · exact absurd h.2 (by decide)
      · obtain rfl := Option.some.inj h
        exact absurd ho (by decide)
    · rw [holdsOne_offShift]
      decide
    · rw [holdsOne_offShift]
      decide
    · rintro ⟨x, h, ho⟩
      obtain rfl := Option.some.inj h
      exact ho rfl
  · refine fails_later (by decide) <| fails_later ?_ <| fails_later ?_ <| fails_here ?_ <;>
      rw [holdsOne_offShift] <;> decide
  · exact fails_later (by decide) <| fails_later (by decide) <| fails_here (by decide)

/-- The first exchange of a visit of bay 7, and the third. -/
def visits (n : Nat) (s : State) : State :=
  { s with rack := { s.rack with visit := some ⟨6, n, false⟩, exchange := some ⟨none, 528⟩ } }

/-- Bay 7, SILENT, with an exchange in progress; and ONLINE, with nothing, a VERDICT and a DISMISS waiting, in the
first exchange of a visit and the third, with two reports at the ends of their ranges. -/
theorem witness_ValidAnswersRestoreTheLink :
    let s := visits 0 part
    let q : Report := ⟨.A, 16777215, 2047, true, false⟩
    let q' : Report := ⟨.A, 0, -2048, false, true⟩
    (s.exchanging ⟨6, 0, false⟩ none ∧ s.polled 6 = true ∧ (s.bay 6).link = .silent ∧ (s.bay 6).outbox = []
        ∧ Answer.finish.wellFormed = true)
      ∧ (∀ n ∈ [0, 2], ∀ box ∈ [[], [.verdict .finish none (some .active)], [.dismiss]],
        let t := visits n (atBay7 { bay7 .free box with bound := none } part)
        t.exchanging ⟨6, n, false⟩ none ∧ (t.bay 6).link ≠ .silent ∧ ((t.bay 6).heard none).outbox = box)
      ∧ q.wellFormed = true ∧ q'.wellFormed = true
      ∧ exec (.answerReceived (answerWords 6 (.status [q]))) (visits 0 (atBay7 (bay7 .free []) part)) =
        .next (ran (.answerReceived (answerWords 6 (.status [q]))) (visits 0 (atBay7 (bay7 .free []) part))) := by
  refine ⟨⟨⟨rfl, rfl, rfl, _, rfl, rfl⟩, by decide, by decide, by decide, by decide⟩, ?_, by decide, by decide,
    ran_next (by decide +kernel)⟩
  intro n hn box hb
  simp only [List.mem_cons, List.not_mem_nil, or_false] at hn hb
  rcases hn with rfl | rfl <;> rcases hb with rfl | rfl | rfl <;>
    exact ⟨⟨rfl, rfl, rfl, _, rfl, rfl⟩, by decide, by decide⟩

/-- The references that no delivery has: 0, and the least that is not in the table; and a visit's third
exchange. -/
theorem witness_ClaimsAreJudgedInOrder_unknown :
    let s := visits 2 (atBay7 { bay7 .free [] with bound := none } (put booked part))
    s.exchanging ⟨6, 2, false⟩ none ∧ s.polled 6 = true ∧ (s.bay 6).link ≠ .silent
      ∧ (∀ m ∈ ((s.bay 6).heard none).outbox, m.isVerdict = false ∧ m ≠ .dismiss)
      ∧ ∀ ref ∈ [0, 1], ref < 2 ^ 32 ∧ ∀ i d, s.slot i = some d → d.ref ≠ ref := by
  refine ⟨⟨rfl, rfl, rfl, _, rfl, rfl⟩, by decide, by decide, by decide, fun ref hr => ⟨?_, fun i d h => ?_⟩⟩
  · simp only [List.mem_cons, List.not_mem_nil, or_false] at hr
    rcases hr with rfl | rfl <;> decide
  · obtain ⟨-, rfl⟩ := put_only (s := part) part_free i d h
    simp only [List.mem_cons, List.not_mem_nil, or_false] at hr
    rcases hr with rfl | rfl <;> decide

/-- Bay 7 after a CANCEL took its delivery, bound to nothing, with and without that delivery; bound to a delivery
that is owned; and a delivery that has compartment 1 alone. FINISH and FAULT share all but the second case. -/
theorem witness_StartsAreJudgedInOrder_first :
    let gone := { bay7 .free [] with bound := none }
    let left := { gone with withdrawn := some 0 }
    let d := delivery .cancelling none none planned
    (∀ n ∈ [0, 2], let s := visits n (atBay7 gone part)
      s.exchanging ⟨6, n, false⟩ none ∧ s.polled 6 = true ∧ (s.bay 6).link ≠ .silent
        ∧ (∀ m ∈ ((s.bay 6).heard none).outbox, m.isVerdict = false)
        ∧ ((s.bay 6).heard none).bound = none)
      ∧ (let s := visits 0 (atBay7 left (put d part))
        s.exchanging ⟨6, 0, false⟩ none ∧ s.polled 6 = true ∧ (s.bay 6).link ≠ .silent
          ∧ (∀ m ∈ ((s.bay 6).heard none).outbox, m.isVerdict = false)
          ∧ ((s.bay 6).heard none).bound = none ∧ (d.comps.map Compartment.index).Nodup)
      ∧ (let s := visits 0 (atBay7 (bay7 .free []) (put d part))
        ((s.bay 6).heard none).bound = some 0 ∧ s.slot 0 = some d ∧ s.owned d = true)
      ∧ (let s := visits 0 (atBay7 (bay7 .free []) (put atBay part))
        ((s.bay 6).heard none).bound = some 0 ∧ s.slot 0 = some atBay ∧ s.owned atBay = false
          ∧ (∀ c ∈ atBay.comps, c.index ≠ 7 ∧ c.index ≠ 0) ∧ 0 < 8 ∧ 7 < 8) := by
  refine ⟨?_, ⟨⟨rfl, rfl, rfl, _, rfl, rfl⟩, by decide, by decide, by decide,
      rfl, by decide⟩,
    ⟨rfl, put_slot part _, by decide⟩, rfl, put_slot part _, by decide, by decide, by decide, by decide⟩
  intro n hn
  simp only [List.mem_cons, List.not_mem_nil, or_false] at hn
  rcases hn with rfl | rfl <;>
    exact ⟨⟨rfl, rfl, rfl, _, rfl, rfl⟩, by decide, by decide, by decide, rfl⟩

/-- A FINISH while a compartment flows, one with nothing loaded, and one with a DONE compartment. -/
theorem witness_FinishesEndTheSession :
    ∀ c ∈ [comp .flowing (some ⟨6, .B⟩) someVolume (some ⟨.flowingLimit, 900⟩), planned,
        comp .done none someVolume none],
      let d := delivery .atBay (some 6) none c
      let s := visits 2 (atBay7 (bay7 .free []) (put d part))
      s.exchanging ⟨6, 2, false⟩ none ∧ s.polled 6 = true ∧ (s.bay 6).link ≠ .silent
        ∧ (∀ m ∈ ((s.bay 6).heard none).outbox, m.isVerdict = false) ∧ ((s.bay 6).heard none).bound = some 0
        ∧ s.slot 0 = some d ∧ s.owned d = false ∧ d.bay = some 6
        ∧ ((∃ c ∈ d.comps, c.state = .permitted ∨ c.state = .flowing ∨ c.state = .stopping)
          ∨ ∀ c ∈ d.comps, c.state ≠ .permitted ∧ c.state ≠ .flowing ∧ c.state ≠ .stopping) := by
  intro c hc
  simp only [List.mem_cons, List.not_mem_nil, or_false] at hc
  rcases hc with rfl | rfl | rfl <;>
    exact ⟨⟨rfl, rfl, rfl, _, rfl, rfl⟩, by decide, by decide, by decide, rfl, put_slot part _, by decide, rfl,
      by decide⟩

/-- The least and the greatest fault code, from a bay with a flow on arm A and an orphan on arm B, and from a bay
bound to nothing. -/
theorem witness_FaultsStopTheArms :
    let d := delivery .atBay (some 6) none (loadingAt .flowing someVolume (some ⟨.flowingLimit, 900⟩))
    let orphaned := ArmRecord.orphan ⟨70214, 1, 2, 740, 7600, .stopping, some ⟨.stopDeadline, 900⟩, someVolume⟩
    ∀ r ∈ [{ bay7 (.compartment 0 1) [] with armB := orphaned }, { bay7 .free [] with bound := none }],
      let s := visits 0 (atBay7 r (put d part))
      s.exchanging ⟨6, 0, false⟩ none ∧ s.polled 6 = true ∧ (s.bay 6).link ≠ .silent ∧ 1 ≤ 1 ∧ 4 ≤ 4
        ∧ (∀ m ∈ ((s.bay 6).heard none).outbox, m.isVerdict = false)
        ∧ (∀ i e, ((s.bay 6).heard none).bound = some i → s.slot i = some e → s.owned e = false)
        ∧ ∀ i e, s.slot i = some e → (e.comps.map Compartment.index).Nodup := by
  intro d orphaned r hr
  simp only [List.mem_cons, List.not_mem_nil, or_false] at hr
  rcases hr with rfl | rfl <;>
  · refine ⟨⟨rfl, rfl, rfl, _, rfl, rfl⟩, by decide, by decide, by decide, by decide, by decide, ?_, ?_⟩
    · intro i e _ h
      obtain ⟨-, rfl⟩ := put_only (s := part) part_free i e h
      decide
    · intro i e h
      obtain ⟨-, rfl⟩ := put_only (s := part) part_free i e h
      decide

/-- A settled report in each state that it can end, at the end of the count's range and at 1. -/
theorem witness_SettledReportsEndTheLoading :
    ∀ c ∈ [loadingAt .permitted Acc.zero (some ⟨.permitWindow, 900⟩),
        loadingAt .flowing someVolume (some ⟨.flowingLimit, 900⟩),
        loadingAt .stopping someVolume (some ⟨.settleInterval, 900⟩),
        loadingAt .interrupted someVolume none],
      ∀ q ∈ [Report.mk .A 16777215 2047 false true, ⟨.A, 1, -2048, false, true⟩],
      let d := delivery .atBay (some 6) none c
      (loading c).exchanging ⟨6, 0, false⟩ none ∧ (loading c).polled 6 = true
        ∧ ((loading c).bay 6).link ≠ .silent ∧ q.wellFormed = true
        ∧ ((loading c).bay 6).armRecord q.arm = .compartment 0 c.index ∧ c.arm = some ⟨6, q.arm⟩
        ∧ (loading c).slot 0 = some d ∧ d.comp c.index = some c ∧ (∀ y ∈ d.comps, y.index = c.index → y = c)
        ∧ q.valveOpen = false ∧ q.settled = true
        ∧ ((c.state = .permitted ∧ q.cumulative ≠ 0) ∨ c.state = .flowing ∨ c.state = .stopping
          ∨ c.state = .interrupted) := by
  intro c hc q hq
  simp only [List.mem_cons, List.not_mem_nil, or_false] at hc hq
  rcases hc with rfl | rfl | rfl | rfl <;> rcases hq with rfl | rfl <;>
    exact ⟨⟨rfl, rfl, rfl, _, rfl, rfl⟩, by decide, by decide, by decide, by decide, rfl, put_slot part _,
      rfl, by simp [delivery], rfl, rfl, by decide⟩

/-- An orphan STOPPING with either deadline and one INTERRUPTED, and a free arm: each with a report that ends it, one
that does not, and for the free arm the least flow and none. -/
theorem witness_ReportsReachOrphansAndFreeArms :
    ∀ a ∈ [ArmRecord.orphan ⟨70214, 1, 2, 740, 7600, .stopping, some ⟨.stopDeadline, 900⟩, someVolume⟩,
        .orphan ⟨70214, 1, 2, 740, 7600, .stopping, some ⟨.settleInterval, 900⟩, someVolume⟩,
        .orphan ⟨70214, 1, 2, 740, 7600, .interrupted, none, someVolume⟩, .free],
      let s := visits 2 (atBay7 (bay7 a []) part)
      s.exchanging ⟨6, 2, false⟩ none ∧ s.polled 6 = true ∧ (s.bay 6).link ≠ .silent
        ∧ ((s.bay 6).heard none).armRecord .A = a
        ∧ ∀ q ∈ [Report.mk .A 16777215 2047 false true, ⟨.A, 16777215, -2048, true, false⟩, ⟨.A, 1, 0, false, false⟩,
            ⟨.A, 0, 0, false, true⟩], q.wellFormed = true ∧ q.arm = .A := by
  intro a ha
  simp only [List.mem_cons, List.not_mem_nil, or_false] at ha
  rcases ha with rfl | rfl | rfl | rfl <;>
    exact ⟨⟨rfl, rfl, rfl, _, rfl, rfl⟩, by decide, by decide, by decide, by decide⟩

/-- An orphan whose stop deadline runs, with each kind of latch. -/
theorem witness_StopDeadlineLatchesTheFailure_orphan :
    ∀ l ∈ [Latch.mk false false false false, ⟨true, false, false, true⟩, ⟨false, true, false, false⟩],
      let o := orphan .stopping (some ⟨.stopDeadline, 900⟩)
      let s : State := { atBay7 (bay7 (.orphan o) []) part with latch := l }
      s.phase = .running ∧ s.arm 6 .A = .orphan o ∧ o.state = .stopping ∧ o.deadline = some ⟨.stopDeadline, 900⟩
        ∧ (s.latch.stopFailed = true
          ∨ (s.latch.stopFailed = false ∧ s.latch ≠ ⟨false, false, false, false⟩)
          ∨ s.latch = ⟨false, false, false, false⟩) := by decide

/-- An input that rises with another cause latched. -/
theorem witness_TheShutdownLatchStopsEveryFlow_joined :
    let s : State := { part with latch := ⟨false, false, true, false⟩ }
    s.shutdownInput = false ∧ s.phase = .running ∧ s.latch ≠ ⟨false, false, false, false⟩ := by decide

/-- Terminal time UNSET, at its end, and one second before it; a start in progress; and two BOOKED deliveries of which
one is due, with room in the queue and with none. -/
theorem witness_TimeReachesBookingDeadlines_others :
    { part with time := none }.time = none ∧ { part with time := some 4294967295 }.time = some 4294967295
      ∧ { part with time := some 4294967294 }.time = some 4294967294 ∧ 4294967294 < 4294967295
      ∧ { part with phase := .step3 }.phase ≠ .running
      ∧ ∀ queue ∈ [[], List.replicate 24 entry1],
        let s : State := { (put { booked with deadline := 864001 } part).setSlot 3
            (some { booked with deadline := 864002 }) with
          log := { part.log with queue := queue } }
        s.phase = .running ∧ s.time = some 864000
          ∧ ((List.finRange 16).filter fun i =>
            (s.slot i).any fun d => d.state == .booked && decide (d.deadline ≤ 864000 + 1)) = [0] := by
  decide +kernel

/-- Two deliveries due with one place left in the queue: the first is admitted and the second is not, at an advance
and at a TIME_SET, whose own entry takes one place. -/
theorem witness_TimeReachesBookingDeadlines_boundary :
    ∀ queued ∈ [23, 22],
      let s : State := { (put { booked with deadline := 864001 } part).setSlot 3
          (some { booked with deadline := 864001 }) with
        log := { part.log with queue := List.replicate queued entry1 } }
      let u : State := { (if queued = 22 then s.admitEntry 0 0 (.timeSet 864001 (some 1)) else s) with
        time := some 864001 }
      ((List.finRange 16).filter fun i =>
          (s.slot i).any fun d => d.state == .booked && decide (d.deadline ≤ 864000 + 1)) = [0, 3]
        ∧ (s.expiriesAdmitted [] u).log.admitsAutomatic = true
        ∧ (s.expiriesAdmitted [0] u).log.admitsAutomatic = false := by
  decide +kernel

/-- The page that follows the FILLING one is FREE, FULL and BAD; the slot taken is its 31st and its 32nd. -/
theorem witness_EntriesAreAdmittedAndWritten_next :
    ∀ st ∈ [PageState.free, .full, .bad], ∀ n ∈ [30, 31],
      let s : State := { part with log := { LogStore.new with
        pages := (LogStore.new.pages.set 0 ⟨.filling, List.replicate n .void⟩).set 1 ⟨st, []⟩
        queue := [entry1]
        writing := true } }
      s.phase = .running ∧ s.log.writing = true ∧ s.log.queue = [entry1] ∧ (s.log.page 0).state = .filling
        ∧ (∀ q, (s.log.page q).state = .filling → q = 0) ∧ (s.log.page 0).used.length = n
        ∧ ((s.log.page 1).state ≠ .bad
          ∨ ((2 : PageNo).val = ((0 : PageNo).val + 1 + 1) % 64 ∧ (s.log.page 2).state ≠ .bad
            ∧ ∀ j < 1, ∀ o : PageNo, o.val = ((0 : PageNo).val + 1 + j) % 64 → (s.log.page o).state = .bad)) := by
  decide +kernel

/-- An entry of another kind, and one that its delivery does not wait for. -/
theorem witness_WrittenEntriesCompleteTheirOperations_others :
    ∀ x ∈ [(DelState.releasing, Payload.cancel .booked none), (.booked, .expire 900000 812),
        (.loaded, .shutdownClear ⟨true, false, false, false⟩)],
      let d := delivery x.1 none none planned
      let s := put d (writing 30 [entryOf x.2])
      s.phase = .running ∧ s.log.writing = true ∧ s.log.queue = [entryOf x.2] ∧ s.holdsAt 0 d
        ∧ (entryOf x.2).ref = d.ref ∧ x.2.code ≠ 9 ∧ (x.1 = .releasing → x.2.code ≠ 10)
        ∧ (x.1 = .cancelling → x.2.code ≠ 11) ∧ (x.1 = .expiring → x.2.code ≠ 12)
        ∧ (s.log.page 0).state = .filling ∧ (∀ q, (s.log.page q).state = .filling → q = 0)
        ∧ (s.log.page 0).used.length < 31 := by
  intro x hx
  simp only [List.mem_cons, List.not_mem_nil, or_false] at hx
  rcases hx with rfl | rfl | rfl <;>
    exact ⟨rfl, rfl, rfl, put_holdsAt part_free, rfl, by decide, by decide, by decide, by decide, by decide,
      by decide +kernel, by decide⟩

/-- A waiting request with another and a refusal record behind it. -/
theorem witness_RequestsAreServedInArrivalOrder_more :
    let more := [QueueItem.request ⟨3, 0x16, .status⟩, .refusal 4 0x16]
    let s := sending (.retry .owned) (.request ⟨2, 0x0E, .settingsRead⟩ :: more)
    let free := s.setPort .office { s.office with
      outgoing := [], sent := (OutFrame.mk 1 0x16 (.retry .owned)).wire, inService := none, queue := [] }
    s.phase ≠ .unpowered ∧ s.office.outgoing = [⟨1, 0x16, .retry .owned⟩]
      ∧ requestOf (.settingsRead .office 2) = some (.office, ⟨2, 0x0E, .settingsRead⟩)
      ∧ s.office.queue = .request ⟨2, 0x0E, .settingsRead⟩ :: more
      ∧ exec (.settingsRead .office 2) free = .next (ran (.settingsRead .office 2) free)
      ∧ (ran (.settingsRead .office 2) free).office.outgoing.getLast? =
        some ⟨2, 0x0E, .done (.settings s.settings)⟩ :=
  ⟨by decide, rfl, rfl, rfl, ran_next (by decide +kernel), by decide +kernel⟩

/-- A driver on shift, and one who is not. -/
theorem witness_HoursAreMergedAndProjected_margins :
    ∀ x ∈ [driver1, { driver1 with shiftStart := none }],
      project Settings.cold 864000 x 300 420 true = ⟨(project Settings.cold 864000 x 300 420 true).failing,
          (project Settings.cold 864000 x 300 420 true).margins⟩
        ∧ 10 = 864000 / 86400 ∧ (x.shiftStart = some 863000 ∨ x.shiftStart = none) := by decide +kernel

/-- A window over two pages in a store that holds an entry, and in one that holds none. -/
theorem witness_TheEngineTakesAndErasesPages_several :
    let engine : Engine := ⟨.collecting, [1, 0], some 500000, none⟩
    let held : LogStore := { store1 with engine := engine }
    (part.phase = .running ∧ held.engine = engine
        ∧ (PageSlot.entry entry1 ∈ (held.page 0).used) ∧ held.head = some 0)
      ∧ (store2 engine .full).engine = engine
      ∧ (∀ p e, PageSlot.entry e ∉ ((store2 engine .full).page p).used)
      ∧ (store2 engine .full).filling = some 1 := by
  refine ⟨⟨rfl, rfl, by decide, by decide +kernel⟩, rfl, ?_, by decide +kernel⟩
  intro p e h
  have pages : ∀ p, ((store2 ⟨.collecting, [1, 0], some 500000, none⟩ .full).page p).used =
      if p = 0 then List.replicate 32 PageSlot.void else [] := by decide +kernel
  rw [pages] at h
  split at h
  · have := List.eq_of_mem_replicate h
    cases this
  · simp at h

/-- A store with no page to fill, whose tail is page 0, while page 1 is erased: it fills at once; and while page 2
is, it does not. -/
theorem witness_TheEngineTakesAndErasesPages_full :
    ∀ p ∈ [(1 : PageNo), 2],
      let l : LogStore := { LogStore.new with
        pages := (Vector.replicate 64 (Page.mk .full (List.replicate 32 (.entry { entry1 with seq := 0 })))).set 0
          ⟨.full, List.replicate 31 .void ++ [.entry entry1]⟩ |>.set p.val
          ⟨.reclaiming, List.replicate 32 .void⟩ p.isLt
        lastWritten := 1
        engine := ⟨.erasing, [p, 3], none, none⟩ }
      (∀ f, (l.page f).state ≠ .filling) ∧ l.pageOf l.lastWritten = some 0
        ∧ l.nextPage 0 = some 1 ∧ l.engine = ⟨.erasing, p :: [3], none, none⟩ ∧ l.writing = false := by
  decide +kernel

/-- The events that write both memories, each where it can be cut: an erase of the front page of the set, and a scan
with a cut write, its slot torn and whole. -/
theorem witness_PowerReturnsWarmOrCold_cuts :
    let erasing : State := { part with log := store2 ⟨.erasing, [0], none, none⟩ .reclaiming }
    let scan : State := { part with phase := .step3, log := { store1 with cutWrite := some entry1 } }
    erasing.phase = .running ∧ erasing.log.engine.state = .erasing ∧ erasing.log.engine.set = [0]
      ∧ (erasing.log.page 1).state = .filling
      ∧ scan.phase = .step3 ∧ scan.log.cutWrite = some entry1 ∧ (scan.log.page 0).state = .filling
      ∧ (∀ q, (scan.log.page q).state = .filling → q = 0) ∧ (scan.log.page 0).used.length < 31
      ∧ ∀ slot ∈ [entry1.bytes, List.replicate 32 0], ∃ b ∈ slot, b ≠ 0xFF#8 := by decide +kernel

/-- The three contents of a slot: empty, torn in its last byte, and whole. -/
theorem witness_StartUpScansAndOpensThePorts_slots :
    (∀ b ∈ List.replicate 32 0xFF#8, b = 0xFF#8) ∧ (List.replicate 32 0xFF#8).length = 32
      ∧ (∃ b ∈ entry1.bytes, b ≠ 0xFF#8) ∧ entry1.bytes.length = 32
      ∧ crc16 (entry1.bytes.take 30) = field entry1.bytes 30 2
      ∧ (∃ b ∈ entry1.bytes.set 31 0xFF#8, b ≠ 0xFF#8) ∧ (entry1.bytes.set 31 0xFF#8).length = 32
      ∧ crc16 ((entry1.bytes.set 31 0xFF#8).take 30) ≠ field (entry1.bytes.set 31 0xFF#8) 30 2 := by
  decide +kernel

/-- A visit of bay 1 that a write without bay 1 ends or drops, with and without a bay left in the round; a write that
leaves no bay; no visit and no bay left, with an empty polled set that bay 1 joins; and a dropped visit. -/
theorem witness_SettingsWriteClampsAndStores_visits :
    let polledOf := fun m : Nat => (Vector.ofFn fun k : Fin 12 => m.testBit (k.val + 1) : Vector Bool 12)
    (∀ left ∈ [[], [(1 : BayNo)]], ∀ x ∈ [none, some (Exchange.mk none 900)], ∀ mask ∈ [0x1FFC, 0],
      let s : State := { part with rack := ⟨left, some ⟨0, 1, false⟩, x, false, false, []⟩ }
      s.ready .office 1 ∧ s.rack.visit = some ⟨0, 1, false⟩ ∧ (polledOf mask).get 0 = false
        ∧ (s.rack.exchange ≠ none ↔ x ≠ none)
        ∧ ∀ k, s.polled k = true → (polledOf mask).get k = false →
          (s.bay k).bound = none ∧ (s.bay k).armA = .free ∧ (s.bay k).armB = .free)
      ∧ (let s : State := { part with
            settings := { part.settings with polled := Vector.replicate 12 false }
            rack := ⟨[], none, none, false, false, []⟩ }
        s.ready .office 1 ∧ s.rack.visit = none ∧ s.rack.exchange = none
          ∧ (∀ k, s.polled k = false) ∧ (polledOf 2).get 0 = true)
      ∧ (let s : State := { part with rack := ⟨[], some ⟨0, 1, true⟩, some ⟨none, 900⟩, false, false, []⟩ }
        s.phase = .running ∧ s.rack.visit = some ⟨0, 1, true⟩ ∧ s.rack.exchange = some ⟨none, 900⟩) := by
  refine ⟨?_, ⟨ready_of 1 (by decide), by decide +kernel⟩, by decide⟩
  intro left hl x hx mask hm
  simp only [List.mem_cons, List.not_mem_nil, or_false] at hl hx hm
  rcases hl with rfl | rfl <;> rcases hx with rfl | rfl <;> rcases hm with rfl | rfl <;>
    exact ⟨ready_of 1 (by decide), rfl, by decide, by simp, by decide⟩

/-- A step over the deadlines of slots 1 and 4, and one that meets the first alone; with no room in the queue but for
the TIME_SET entry, and with room. -/
theorem witness_TimeSetMovesForwardOnly_due :
    ∀ queue ∈ [[], List.replicate 15 entry1],
      let s : State := { (put { booked with deadline := 864001 } part).setSlot 3
          (some { booked with deadline := 864002 }) with
        log := { part.log with queue := queue } }
      s.log.accepts ∧ s.time = some 864000
        ∧ ((List.finRange 16).filter fun i =>
          (s.slot i).any fun d => d.state == .booked && decide (d.deadline ≤ 864001)) = [0]
        ∧ ((List.finRange 16).filter fun i =>
          (s.slot i).any fun d => d.state == .booked && decide (d.deadline ≤ 864002)) = [0, 3] := by
  unfold LogStore.accepts
  decide +kernel

/-- Two compartments of one delivery at the two arms of bay 7, one PERMITTED with its PERMIT waiting: both arms are
stopped, in booking order. -/
theorem witness_TheShutdownLatchStopsEveryFlow_arms :
    let d := { delivery .atBay (some 6) none (comp .flowing (some ⟨6, .B⟩) someVolume (some ⟨.flowingLimit, 900⟩)) with
      comps := [comp .flowing (some ⟨6, .B⟩) someVolume (some ⟨.flowingLimit, 900⟩),
        { comp .permitted (some ⟨6, .A⟩) Acc.zero (some ⟨.permitWindow, 900⟩) with index := 2 }] }
    let s := atBay7 { bay7 (.compartment 0 2) [.permit .A 2 2 740 7600] with armB := .compartment 0 1 } (put d part)
    s.armsStopped 6 = [.B, .A] ∧ s.polled 6 = true ∧ (s.bay 6).link ≠ .silent
      ∧ (s.armsStopped 6).foldl (fun box a => stopQueued a box) (s.bay 6).outbox = [.stop .A, .stop .B] := by
  decide +kernel

/-- A first and a later entry while an erase is in progress, whose queue is empty or not. -/
theorem witness_EntriesAreAdmittedAndWritten_erasing :
    ∀ by_ ∈ [none, some 900], ∀ queue ∈ [[], [entry1]],
      let s : State := { part with log := { part.log with engine := ⟨.erasing, [0], none, by_⟩, queue := queue } }
      s.phase = .running ∧ s.log.engine.state = .erasing := by decide

/-- An erase of page 0 after which page 2 is taken. -/
def erasing2 : State :=
  { part with log := { store2 ⟨.erasing, [0, 2], none, none⟩ .reclaiming with
      pages := (store2 Engine.idle .reclaiming).pages.set 2 ⟨.full, List.replicate 32 .void⟩ } }

/-- The cut of an erase with a page to be taken next; and one whose page becomes FILLING, in a store with no FILLING
page whose last entry is on page 63. -/
theorem witness_PowerReturnsWarmOrCold_next :
    (erasing2.phase = .running ∧ erasing2.log.engine.state = .erasing ∧ erasing2.log.engine.set = [0, 2]
      ∧ (erasing2.log.page 1).state = .filling)
      ∧ (let s : State := { part with log := { LogStore.new with
            pages := (LogStore.new.pages.set 0 ⟨.reclaiming, []⟩).set 63 ⟨.full, [.entry entry1]⟩
            lastWritten := 1
            engine := ⟨.erasing, [0], none, none⟩ } }
        s.phase = .running ∧ s.log.engine.state = .erasing ∧ s.log.engine.set = [0]
          ∧ (∀ f, (s.log.page f).state ≠ .filling) ∧ s.log.pageOf s.log.lastWritten = some 63
          ∧ s.log.nextPage 63 = some 0) := by decide +kernel

/-- The start-up state of a part whose write of the entry `e` was cut short, with this queue and `n` used slots in
page 0, which is the only page where `alone`. -/
def cutStart (e : Entry) (queue : List Entry) (n : Nat) (alone : Bool) : State :=
  { part with
    phase := .step3
    log := { LogStore.new with
      pages := (if alone then Vector.replicate 64 ⟨.bad, []⟩ else LogStore.new.pages).set 0
        ⟨.filling, .entry entry1 :: List.replicate n .void⟩
      queue := queue
      cutWrite := some e } }

/-- A whole slot with the entry that each kind of delivery waits for. -/
theorem witness_StartUpScansAndOpensThePorts_completions :
    ∀ x ∈ [(DelState.releasing,
          Payload.release 1 1 false HoldSet.empty 300 420 746 750),
        (.cancelling, .cancel .booked none), (.expiring, .expire 900000 812),
        (.loaded, .override ⟨true, false, false, false, false, false, false⟩ HoldSet.empty 31)],
      let d := delivery x.1 none none planned
      let s := put d (cutStart (entryOf x.2) [entryOf x.2] 29 false)
      s.phase = .step3 ∧ s.log.cutWrite = some (entryOf x.2) ∧ s.log.queue = [entryOf x.2]
        ∧ s.log.writing = false ∧ s.log.engine = ⟨.idle, [], none, none⟩
        ∧ s.rack = ⟨[], none, none, false, false, []⟩ ∧ s.office.deferred = [] ∧ s.gate.deferred = []
        ∧ (s.log.page 0).state = .filling ∧ (∀ q, (s.log.page q).state = .filling → q = 0)
        ∧ (s.log.page 0).used.length < 31 ∧ s.holdsAt 0 d ∧ (entryOf x.2).ref = d.ref
        ∧ d.driver = some 4117 := by
  intro x hx
  simp only [List.mem_cons, List.not_mem_nil, or_false] at hx
  rcases hx with rfl | rfl | rfl | rfl <;>
    exact ⟨rfl, rfl, rfl, rfl, rfl, rfl, rfl, rfl, by decide, by decide +kernel, by decide,
      put_holdsAt part_free, rfl, rfl⟩

/-- A torn slot 30 of the only page, with two entries queued and one slot left; and with slots enough. The entry at
the back is an EXPIRE. -/
theorem witness_StartUpScansAndOpensThePorts_overdrawn :
    let e : Entry := { entry1 with seq := 2 }
    let x : Entry := { entryOf (.expire 900000 812) with seq := 3 }
    let d := delivery .expiring none none planned
    ∀ n ∈ [28, 29], ∀ alone ∈ [true, false],
      let s := put d (cutStart e [e, x] n alone)
      let found : LogStore := { s.log with
        pages := s.log.pages.set 0 ⟨.filling, (s.log.page 0).used ++ [.void]⟩
        cutWrite := none
        lastWritten := 1 }
      s.phase = .step3 ∧ s.log.cutWrite = some e ∧ s.log.queue = e :: ([] ++ [x]) ∧ s.log.writing = false
        ∧ s.log.engine = ⟨.idle, [], none, none⟩ ∧ s.rack = ⟨[], none, none, false, false, []⟩
        ∧ s.refsDiffer ∧ (s.log.page 0).state = .filling
        ∧ (∀ q, (s.log.page q).state = .filling → q = 0) ∧ (s.log.page 0).used.length < 31
        ∧ (s.log.page 0).lastEntry = some entry1 ∧ atOrBefore e.seq entry1.seq = false
        ∧ (if alone = true ∧ n = 29 then found.emptySlots + 32 * found.usablePages < 0 + 2
          else 0 + 2 ≤ found.emptySlots + 32 * found.usablePages) := by
  intro e x d n hn alone ha
  simp only [List.mem_cons, List.not_mem_nil, or_false] at hn ha
  rcases hn with rfl | rfl <;> rcases ha with rfl | rfl <;>
    exact ⟨rfl, rfl, rfl, rfl, rfl, rfl,
      fun i j a b hi hj _ => (put_only part_free i a hi).1.trans (put_only part_free j b hj).1.symm,
      by decide, by decide +kernel, by decide, by decide +kernel, by decide, by decide +kernel⟩

/-- A DRIVER_REGISTER of a new driver with a full table, and of driver 65,535; a DRIVER_REMOVE of a bound driver. -/
theorem witness_DriversAreRegisteredAndRemoved_refused :
    let full : State := { part with drivers := List.replicate 128 driver1 }
    let bound : State := { put booked part with drivers := [{ driver1 with bound := some 0 }] }
    full.ready .office 1 ∧ firstFailing (full.registerChecks 65534) (.refused .tableFull)
      ∧ firstFailing (full.registerChecks 65535) (.refused .badField)
      ∧ bound.ready .office 1 ∧ firstFailing (bound.removeChecks 4117) (.refused .inUse) := by
  refine ⟨ready_of 1 (by decide), ?_, fails_here (by unfold driverNumber; decide), ?_, ?_⟩
  · refine fails_later (by unfold driverNumber; decide) <| fails_later ?_ <| fails_here (by decide +kernel)
    have none : State.driver { part with drivers := List.replicate 128 driver1 } 65534 = none := by decide +kernel
    rintro ⟨x, h, -⟩
    exact absurd (none ▸ h) (by simp)
  · exact part_ready booked .office 1
  · refine fails_later (by unfold driverNumber; decide) <| fails_later (by decide) <| fails_later ?_ <|
      fails_here ⟨_, rfl, by decide⟩
    rintro ⟨x, h, ho⟩
    obtain rfl := Option.some.inj h
    exact absurd ho (by decide +kernel)

/-- A DELIVERY_READ of a reference that is not in the table; a DRIVER_READ and an HOURS_QUERY of a driver that is not
registered, and one with terminal time UNSET; a LOG_READ of a number on a RECLAIMING page and of one that was erased; a
PAPER_READ of a BOOKED delivery. -/
theorem witness_ReadsAnswerFromTheState_refused :
    let unset : State := { part with time := none }
    let busy : LogStore := { store1 with pages := store1.pages.set 0 ⟨.reclaiming, [.entry entry1]⟩ }
    (∀ p, part.ready p 1) ∧ (¬ part.holdsOne 1 fun _ => True)
      ∧ firstFailing (part.driverReadChecks 1) (.refused .unknownDriver)
      ∧ firstFailing (part.hoursQueryChecks 65534) (.refused .unknownDriver)
      ∧ unset.ready .gate 1 ∧ firstFailing (unset.hoursQueryChecks 4117) (.refused .noTime)
      ∧ firstFailing (busy.readChecks 1 8) (.retry .pageBusy) ∧ firstFailing (store1.readChecks 0 1) (.refused .gone)
      ∧ firstFailing (store1.readChecks 1 9) (.refused .badField)
      ∧ firstFailing (store1.readChecks 2 1) (.refused .notWritten)
      ∧ (put booked part).ready .gate 1 ∧ (put booked part).refsDiffer
      ∧ firstFailing ((put booked part).paperReadChecks 70214) (.refused .notLoaded) := by
  refine ⟨fun p => ⟨rfl, by decide, by cases p <;> rfl, by cases p <;> rfl, by cases p <;> decide⟩, ?_,
    fails_later (by unfold driverNumber; decide) <| fails_here (by decide),
    fails_later (by unfold driverNumber; decide) <| fails_later (by decide) <| fails_here (by decide),
    ready_of 1 (by decide), fails_later (by unfold driverNumber; decide) <| fails_here (by decide),
    fails_later (by decide) <| fails_later (by decide) <| fails_here ⟨0, by decide +kernel, by decide⟩,
    fails_later (by decide) <| fails_later (by decide) <| fails_later ?_ <| fails_here (by decide +kernel),
    fails_here (by decide), fails_later (by decide) <| fails_here (by decide),
    part_ready _ _ _, put_refsDiffer _, ?_⟩
  · rintro ⟨i, d, h, -⟩
    exact absurd (part_free i) (by rw [h]; simp)
  · rintro ⟨p, h, -⟩
    exact absurd h (by rw [show store1.pageOf 0 = none by decide +kernel]; simp)
  · refine fails_later (by decide) <| fails_later ?_ <| fails_here ?_ <;> rw [holdsOne_put] <;> decide

/-- A PRODUCT_DEFINE of code 17, of a UN number 3601, and of a code in use. -/
theorem witness_ProductsAreDefinedAndSwitched_refused :
    let data : ProductData := ⟨goods.name, 1202, 3, 0, 3, 1, table2⟩
    part.ready .office 1 ∧ firstFailing (part.defineChecks ⟨17, 1, some data⟩) (.refused .badField)
      ∧ firstFailing (part.defineChecks ⟨16, 2, some { data with un := 3601 }⟩) (.refused .badField)
      ∧ (put booked part).ready .office 1
      ∧ firstFailing ((put booked part).defineChecks ⟨2, 1, some data⟩) (.refused .inUse) := by
  refine ⟨ready_of 1 (by decide), fails_here (by decide), fails_later (by decide) <| fails_here ⟨by decide, ?_⟩,
    part_ready _ _ _, fails_later (by decide) <| fails_later ?_ <| fails_here (by decide +kernel)⟩
  · rintro ⟨d, h, hd⟩
    obtain rfl := Option.some.inj h
    exact absurd hd.2.1 (by decide)
  · exact fun h => h.2 ⟨_, rfl, by unfold definable tableValid; decide⟩

/-- A TIME_SET to 0, one second back, and with 16 entries queued. -/
theorem witness_TimeSetMovesForwardOnly_refused :
    part.ready .office 1 ∧ firstFailing (part.timeSetChecks 0 ++ part.log.requesterChecks) (.refused .badField)
      ∧ firstFailing (part.timeSetChecks 863999 ++ part.log.requesterChecks) (.refused .backwards)
      ∧ backlog.ready .office 1
      ∧ firstFailing (backlog.timeSetChecks 864000 ++ backlog.log.requesterChecks) (.retry .logBusy) := by
  refine ⟨ready_of 1 (by decide), fails_here rfl, fails_later (by decide) <| fails_here ⟨_, rfl, by decide⟩,
    ⟨rfl, by decide, rfl, rfl, by decide⟩, fails_later (by decide) <| fails_later ?_ <| fails_here (by decide)⟩
  rintro ⟨now, h, hlt⟩
  obtain rfl := Option.some.inj h
  exact absurd hlt (by decide)

/-- A RECLAIM of page 64, one while the engine erases, and one whose tag waits already. -/
theorem witness_LogRequestsMoveTheMarkAndCollectPages_refused :
    let busy : State := { part with log := { part.log with engine := ⟨.suspended, [3], none, none⟩ } }
    part.portFree .office
      ∧ firstFailing (part.log.reclaimChecks 64 ++ part.office.deferralChecks 1) (.refused .badField)
      ∧ busy.portFree .office
      ∧ firstFailing (busy.log.reclaimChecks 63 ++ busy.office.deferralChecks 1) (.retry .reclaimBusy)
      ∧ deferring.portFree .office
      ∧ firstFailing (deferring.log.reclaimChecks 63 ++ deferring.office.deferralChecks 1) (.refused .tagInUse) := by
  refine ⟨⟨rfl, by decide, rfl, rfl⟩, fails_here (by decide), ⟨rfl, by decide, rfl, rfl⟩,
    fails_later (by decide) <| fails_here (by decide), ⟨rfl, by decide, rfl, rfl⟩,
    fails_later (by decide) <| fails_later (by decide) <| fails_here (by decide)⟩

/-- RESTART and STATUS at a store that has FAILED; the shutdown input of a part without power. -/
theorem witness_RestartBeginsOnceItsAnswerIsSent_failed :
    let s : State := { part with log := { part.log with status := .failed } }
    (∀ p, s.taking p 1) ∧ State.reset.phase ≠ .running :=
  ⟨fun p => ⟨rfl, by cases p <;> rfl, by cases p <;> rfl, by cases p <;> decide⟩, by decide⟩

/-! ### One command each, on the states of the witnesses -/

/-- R196, R191: the scan finds what a write left in its slot. -/
theorem test_slot_scan :
    slotTest entry1.bytes = .whole ∧ slotTest (entry1.bytes.set 31 0xFF#8) = .torn
      ∧ slotTest (List.replicate 32 0xFF#8) = .blank := by decide +kernel
/-- R191, R149: with no page FILLING the last written number is that of the tail, page 63, whose number 0 is after
4,294,967,295. -/
theorem test_scan_full_store :
    (ran (.startUpScanEnd []) { part with phase := .step3, log := { wrapped .full with lastWritten := 7 } }).log.lastWritten
      = 0 := by decide +kernel

/-- R187, R161, R164: power lost inside a verify failure leaves the page BAD, the next page RECLAIMING once it has
been marked, and no PAGE_BAD entry. -/
theorem test_cut_in_erase_failure :
    ∀ next ∈ [true, false],
      let t := ran (.powerLoss (.inEraseFailure next)) erasing2
      (t.log.page 0).state = .bad ∧ (t.log.page 2).state = (if next then .reclaiming else .full)
        ∧ t.log.queue = [] := by decide +kernel
/-- R20, R80, R86, R87: the CANCEL of an AT_BAY delivery leaves the bay bound to nothing, with a DISMISS to take. Of the
requests that come before it, a START and a FINISH are denied UNKNOWN_DELIVERY, and a FAULT is granted. -/
theorem test_requests_after_cancel :
    let s := ran (.cancel .office 1 70214) (atBay7 (bay7 .free []) (put atBay part))
    (s.bay 6).bound = none ∧ (s.bay 6).outbox = [.dismiss]
      ∧ ([Answer.start .A 1 2, .finish, .fault 1].map fun a =>
        ((ran (.answerReceived (answerWords 6 a)) (visits 0 s)).bay 6).outbox.head?) =
          [some (.verdict .start (some .A) (some .unknownDelivery)),
            some (.verdict .finish none (some .unknownDelivery)), some (.verdict .fault none none)] := by decide +kernel
/-- R20, R81: a CLAIM of the cancelled delivery, in the answer to the DISMISS, is denied OWNED until the CANCEL entry is
written, and UNKNOWN_DELIVERY after it. -/
theorem test_claim_after_cancel :
    let s := ran (.cancel .office 1 70214) (atBay7 (bay7 .free []) (put atBay part))
    ([s, ran .writeComplete s].map fun t =>
      ((ran (.answerReceived (answerWords 6 (.claim 70214))) (exchanging (some .dismiss) t)).bay 6).outbox) =
        [[.verdict .claim none (some .owned)], [.verdict .claim none (some .unknownDelivery)]] := by decide +kernel
/-- R20: once the DISMISS has been taken, the bay is bound to nothing that could own it. -/
theorem test_start_after_dismiss :
    let r := { bay7 .free [.dismiss] with bound := none, withdrawn := some 0 }
    let s := exchanging (some .dismiss) (atBay7 r (put (delivery .cancelling none none planned) part))
    (((ran (.answerReceived (answerWords 6 (.start .A 1 2))) s).bay 6).outbox.head? =
      some (.verdict .start (some .A) (some .unknownDelivery))) := by decide +kernel
/-- R129: DELIVERY_READ shows the provisional mark of the paper. -/
theorem test_delivery_read_paper :
    answers .office (.deliveryRead .office 1 70214)
        (put { loaded planned with paper := some { paper1 with provisional := true } } part) ≠
      answers .office (.deliveryRead .office 1 70214) (put (loaded planned) part) := by decide +kernel
/-- R148: a BOOK entry's header has driver 0, for R13 names none. -/
theorem test_book_header :
    (ran (.book .office 1 booking) part).log.queue.map (fun e => (e.ref, e.driver)) = [(70214, 0)] := by
  decide +kernel

/-! ### A state that meets every law, with a delivery at a bay, a flow, and an orphan -/

/-- A FLOWING compartment at arm A of bay 7. -/
def flow : Compartment := loadingAt .flowing someVolume (some ⟨.flowingLimit, 900⟩)

/-- Its delivery. -/
def flowing : Delivery := delivery .atBay (some 6) none flow

/-- Bay 7, with an orphan at arm B and a STOP that waits for it. -/
def busyBay : BayRecord :=
  { bay7 (.compartment 0 1) [.stop .B] with armB := .orphan (orphan .interrupted none) }

/-- The part with this delivery, its driver bound, its bay visited and one entry written. -/
def busy : State :=
  { visiting (atBay7 busyBay (put flowing part)) with
    drivers := [{ driver1 with bound := some 0 }]
    log := store1 }

theorem busy_slot : busy.slot 0 = some flowing := put_slot part flowing

theorem busy_only : ∀ i d, busy.slot i = some d → i = 0 ∧ d = flowing := put_only part_free

theorem busy_bay : ∀ b, busy.bay b = if b = 6 then busyBay else BayRecord.cold := by decide +kernel

theorem busy_orphan : ∀ b x o, busy.arm b x = .orphan o → o = orphan .interrupted none := by
  intro b x o h
  rw [State.arm, busy_bay] at h
  split at h <;> cases x <;> simp [busyBay, bay7, BayRecord.cold, BayRecord.armRecord] at h
  exact h.symm

theorem busy_page : ∀ p, busy.log.page p = if p = 0 then ⟨.filling, [.entry entry1]⟩ else Page.free := store1_page

theorem busy_product : ∀ k : Fin 16,
    busy.products.get k = if k = 1 then goods else Product.undefined := by decide +kernel

/-- The steps of the invariants answer a next state. -/
theorem witness_step : ∃ t, step { busy with pending := [.flowingLimitExpiry 0 1] } = .next t :=
  ⟨_, ran_next (c := .flowingLimitExpiry 0 1) (s := busy) (by decide +kernel)⟩

theorem witness_SettingsStayInRange : SettingsLaw busy := by
  unfold SettingsLaw
  decide

theorem witness_PortsKeepTheirLaws :
    DeferredLaw deferring ∧ ServiceLaw deferring ∧ DeferredLaw busy ∧ ServiceLaw busy
      ∧ ServiceLaw (crowded 4 8 |>.setPort .office { (crowded 4 8).office with
        outgoing := [⟨1, 0x16, .retry .owned⟩] }) := by
  unfold DeferredLaw ServiceLaw PortState.deferredLaw PortState.serviceLaw
  decide +kernel

theorem witness_TheStoreKeepsItsLaws :
    QueueLaw busy ∧ PageLaw busy ∧ busy.phase = .running ∧ NumberLaw busy := by
  refine ⟨by unfold QueueLaw; decide, ⟨?_, ?_, ?_⟩, rfl, by unfold NumberLaw; decide⟩
  · intro p
    rw [busy_page]
    split
    · exact (by decide : 1 < 32)
    · exact (rfl : ([] : List PageSlot) = [])
  · intro p q hp hq
    rw [busy_page] at hp hq
    split at hp <;> split at hq <;> simp_all [Page.free]
  · intro _ p hp
    rw [busy_page] at hp
    split at hp <;> simp [Page.free] at hp

theorem witness_TheStoreKeepsItsLaws_order : OrderLaw busy ∧ MarkLaw busy := by
  have no : ∀ p, (busy.log.page p).state ≠ .reclaiming := by
    intro p hp
    rw [busy_page] at hp
    split at hp <;> simp [Page.free] at hp
  refine ⟨⟨by decide, by decide +kernel, fun t ht => ?_, fun _ h => ?_, fun p h => absurd h (no p),
    fun h => ?_, by decide +kernel⟩, by decide, by decide +kernel, fun p h => absurd h (no p)⟩
  · obtain rfl : 0 = t := Option.some.inj ((by decide +kernel : busy.log.tail = some 0).symm.trans ht)
    decide +kernel
  · exact absurd h (by decide +kernel)
  · exact absurd h (by decide)

theorem witness_BindingsAndRecordsStayLawful : BindingLaw busy ∧ DeliveryLaw busy ∧ OutboxLaw busy := by
  refine ⟨⟨?_, ?_, ?_, ?_⟩, ⟨?_, ?_, ?_⟩, ?_⟩
  · intro i d h
    obtain ⟨rfl, rfl⟩ := busy_only i d h
    decide
  · intro i d b h hb
    obtain ⟨rfl, rfl⟩ := busy_only i d h
    obtain rfl : 6 = b := Option.some.inj hb
    rw [busy_bay]
    rfl
  · intro b i h
    rw [busy_bay] at h
    split at h
    · rename_i hb
      obtain rfl : 0 = i := Option.some.inj h
      exact ⟨flowing, busy_slot, by rw [hb]; rfl⟩
    · simp [BayRecord.cold] at h
  · intro b i h
    rw [busy_bay] at h
    split at h <;> simp [busyBay, bay7, BayRecord.cold] at h
  · intro i d h
    obtain ⟨rfl, rfl⟩ := busy_only i d h
    unfold Delivery.lawful
    decide
  · intro i j d e hi hj _
    rw [(busy_only i d hi).1, (busy_only j e hj).1]
  · intro h
    exact absurd h (by decide)
  · intro b
    rw [busy_bay]
    split <;> refine ⟨fun a => ?_, by decide, by decide, by decide, by decide⟩ <;> cases a <;> decide

theorem witness_CompartmentsStayLawful : CompartmentLaw busy ∧ LatchLaw busy := by
  refine ⟨fun i d h => ?_, fun h => ?_⟩
  · obtain ⟨rfl, rfl⟩ := busy_only i d h
    unfold Delivery.compsLawful Compartment.lawful
    decide
  · exact absurd h (by decide)

theorem witness_CompartmentsStayLawful_arms : ArmLaw busy ∧ SessionLaw busy := by
  have arms : ∀ i d, busy.slot i = some d → ∀ c ∈ d.comps, ∀ b a, c.arm = some ⟨b, a⟩ →
      i = 0 ∧ d = flowing ∧ c = flow ∧ b = 6 ∧ a = .A := by
    intro i d h c hc b a ha
    obtain ⟨rfl, rfl⟩ := busy_only i d h
    obtain rfl := List.mem_singleton.mp hc
    obtain ⟨rfl, rfl⟩ := ArmRef.mk.inj (Option.some.inj ha)
    exact ⟨rfl, rfl, rfl, rfl, rfl⟩
  refine ⟨⟨fun b a i index h => ?_, fun i d h c hc b a ha _ => ?_⟩, fun i d h c hc b a ha => ?_⟩
  · rw [State.arm, busy_bay] at h
    split at h <;> cases a <;> simp [busyBay, bay7, BayRecord.cold, BayRecord.armRecord] at h
    rename_i hb
    obtain ⟨rfl, rfl⟩ := h
    exact ⟨flowing, busy_slot, by decide, flow, List.mem_singleton.mpr rfl, rfl, by rw [hb]; rfl⟩
  · obtain ⟨rfl, rfl, rfl, rfl, rfl⟩ := arms i d h c hc b a ha
    rw [State.arm, busy_bay]
    rfl
  · obtain ⟨rfl, rfl, rfl, rfl, rfl⟩ := arms i d h c hc b a ha
    rw [busy_bay]
    exact ⟨fun h => absurd h (by decide), rfl⟩

theorem witness_SetsAndProductsStayLawful : AccumulatorLaw busy ∧ ProductLaw busy := by
  refine ⟨⟨?_, ?_⟩, ?_, ?_, ?_⟩
  · intro i d h
    obtain ⟨rfl, rfl⟩ := busy_only i d h
    unfold Acc.lawful
    decide
  · intro b x o h
    rw [busy_orphan b x o h]
    unfold Acc.lawful
    decide
  · intro k
    rw [busy_product]
    unfold Product.lawful Product.defined
    split <;> decide
  · intro i d h
    obtain ⟨rfl, rfl⟩ := busy_only i d h
    decide
  · intro b x o h
    rw [busy_orphan b x o h]
    decide

theorem witness_TheHoursTableStaysLawful : DriverLaw busy ∧ RingLaw busy := by
  refine ⟨⟨by decide, by decide, ?_⟩, ⟨?_, ?_⟩⟩
  · intro x hx i hi
    obtain rfl := List.mem_singleton.mp hx
    obtain rfl : 0 = i := Option.some.inj hi
    exact ⟨flowing, busy_slot, rfl, rfl⟩
  · intro x hx
    obtain rfl := List.mem_singleton.mp hx
    refine ⟨by unfold slotLawful; decide, fun t ht => ?_⟩
    obtain rfl : 863000 = t := Option.some.inj ht
    decide
  · intro i d h
    obtain ⟨rfl, rfl⟩ := busy_only i d h
    decide

theorem witness_LinkStatesStayLawful : LinkLaw busy := by
  refine ⟨fun b => ?_, fun v hv => ?_, by decide, by decide⟩
  · rw [busy_bay]
    have hp : ∀ b, busy.polled b = true := by decide
    refine ⟨?_, fun h => ?_, ?_, ?_⟩
    · split
      · exact (rfl : (0 : Nat) = 0)
      · exact (rfl : (3 : Nat) = 3)
    · rw [hp b] at h
      exact absurd h (by decide)
    · split <;> decide
    · split <;> decide
  · obtain rfl : Visit.mk 6 0 false = v := Option.some.inj hv
    decide

/-- One paper issued, in a LOADED delivery. -/
theorem witness_PaperNumbersAreNotUsedTwice :
    let s : State := { put (loaded planned) part with log := { LogStore.new with paperCounter := 1 } }
    PaperLaw s ∧ s.slot 0 = some (loaded planned) := by
  have only : ∀ i d, (put (loaded planned) part).slot i = some d → i = 0 ∧ d = loaded planned :=
    put_only part_free
  refine ⟨⟨?_, ?_⟩, put_slot _ _⟩
  · intro i d p h hp
    obtain ⟨rfl, rfl⟩ := only i d h
    obtain rfl : paper1 = p := Option.some.inj hp
    decide
  · intro i j d e p q hi hj _ _ _
    rw [(only i d hi).1, (only j e hj).1]

end Sys2Proof.Tests
end

namespace Sys2Proof.Machine

/-! ### Compartments of a delivery -/

theorem Delivery.compsLawful.unique {d : Delivery} (h : d.compsLawful) {c y : Compartment} (hc : c ∈ d.comps)
    (hy : y ∈ d.comps) (hi : c.index = y.index) : c = y :=
  List.inj_on_of_nodup_map h.2.2.1 hc hy hi

theorem Delivery.compsLawful.mem {d : Delivery} (h : d.compsLawful) {c : Compartment} (hc : c ∈ d.comps) :
    c.lawful := (h.2.2.2 c hc).2

/-- Compartments changed one by one, each keeping its index, stay lawful where each stays lawful. -/
theorem Delivery.compsLawful.map {d e : Delivery} (h : d.compsLawful) {g : Compartment → Compartment}
    (he : e.comps = d.comps.map g) (hi : ∀ c, (g c).index = c.index)
    (hg : ∀ c ∈ d.comps, c.lawful → (g c).lawful) : e.compsLawful := by
  obtain ⟨hlen, hne, hnd, hall⟩ := h
  refine ⟨by simpa [he] using hlen, by simpa [he] using hne, ?_, ?_⟩
  · have : (d.comps.map g).map Compartment.index = d.comps.map Compartment.index := by
      simp [Function.comp_def, hi]
    rwa [he, this]
  · intro y hy
    rw [he] at hy
    obtain ⟨c, hc, rfl⟩ := List.mem_map.1 hy
    exact ⟨by simpa [hi] using (hall c hc).1, hg c hc (hall c hc).2⟩

/-- The compartment that a slot and index name, in its delivery. -/
theorem State.comp_eq_some {s : State} {i : SlotNo} {k : Nat} {c : Compartment} (h : s.comp i k = some c) :
    ∃ d, s.slot i = some d ∧ c ∈ d.comps ∧ c.index = k := by
  unfold State.comp at h
  split at h
  · simp at h
  · rename_i d hd
    exact ⟨d, hd, Delivery.comp_mem h⟩

/-- In lawful compartments, changing that of an index changes one compartment. -/
theorem Delivery.mem_updComp {d : Delivery} (hd : d.compsLawful) {c : Compartment} (hc : c ∈ d.comps)
    {f : Compartment → Compartment} {y : Compartment} :
    y ∈ (d.updComp c.index f).comps ↔ y = f c ∨ (y ∈ d.comps ∧ y.index ≠ c.index) := by
  simp only [Delivery.updComp, List.mem_map]
  constructor
  · rintro ⟨x, hx, rfl⟩
    split
    · rename_i h
      exact .inl (by rw [hd.unique hx hc h])
    · exact .inr ⟨hx, ‹_›⟩
  · rintro (rfl | ⟨hy, hn⟩)
    · exact ⟨c, hc, if_pos rfl⟩
    · exact ⟨y, hy, if_neg hn⟩

theorem Delivery.compsLawful.updComp {d : Delivery} (hd : d.compsLawful) {c : Compartment} (hc : c ∈ d.comps)
    {f : Compartment → Compartment} (hi : (f c).index = c.index) (hf : c.lawful → (f c).lawful) :
    (d.updComp c.index f).compsLawful := by
  have he : (d.updComp c.index f).comps = d.comps.map fun y => if y = c then f c else y :=
    List.map_congr_left fun y hy => by
      by_cases h : y = c
      · subst h; simp
      · rw [if_neg h, if_neg fun hk => h (hd.unique hy hc hk)]
  refine hd.map he (fun y => ?_) (fun y _ hl => ?_)
  · split
    · rename_i h; rw [hi, h]
    · rfl
  · split
    · rename_i h; exact hf (h ▸ hl)
    · exact hl

/-- A record read after the change of a compartment: it is that of another slot, or the changed one. -/
theorem State.slot_updComp_some {s : State} {i j : SlotNo} {k : Nat} {f : Compartment → Compartment}
    {e : Delivery} (h : (s.updComp i k f).slot j = some e) :
    (j ≠ i ∧ s.slot j = some e) ∨ (j = i ∧ ∃ d, s.slot i = some d ∧ e = d.updComp k f) := by
  rw [State.slot_updComp] at h
  split at h
  · rename_i hj
    subst hj
    obtain ⟨d, hd, rfl⟩ := Option.map_eq_some_iff.1 h
    exact .inr ⟨rfl, d, hd, rfl⟩
  · exact .inl ⟨‹_›, h⟩

/-- A record read after a slot was written: it is that of another slot, or the one written. -/
theorem State.slot_setSlot_some {s : State} {i j : SlotNo} {x : Option Delivery} {e : Delivery}
    (h : (s.setSlot i x).slot j = some e) : (j ≠ i ∧ s.slot j = some e) ∨ (j = i ∧ x = some e) := by
  rw [State.slot_setSlot] at h
  split at h
  · exact .inr ⟨‹_›, h⟩
  · exact .inl ⟨‹_›, h⟩

/-! ### What the changes of a step are made of -/

/-- The latch is set, or a start is in progress: no compartment may be PERMITTED or FLOWING (R24, R100). -/
def State.hot (s : State) : Prop := s.latch.isSet ∨ (s.phase ≠ .running ∧ s.phase ≠ .unpowered)

/-- No compartment is PERMITTED or FLOWING. -/
def State.quiet (s : State) : Prop :=
  ∀ i d, s.slot i = some d → ∀ c ∈ d.comps, c.state ≠ .permitted ∧ c.state ≠ .flowing

theorem latchLaw_iff (s : State) : LatchLaw s ↔ (s.hot → s.quiet) := Iff.rfl

/-- Where a delivery in a state, bound to `bay`, may have a compartment in a state at an arm of bay `b`. -/
def DelState.allows (x : DelState) (bay : Option BayNo) (b : BayNo) (c : CompState) : Prop :=
  match x with
  | .atBay => bay = some b
  | .loaded | .held => c = .stopping ∨ c = .interrupted
  | .releasing => c = .interrupted
  | .booked | .arrived | .cancelling | .expiring => False

theorem sessionLaw_iff (s : State) : SessionLaw s ↔ ∀ i d, s.slot i = some d → ∀ c ∈ d.comps, ∀ b a,
    c.arm = some ⟨b, a⟩ →
      ((s.bay b).link = .silent → c.state = .interrupted) ∧ d.state.allows d.bay b c.state := Iff.rfl

/-- A compartment changed at its arm: it keeps the arm, and goes on to STOPPING, from PERMITTED to FLOWING, or
nowhere. -/
structure Compartment.Follows (c y : Compartment) : Prop where
  index : y.index = c.index
  arm : y.arm = c.arm
  lawful : c.lawful → y.lawful
  state : y.state = c.state ∨ y.state = .stopping ∨ (y.state = .flowing ∧ c.state = .permitted)

/-- The states between which a delivery moves without a bay: those without an armed compartment before its bay,
and from LOADED or HELD to HELD. -/
def DelState.moves (x y : DelState) : Prop :=
  x = y ∨ ((x = .booked ∨ x = .arrived ∨ x = .expiring) ∧ (y = .booked ∨ y = .arrived ∨ y = .expiring))
    ∨ ((x = .loaded ∨ x = .held) ∧ y = .held)

/-- A compartment's record changed in nothing that the laws of compartments speak of. -/
structure Compartment.Same (c y : Compartment) : Prop where
  index : y.index = c.index
  state : y.state = c.state
  arm : y.arm = c.arm
  deadline : y.deadline = c.deadline
  gross : y.acc.G = c.acc.G

/-- The compartment that a START makes PERMITTED. -/
def Compartment.permit (b : BayNo) (x : Arm) (y : Deadline) (c : Compartment) : Compartment :=
  { c with state := .permitted, arm := some ⟨b, x⟩, deadline := some y, acc := { c.acc with L := 0 } }

/-- One change to the dispatch table and the bay records, with what the part has checked before it makes it. Every
step is made of these (R4 to R6, R8, R20, R62 to R65, R71, R88 to R103). -/
inductive Change : State → State → Prop
  /-- Nothing changes in the two tables; the latch, the phase and terminal time may. -/
  | frame {s t : State} (hd : t.dispatch = s.dispatch) (hb : t.bays = s.bays) (hh : t.hot → s.hot)
      (ht : t.time = none → s.time = none) : Change s t
  /-- A bay's link and outbox change. -/
  | bay (s : State) (b : BayNo) (r : BayRecord) (hb : r.bound = (s.bay b).bound)
      (hw : r.withdrawn = none ∨ r.withdrawn = (s.bay b).withdrawn) (ha : ∀ a, r.armRecord a = (s.bay b).armRecord a)
      (hl : r.link = .silent → (s.bay b).link = .silent)
      (ho : (s.bay b).outboxLawful → r.outboxLawful) : Change s (s.setBay b r)
  /-- A bay falls SILENT, and what its arms refer to is interrupted. -/
  | silence (s : State) (b : BayNo) (r : BayRecord)
      (hr : r = { s.bay b with link := .silent, missed := 3, outbox := [] }) :
      Change s (((s.setBay b r).interruptArm b .A).interruptArm b .B)
  /-- A compartment goes on at its arm: while it is active, or by a report of its arm's bay. -/
  | load (s : State) (i : SlotNo) (k : Nat) (f : Compartment → Compartment) (c : Compartment)
      (hc : s.comp i k = some c) (hf : c.Follows (f c))
      (hg : (f c).state = c.state ∨ c.state.active = true
        ∨ ∃ b a, s.arm b a = .compartment i k ∧ (s.bay b).link ≠ .silent) : Change s (s.updComp i k f)
  /-- A compartment leaves its arm. -/
  | leave (s : State) (i : SlotNo) (k : Nat) (f : Compartment → Compartment) (c : Compartment)
      (hc : s.comp i k = some c) (hi : (f c).index = c.index) (ha : (f c).arm = none)
      (hl : c.lawful → (f c).lawful) (hs : (f c).state.armed = false)
      (hg : c.state.active = true ∨ ∃ b a, s.arm b a = .compartment i k) :
      Change s ((s.updComp i k f).freeArm c.arm)
  /-- A delivery's record changes in its slot, its compartments staying where they are. -/
  | record (s : State) (i : SlotNo) (d e : Delivery) (g : Compartment → Compartment) (hd : s.slot i = some d)
      (hr : e.ref = d.ref) (hb : e.bay = d.bay) (hs : d.state.moves e.state) (hl : d.lawful → e.lawful)
      (hc : e.comps = d.comps.map g) (hg : ∀ c, Compartment.Same c (g c)) : Change s (s.setSlot i (some e))
  /-- A BOOK. -/
  | book (s : State) (i : SlotNo) (d : Delivery) (hi : s.slot i = none)
      (hr : ∀ j e, s.slot j = some e → e.ref ≠ d.ref) (ht : s.time ≠ none) (hl : d.lawful) (hc : d.compsLawful)
      (hs : d.state = .booked) (hb : d.bay = none) (hp : ∀ c ∈ d.comps, c.state = .planned) :
      Change s (s.setSlot i (some d))
  /-- A CANCEL. -/
  | cancel (s : State) (i : SlotNo) (d : Delivery) (hd : s.slot i = some d) (hc : d.cancelState = false) :
      Change s ((s.setSlot i (some { d with state := .cancelling, bay := none })).dismissBay i d.bay)
  /-- A session ends. -/
  | sessionEnd (s : State) (i : SlotNo) (d : Delivery) (hd : s.slot i = some d)
      (hb : d.state = .atBay ∨ ∃ b, (s.bay b).bound = some i)
      (hc : (∀ c ∈ d.comps, c.state.active = false) ∨ ∃ b, d.bay = some b ∧ (s.bay b).link = .silent) :
      Change s ((s.setSlot i (some d.afterSession)).unbindBay d.bay)
  /-- A RELEASE. -/
  | release (s : State) (i : SlotNo) (d : Delivery) (hd : s.slot i = some d) (hs : d.state = .loaded ∨ d.state = .held)
      (hc : ∀ c ∈ d.comps, c.state ≠ .stopping) :
      Change s (d.comps.foldl (State.makeOrphan d)
        (s.setSlot i (some { d with state := .releasing, holds := HoldSet.empty })))
  /-- The slot of a RELEASING or EXPIRING delivery is freed. -/
  | free (s : State) (i : SlotNo) (d : Delivery) (hd : s.slot i = some d)
      (hs : d.state = .releasing ∨ d.state = .expiring) : Change s (s.setSlot i none)
  /-- The slot of a CANCELLING delivery is freed. -/
  | depart (s : State) (i : SlotNo) (d : Delivery) (hd : s.slot i = some d) (hs : d.state = .cancelling) :
      Change s ((s.takeLeave i).setSlot i none)
  /-- A CLAIM. -/
  | claim (s : State) (b : BayNo) (i : SlotNo) (d : Delivery) (n : Option Nat) (hd : s.slot i = some d)
      (hs : d.state = .arrived) (hb : (s.bay b).bound = none) (ho : (s.bay b).outbox.any Message.isDismiss = false) :
      Change s ((s.setSlot i (some { d with state := .atBay, bay := some b, claim := n })).setBay b
        { s.bay b with bound := some i })
  /-- A START. -/
  | start (s : State) (b : BayNo) (x : Arm) (i : SlotNo) (k : Nat) (c : Compartment) (y : Deadline)
      (hb : (s.bay b).bound = some i) (hc : s.comp i k = some c) (hs : c.state = .planned) (hx : s.arm b x = .free)
      (hh : ¬ s.hot) (hl : (s.bay b).link ≠ .silent) :
      Change s ((s.updComp i k (Compartment.permit b x y)).setArm b x (.compartment i k))
  /-- An orphan changes, or is cleared. -/
  | orphan (s : State) (b : BayNo) (a : Arm) (o : Orphan) (y : ArmRecord) (ho : s.arm b a = .orphan o)
      (hy : ∀ i k, y ≠ .compartment i k) : Change s (s.setArm b a y)
  /-- A latch event. -/
  | latch (s : State) (set : Latch) : Change s (State.latchEvent { s with latch := set })
  /-- Bays that nothing refers to leave the polled set. -/
  | unpoll {s t : State} (hd : t.dispatch = s.dispatch) (hh : t.hot → s.hot) (ht : t.time = none → s.time = none)
      (hb : ∀ b, t.bay b = s.bay b
        ∨ (t.bay b = (s.bay b).unpolled ∧ (s.bay b).bound = none ∧ ∀ a, s.arm b a = .free)) : Change s t
  /-- A warm start. -/
  | warm {s t : State} (hd : ∀ i, t.slot i = (s.slot i).map Delivery.restarted)
      (hb : ∀ b, t.bay b = (s.bay b).restarted) (ht : t.time = none → s.time = none) : Change s t
  /-- A cold start. -/
  | cold {s t : State} (hd : ∀ i, t.slot i = none) (hb : ∀ b, t.bay b = BayRecord.cold) : Change s t

/-- A run of changes. -/
def Changes : State → State → Prop := Relation.ReflTransGen Change

theorem Changes.refl {s : State} : Changes s s := Relation.ReflTransGen.refl

theorem Changes.single {s t : State} (h : Change s t) : Changes s t := Relation.ReflTransGen.single h

theorem Changes.trans {s t u : State} (h : Changes s t) (k : Changes t u) : Changes s u :=
  Relation.ReflTransGen.trans h k

/-! ### Records and bindings that stay alike -/

/-- What the laws of records and bindings read of a delivery. -/
def Delivery.head (d : Delivery) : Nat × DelState × Option BayNo × Option Nat × Nat × Nat × HoldSet :=
  (d.ref, d.state, d.bay, d.driver, d.driving, d.duty, d.holds)

theorem Delivery.lawful_head {d e : Delivery} (h : e.head = d.head) : e.lawful ↔ d.lawful := by
  simp only [Delivery.head, Prod.mk.injEq] at h
  obtain ⟨hr, hs, -, hd, hg, hy, hh⟩ := h
  simp only [Delivery.lawful, hr, hs, hd, hg, hy, hh]

/-- Two states whose records and bindings are alike: every slot has a record of the same head or is FREE in both,
every bay is bound to the same slot, and its note stands or is cleared. -/
structure State.Alike (s t : State) : Prop where
  slot : ∀ i, (t.slot i).map Delivery.head = (s.slot i).map Delivery.head
  bound : ∀ b, (t.bay b).bound = (s.bay b).bound
  note : ∀ b, (t.bay b).withdrawn = none ∨ (t.bay b).withdrawn = (s.bay b).withdrawn
  time : t.time = none → s.time = none

theorem State.Alike.trans {s t u : State} (h : s.Alike t) (k : t.Alike u) : s.Alike u where
  slot i := (k.slot i).trans (h.slot i)
  bound b := (k.bound b).trans (h.bound b)
  note b := (k.note b).elim .inl fun e => e ▸ h.note b
  time e := h.time (k.time e)

theorem State.Alike.of_tables {s t : State} (hd : t.dispatch = s.dispatch) (hb : t.bays = s.bays)
    (ht : t.time = none → s.time = none) : s.Alike t where
  slot i := by simp only [State.slot, hd]
  bound b := by simp only [State.bay, hb]
  note b := .inr (by simp only [State.bay, hb])
  time := ht

/-- The record that stands where one of a state alike stands. -/
theorem State.Alike.record {s t : State} (h : s.Alike t) {i : SlotNo} {e : Delivery} (he : t.slot i = some e) :
    ∃ d, s.slot i = some d ∧ e.head = d.head := by
  have := h.slot i
  rw [he, Option.map_some, eq_comm, Option.map_eq_some_iff] at this
  obtain ⟨d, hd, hh⟩ := this
  exact ⟨d, hd, hh.symm⟩

theorem State.Alike.record' {s t : State} (h : s.Alike t) {i : SlotNo} {d : Delivery} (hd : s.slot i = some d) :
    ∃ e, t.slot i = some e ∧ e.head = d.head := by
  have := h.slot i
  rwa [hd, Option.map_some, Option.map_eq_some_iff] at this

theorem State.Alike.bindingLaw {s t : State} (h : s.Alike t) (hs : BindingLaw s) : BindingLaw t := by
  obtain ⟨hat, hbay, hbound, hnote⟩ := hs
  refine ⟨fun i e he => ?_, fun i e b he hb => ?_, fun b i hb => ?_, fun b i hw => ?_⟩
  · obtain ⟨d, hd, hh⟩ := h.record he
    simp only [Delivery.head, Prod.mk.injEq] at hh
    rw [hh.2.1, hh.2.2.1]
    exact hat i d hd
  · obtain ⟨d, hd, hh⟩ := h.record he
    simp only [Delivery.head, Prod.mk.injEq] at hh
    rw [h.bound]
    exact hbay i d b hd (hh.2.2.1 ▸ hb)
  · rw [h.bound] at hb
    obtain ⟨d, hd, hdb⟩ := hbound b i hb
    obtain ⟨e, he, hh⟩ := h.record' hd
    simp only [Delivery.head, Prod.mk.injEq] at hh
    exact ⟨e, he, hh.2.2.1.trans hdb⟩
  · rcases h.note b with hn | hn
    · rw [hn] at hw
      cases hw
    · obtain ⟨d, hd, hds⟩ := hnote b i (hn ▸ hw)
      obtain ⟨e, he, hh⟩ := h.record' hd
      simp only [Delivery.head, Prod.mk.injEq] at hh
      exact ⟨e, he, hh.2.1.trans hds⟩

theorem State.Alike.deliveryLaw {s t : State} (h : s.Alike t) (hs : DeliveryLaw s) : DeliveryLaw t := by
  obtain ⟨hlaw, hrefs, htime⟩ := hs
  have ref : ∀ {d e : Delivery}, e.head = d.head → e.ref = d.ref := fun hh => congrArg Prod.fst hh
  refine ⟨fun i e he => ?_, fun i j d e hi hj hr => ?_, fun ht i => ?_⟩
  · obtain ⟨d, hd, hh⟩ := h.record he
    exact (Delivery.lawful_head hh).2 (hlaw i d hd)
  · obtain ⟨d', hd, hh⟩ := h.record hi
    obtain ⟨e', he, hk⟩ := h.record hj
    exact hrefs i j d' e' hd he (by rw [← ref hh, ← ref hk, hr])
  · have := h.slot i
    rwa [htime (h.time ht) i, Option.map_none, Option.map_eq_none_iff] at this

/-- Changes in the bay records that leave every binding and note. -/
theorem State.Alike.setBay {s : State} {b : BayNo} {r : BayRecord} (hb : r.bound = (s.bay b).bound)
    (hw : r.withdrawn = none ∨ r.withdrawn = (s.bay b).withdrawn) : s.Alike (s.setBay b r) where
  slot _ := rfl
  bound c := by rw [State.bay_setBay]; split <;> simp_all
  note c := by rw [State.bay_setBay]; split <;> simp_all
  time := id

theorem State.Alike.setArm (s : State) (b : BayNo) (a : Arm) (x : ArmRecord) : s.Alike (s.setArm b a x) :=
  State.Alike.setBay (by simp) (by simp)

theorem State.Alike.updComp (s : State) (i : SlotNo) (k : Nat) (f : Compartment → Compartment) :
    s.Alike (s.updComp i k f) where
  slot j := by
    rw [State.slot_updComp]
    split
    · rw [Option.map_map]; rfl
    · rfl
  bound b := by rw [State.updComp_frame]; rfl
  note b := by rw [State.updComp_frame]; exact .inr rfl
  time := by rw [State.updComp_frame]; exact id

theorem State.Alike.freeArm (s : State) (x : Option ArmRef) : s.Alike (s.freeArm x) := by
  cases x with
  | none => exact .of_tables rfl rfl id
  | some x => exact .setArm s x.bay x.arm .free

theorem State.Alike.updOrphan (s : State) (b : BayNo) (a : Arm) (f : Orphan → Orphan) :
    s.Alike (s.updOrphan b a f) := by
  rw [State.updOrphan_eq]
  exact .setArm ..

/-! ### The composite changes -/

theorem State.Alike.interruptArm (s : State) (b : BayNo) (a : Arm) : s.Alike (s.interruptArm b a) := by
  unfold State.interruptArm
  split
  · exact .of_tables rfl rfl id
  · exact .updComp ..
  · exact .updOrphan ..

theorem State.Alike.enqueue (s : State) (b : BayNo) (rule : List Message → List Message) :
    s.Alike (s.enqueue b rule) := by
  rw [State.enqueue_eq]
  exact .setBay rfl (.inr rfl)

theorem State.Alike.makeOrphans (d : Delivery) : ∀ (cs : List Compartment) (s : State),
    s.Alike (cs.foldl (State.makeOrphan d) s) := by
  intro cs
  induction cs with
  | nil => exact fun s => .of_tables rfl rfl id
  | cons c cs ih =>
    intro s
    refine .trans ?_ (ih _)
    unfold State.makeOrphan
    split
    · split
      · exact .of_tables rfl rfl id
      · exact .setArm ..
    · exact .of_tables rfl rfl id

theorem State.Alike.latchArms : ∀ (cs : List Compartment) (s : State), s.Alike (cs.foldl State.latchArm s) := by
  intro cs
  induction cs with
  | nil => exact fun s => .of_tables rfl rfl id
  | cons c cs ih =>
    intro s
    refine .trans ?_ (ih _)
    unfold State.latchArm
    split
    · exact .of_tables rfl rfl id
    · refine .trans ?_ (.enqueue ..)
      split
      · exact .setArm ..
      · exact .of_tables rfl rfl id

/-- The first half of a latch event: the compartments moved, the bays not yet told. -/
def State.latchMoved (s : State) : State :=
  { s with
    dispatch := mapTable (Option.map fun d =>
      { d with comps := d.comps.map (Compartment.underLatch s.stopDeadline) }) s.dispatch
    rack := { s.rack with latchStop := true } }

theorem State.latchEvent_eq (s : State) : s.latchEvent = s.latchTargets.foldl State.latchArm s.latchMoved := rfl

theorem State.slot_latchMoved (s : State) (i : SlotNo) : s.latchMoved.slot i = (s.slot i).map fun d =>
    { d with comps := d.comps.map (Compartment.underLatch s.stopDeadline) } := get_mapTable ..

/-- A latch event changes the compartments of the records and nothing else of them. -/
theorem State.Alike.latchEvent (s : State) : s.Alike s.latchEvent := by
  rw [State.latchEvent_eq]
  refine .trans (t := s.latchMoved) ⟨fun i => ?_, fun _ => rfl, fun _ => .inr rfl, id⟩ (.latchArms _ _)
  rw [State.slot_latchMoved, Option.map_map]
  rfl

theorem State.Alike.load (s : State) (i : SlotNo) (k : Nat) (f : Compartment → Compartment) (x : Option ArmRef) :
    s.Alike ((s.updComp i k f).freeArm x) := .trans (.updComp ..) (.freeArm ..)

theorem State.Alike.silence (s : State) (b : BayNo) (r : BayRecord) (hb : r.bound = (s.bay b).bound)
    (hw : r.withdrawn = (s.bay b).withdrawn) : s.Alike (((s.setBay b r).interruptArm b .A).interruptArm b .B) :=
  .trans (.trans (.setBay hb (.inr hw)) (.interruptArm ..)) (.interruptArm ..)

theorem State.Alike.unpoll {s t : State} (hd : t.dispatch = s.dispatch) (ht : t.time = none → s.time = none)
    (hb : ∀ b, t.bay b = s.bay b
      ∨ (t.bay b = (s.bay b).unpolled ∧ (s.bay b).bound = none ∧ ∀ a, s.arm b a = .free)) : s.Alike t where
  slot i := by simp only [State.slot, hd]
  bound b := (hb b).elim (fun h => by rw [h]) fun h => by rw [h.1]; rfl
  note b := .inr ((hb b).elim (fun h => by rw [h]) fun h => by rw [h.1]; rfl)
  time := ht

theorem State.Alike.warm {s t : State} (hd : ∀ i, t.slot i = (s.slot i).map Delivery.restarted)
    (hb : ∀ b, t.bay b = (s.bay b).restarted) (ht : t.time = none → s.time = none) : s.Alike t where
  slot i := by rw [hd, Option.map_map]; rfl
  bound b := by rw [hb]; rfl
  note b := .inr (by rw [hb]; rfl)
  time := ht

/-! ### Bindings -/

/-- A bay that a CANCEL or the end of a session unbinds. -/
theorem State.bay_unbindBay (s : State) (x : Option BayNo) (b : BayNo) :
    (s.unbindBay x).bay b = if x = some b then { s.bay b with bound := none } else s.bay b := by
  cases x with
  | none => rfl
  | some c =>
    simp only [State.unbindBay, State.bay_setBay, Option.some.injEq]
    split
    · subst_vars; simp
    · rw [if_neg (Ne.symm ‹_›)]

theorem State.slot_unbindBay (s : State) (x : Option BayNo) (i : SlotNo) : (s.unbindBay x).slot i = s.slot i := by
  cases x <;> rfl

theorem State.slot_dismissBay (s : State) (i j : SlotNo) (x : Option BayNo) :
    (s.dismissBay i x).slot j = s.slot j := by
  cases x with
  | none => rfl
  | some b => simp only [State.dismissBay, State.queueDismiss, State.enqueue_eq]; rfl

theorem State.bay_dismissBay (s : State) (i : SlotNo) (x : Option BayNo) (b : BayNo) :
    (s.dismissBay i x).bay b = if x = some b then { s.bay b with
      bound := none
      withdrawn := some i
      outbox := if s.polled b = true ∧ (s.bay b).link ≠ .silent then (s.bay b).outbox ++ [.dismiss]
        else (s.bay b).outbox } else s.bay b := by
  cases x with
  | none => rfl
  | some c =>
    simp only [State.dismissBay, State.queueDismiss, State.enqueue_eq, State.setBay_setBay, State.bay_setBay,
      Option.some.injEq]
    by_cases h : b = c
    · subst h; simp; rfl
    · rw [if_neg h, if_neg (Ne.symm h)]

theorem State.bay_setSlot (s : State) (i : SlotNo) (x : Option Delivery) (b : BayNo) :
    (s.setSlot i x).bay b = s.bay b := rfl

theorem State.slot_setBay (s : State) (b : BayNo) (r : BayRecord) (i : SlotNo) :
    (s.setBay b r).slot i = s.slot i := rfl

theorem State.slot_takeLeave (s : State) (i j : SlotNo) : (s.takeLeave i).slot j = s.slot j := rfl

theorem DelState.moves.atBay_iff {x y : DelState} (h : x.moves y) : y = .atBay ↔ x = .atBay := by
  rcases h with rfl | ⟨h | h | h, h' | h' | h'⟩ | ⟨h | h, h'⟩ <;> simp_all

theorem DelState.moves.cancelling {x y : DelState} (h : x.moves y) (hx : x = .cancelling) : y = .cancelling := by
  rcases h with rfl | ⟨h | h | h, h' | h' | h'⟩ | ⟨h | h, h'⟩ <;> simp_all

/-- A record written in place of another of the same bay. -/
theorem BindingLaw.setSlot {s : State} (h : BindingLaw s) {i : SlotNo} {d e : Delivery} (hd : s.slot i = some d)
    (hb : e.bay = d.bay) (ha : e.state = .atBay ↔ d.state = .atBay)
    (hc : d.state = .cancelling → e.state = .cancelling) : BindingLaw (s.setSlot i (some e)) := by
  obtain ⟨hat, hbay, hbound, hnote⟩ := h
  simp only [BindingLaw, State.slot_setSlot, State.bay_setSlot]
  refine ⟨fun j y hy => ?_, fun j y b hy => ?_, fun b j hj => ?_, fun b j hj => ?_⟩
  · have := hat i d hd; grind
  · have := hbay i d b hd; grind
  · obtain ⟨y, hy, hyb⟩ := hbound b j hj; grind
  · obtain ⟨y, hy, hyb⟩ := hnote b j hj; grind

/-- A delivery that a bay is bound to is AT_BAY. -/
theorem BindingLaw.atBay {s : State} (h : BindingLaw s) {i : SlotNo} {d : Delivery} {b : BayNo}
    (hd : s.slot i = some d) (hb : (s.bay b).bound = some i) : d.state = .atBay ∧ d.bay = some b := by
  obtain ⟨y, hy, hyb⟩ := h.2.2.1 b i hb
  obtain rfl : d = y := Option.some.inj (hd.symm.trans hy)
  exact ⟨(h.1 i d hd).2 (by simp [hyb]), hyb⟩

/-- Every change keeps deliveries and bays bound to each other. -/
theorem Change.bindingLaw {s t : State} (h : Change s t) (hs : BindingLaw s) : BindingLaw t := by
  have hs' := hs
  obtain ⟨hat, hbay, hbound, hnote⟩ := hs'
  cases h with
  | frame hd hb _ ht => exact (State.Alike.of_tables hd hb ht).bindingLaw hs
  | bay b r hb hw => exact (State.Alike.setBay hb hw).bindingLaw hs
  | silence b r hr => exact (State.Alike.silence s b r (by rw [hr]) (by rw [hr])).bindingLaw hs
  | load i k f => exact (State.Alike.updComp s i k f).bindingLaw hs
  | leave i k f c => exact (State.Alike.load s i k f c.arm).bindingLaw hs
  | record i d e g hd _ hb hm => exact hs.setSlot hd hb hm.atBay_iff hm.cancelling
  | book i d hi _ _ _ _ hst hb =>
    simp only [BindingLaw, State.slot_setSlot, State.bay_setSlot]
    refine ⟨fun j y hy => ?_, fun j y b hy => ?_, fun b j hj => ?_, fun b j hj => ?_⟩
    · grind
    · grind
    · obtain ⟨y, hy, hyb⟩ := hbound b j hj; grind
    · obtain ⟨y, hy, hyb⟩ := hnote b j hj; grind
  | cancel i d hd hc =>
    have hd' := hbay i d
    simp only [BindingLaw, State.slot_dismissBay, State.slot_setSlot, State.bay_dismissBay, State.bay_setSlot]
    refine ⟨fun j y hy => ?_, fun j y b hy => ?_, fun b j hj => ?_, fun b j hj => ?_⟩
    · grind
    · grind
    · have := hbound b j; grind
    · have := hnote b j; grind
  | sessionEnd i d hd hb =>
    have hd' := hbay i d
    have hst : d.state = .atBay := hb.elim id fun ⟨_, h⟩ => (hs.atBay hd h).1
    have hne : d.afterSession.state ≠ .atBay := by
      simp only [Delivery.afterSession]; split <;> simp
    have hnb : d.afterSession.bay = none := rfl
    simp only [BindingLaw, State.slot_unbindBay, State.slot_setSlot, State.bay_unbindBay, State.bay_setSlot]
    refine ⟨fun j y hy => ?_, fun j y b hy => ?_, fun b j hj => ?_, fun b j hj => ?_⟩
    · grind
    · grind
    · have := hbound b j; grind
    · have := hnote b j; grind
  | release i d hd hst =>
    refine (State.Alike.makeOrphans d d.comps _).bindingLaw (hs.setSlot hd rfl ?_ ?_) <;>
      rcases hst with h | h <;> simp [h]
  | free i d hd hst =>
    have hn : d.state ≠ .atBay ∧ d.state ≠ .cancelling := by rcases hst with h | h <;> simp [h]
    simp only [BindingLaw, State.slot_setSlot, State.bay_setSlot]
    refine ⟨fun j y hy => ?_, fun j y b hy => ?_, fun b j hj => ?_, fun b j hj => ?_⟩
    · grind
    · grind
    · have := hbound b j; have := hat i d; grind
    · have := hnote b j; grind
  | depart i d hd hst =>
    simp only [BindingLaw, State.slot_setSlot, State.bay_setSlot, State.bay_takeLeave, State.slot_takeLeave]
    refine ⟨fun j y hy => ?_, fun j y b hy => ?_, fun b j hj => ?_, fun b j hj => ?_⟩
    · grind
    · grind
    · have := hbound b j; have := hat i d; grind
    · have := hnote b j; grind
  | claim b i d n hd hst hb =>
    simp only [BindingLaw, State.slot_setBay, State.slot_setSlot, State.bay_setBay, State.bay_setSlot]
    refine ⟨fun j y hy => ?_, fun j y b hy => ?_, fun c j hj => ?_, fun c j hj => ?_⟩
    · grind
    · have := hbay j y b; grind
    · have := hbound c j; have := hat i d; grind
    · have := hnote c j; have := hnote b j; grind
  | start b x i k c y => exact (State.Alike.trans (.updComp ..) (.setArm ..)).bindingLaw hs
  | orphan b a o y => exact (State.Alike.setArm s b a y).bindingLaw hs
  | latch set => exact (State.Alike.latchEvent { s with latch := set }).bindingLaw hs
  | unpoll hd _ ht hb => exact (State.Alike.unpoll hd ht hb).bindingLaw hs
  | warm hd hb ht => exact (State.Alike.warm hd hb ht).bindingLaw hs
  | cold hd hb => exact ⟨by simp [hd], by simp [hd], by simp [hb, BayRecord.cold], by simp [hb, BayRecord.cold]⟩

/-! ### Records -/

theorem DeliveryLaw.setSlot {s : State} (h : DeliveryLaw s) {i : SlotNo} {d e : Delivery} (hd : s.slot i = some d)
    (hl : e.lawful) (hr : e.ref = d.ref) : DeliveryLaw (s.setSlot i (some e)) := by
  obtain ⟨hlaw, hrefs, htime⟩ := h
  simp only [DeliveryLaw, State.slot_setSlot, State.setSlot_time]
  refine ⟨fun j y hy => ?_, fun j k y z hj hk hyz => ?_, fun ht j => ?_⟩
  · have := hlaw j y; grind
  · have := hrefs j k; grind
  · have := htime ht i; grind

theorem DeliveryLaw.clear {s : State} (h : DeliveryLaw s) (i : SlotNo) : DeliveryLaw (s.setSlot i none) := by
  obtain ⟨hlaw, hrefs, htime⟩ := h
  simp only [DeliveryLaw, State.slot_setSlot, State.setSlot_time]
  refine ⟨fun j y hy => ?_, fun j k y z hj hk hyz => ?_, fun ht j => ?_⟩
  · have := hlaw j y; grind
  · have := hrefs j k; grind
  · have := htime ht j; grind

/-- The law of records reads the dispatch table and terminal time alone. -/
theorem DeliveryLaw.of_slots {s t : State} (h : DeliveryLaw s) (hs : ∀ i, t.slot i = s.slot i)
    (ht : t.time = none → s.time = none) : DeliveryLaw t := by
  simpa only [DeliveryLaw, hs] using ⟨h.1, h.2.1, fun k => h.2.2 (ht k)⟩

/-- Every change keeps the delivery records lawful. -/
theorem Change.deliveryLaw {s t : State} (h : Change s t) (hb : BindingLaw s) (hs : DeliveryLaw s) :
    DeliveryLaw t := by
  have hs' := hs
  obtain ⟨hlaw, hrefs, htime⟩ := hs'
  cases h with
  | frame hd hb _ ht => exact (State.Alike.of_tables hd hb ht).deliveryLaw hs
  | bay b r hb hw => exact (State.Alike.setBay hb hw).deliveryLaw hs
  | silence b r hr => exact (State.Alike.silence s b r (by rw [hr]) (by rw [hr])).deliveryLaw hs
  | load i k f => exact (State.Alike.updComp s i k f).deliveryLaw hs
  | leave i k f c => exact (State.Alike.load s i k f c.arm).deliveryLaw hs
  | record i d e g hd hr _ _ hl => exact hs.setSlot hd (hl (hlaw i d hd)) hr
  | book i d hi hr ht hl =>
    simp only [DeliveryLaw, State.slot_setSlot, State.setSlot_time]
    refine ⟨fun j y hy => ?_, fun j k y z hj hk hyz => ?_, fun h => absurd h ht⟩
    · have := hlaw j y; grind
    · have := hrefs j k; grind
  | cancel i d hd hc =>
    have hd' := hlaw i d hd
    have hl : Delivery.lawful { d with state := .cancelling, bay := none } := by
      simp only [Delivery.cancelState, Bool.or_eq_false_iff, beq_eq_false_iff_ne] at hc
      obtain ⟨h1, h2, h3, h4, -, h6⟩ := hd'
      exact ⟨h1, h2, h3, h4, by simp [DelState.namesDriver], fun _ => h6 hc.1.2⟩
    exact (hs.setSlot hd hl rfl).of_slots (State.slot_dismissBay _ i · d.bay) (by
      cases d.bay with
      | none => exact id
      | some b => simp only [State.dismissBay, State.queueDismiss, State.enqueue_eq]; exact id)
  | sessionEnd i d hd hat =>
    have hst : d.state = .atBay := hat.elim id fun ⟨_, h⟩ => (hb.atBay hd h).1
    obtain ⟨h1, h2, h3, h4, h5, h6⟩ := hlaw i d hd
    have hl : d.afterSession.lawful := by
      refine ⟨h1, h2, h3, h4, fun _ => h5 (by simp [hst, DelState.namesDriver]), fun _ => h6 (by simp [hst])⟩
    exact (hs.setSlot hd hl rfl).of_slots (State.slot_unbindBay _ d.bay) (by cases d.bay <;> exact id)
  | release i d hd hst =>
    refine (State.Alike.makeOrphans d d.comps _).deliveryLaw (hs.setSlot hd ?_ rfl)
    obtain ⟨h1, h2, h3, h4, h5, h6⟩ := hlaw i d hd
    exact ⟨h1, h2, h3, h4, fun _ => h5 (by rcases hst with h | h <;> simp [h, DelState.namesDriver]), fun _ => rfl⟩
  | free i d hd hst => exact hs.clear i
  | depart i d hd hst => exact hs.clear i
  | claim b i d n hd hst hb =>
    obtain ⟨h1, h2, h3, h4, h5, h6⟩ := hlaw i d hd
    have hl : Delivery.lawful { d with state := .atBay, bay := some b, claim := n } :=
      ⟨h1, h2, h3, h4, fun _ => h5 (by simp [hst, DelState.namesDriver]), fun _ => h6 (by simp [hst])⟩
    exact (hs.setSlot hd hl rfl).of_slots (fun _ => rfl) id
  | start b x i k c y => exact (State.Alike.trans (.updComp ..) (.setArm ..)).deliveryLaw hs
  | orphan b a o y => exact (State.Alike.setArm s b a y).deliveryLaw hs
  | latch set => exact (State.Alike.latchEvent { s with latch := set }).deliveryLaw hs
  | unpoll hd _ ht hb => exact (State.Alike.unpoll hd ht hb).deliveryLaw hs
  | warm hd hb ht => exact (State.Alike.warm hd hb ht).deliveryLaw hs
  | cold hd hb => exact ⟨by simp [hd], by simp [hd], by simp [hd]⟩

/-! ### Outboxes -/

/-- The outbox law of a bay reads its link, its binding and its outbox alone. -/
theorem BayRecord.outboxLawful_congr {r q : BayRecord} (ho : q.outbox = r.outbox) (hb : q.bound = r.bound)
    (hl : q.link = r.link) : q.outboxLawful ↔ r.outboxLawful := by
  simp only [BayRecord.outboxLawful, ho, hb, hl]

/-- A bay that is told something: its outbox changed by a rule, unless it is SILENT. -/
theorem BayRecord.outboxLawful_of_box {r : BayRecord} {box : List Message} (hl : r.link ≠ .silent)
    (ha : ∀ a, box.countP (Message.forArm a) ≤ 1) (hv : box.countP Message.isVerdict ≤ 1)
    (hd : box.countP Message.isDismiss ≤ 1) (hb : box.any Message.isDismiss → r.bound = none) :
    BayRecord.outboxLawful { r with outbox := box } :=
  ⟨ha, hv, hd, hb, fun h => absurd h hl⟩

/-- A message put in the place of a PERMIT for the same arm. -/
theorem countP_inPlace (a : Arm) (m : Message) (p : Message → Bool)
    (hp : ∀ x : Message, x.isPermit a = true → p x = p m) (box : List Message) :
    (box.map fun x => if x.isPermit a then m else x).countP p = box.countP p := by
  rw [List.countP_map]
  refine List.countP_congr fun x _ => ?_
  by_cases h : x.isPermit a = true
  · simp [h, hp x h]
  · simp [h]

theorem Message.isPermit_forArm {a c : Arm} {x : Message} (h : x.isPermit a = true) : x.forArm c = (a == c) := by
  cases x <;> simp_all [Message.isPermit, Message.forArm, Message.isStop]

theorem Message.isPermit_other {a : Arm} {x : Message} (h : x.isPermit a = true) :
    x.isVerdict = false ∧ x.isDismiss = false := by
  cases x <;> simp_all [Message.isPermit, Message.isVerdict, Message.isDismiss]

theorem Message.forArm_permit (a c : Arm) (k p t q : Nat) : (Message.permit a k p t q).forArm c = (a == c) := by
  simp [Message.forArm, Message.isPermit, Message.isStop]

theorem Message.forArm_stop (a c : Arm) : (Message.stop a).forArm c = (a == c) := by
  simp [Message.forArm, Message.isPermit, Message.isStop]

/-- No PERMIT and no STOP for an arm: none of its messages waits. -/
theorem countP_forArm_eq_zero {a : Arm} {box : List Message} (hs : box.any (Message.isStop a) = false)
    (hp : box.any (Message.isPermit a) = false) : box.countP (Message.forArm a) = 0 := by
  rw [List.countP_eq_zero]
  intro x hx
  simp [Message.forArm, List.any_eq_false.1 hs x hx, List.any_eq_false.1 hp x hx]

/-- What an outbox keeps when a message for an arm takes the place of a PERMIT or joins the back. -/
theorem countP_stopQueued (a c : Arm) (box : List Message) (h : box.countP (Message.forArm c) ≤ 1) :
    (withStop a box).countP (Message.forArm c) ≤ 1 := by
  unfold withStop
  split
  · exact h
  · split
    · rwa [countP_inPlace a _ _ fun x hx => by rw [Message.isPermit_forArm hx, Message.forArm_stop]]
    · rename_i hs hp
      rw [List.countP_append]
      by_cases hac : a = c
      · subst hac
        rw [countP_forArm_eq_zero (by simpa using hs) (by simpa using hp)]
        simp [Message.forArm_stop]
      · simp [Message.forArm_stop, hac, h]

theorem countP_withPermit (a c : Arm) (k p t q : Nat) (box : List Message) (hs : box.any (Message.isStop a) = false)
    (h : box.countP (Message.forArm c) ≤ 1) : (withPermit a k p t q box).countP (Message.forArm c) ≤ 1 := by
  unfold withPermit
  split
  · rwa [countP_inPlace a _ _ fun x hx => by rw [Message.isPermit_forArm hx, Message.forArm_permit]]
  · rename_i hp
    rw [List.countP_append]
    by_cases hac : a = c
    · subst hac
      rw [countP_forArm_eq_zero hs (by simpa using hp)]
      simp [Message.forArm_permit]
    · simp [Message.forArm_permit, hac, h]

/-- A queued STOP or PERMIT leaves the other messages as they are. -/
theorem countP_withStop_other (a : Arm) (box : List Message) (p : Message → Bool) (hs : p (.stop a) = false)
    (hp : ∀ x : Message, x.isPermit a = true → p x = false) : (withStop a box).countP p = box.countP p := by
  unfold withStop
  split
  · rfl
  · split
    · exact countP_inPlace a _ _ (fun x hx => by rw [hp x hx, hs]) box
    · simp [hs]

theorem countP_withPermit_other (a : Arm) (k q t u : Nat) (box : List Message) (p : Message → Bool)
    (hm : p (.permit a k q t u) = false) (hp : ∀ x : Message, x.isPermit a = true → p x = false) :
    (withPermit a k q t u box).countP p = box.countP p := by
  unfold withPermit
  split
  · exact countP_inPlace a _ _ (fun x hx => by rw [hp x hx, hm]) box
  · simp [hm]

theorem any_of_countP {p : Message → Bool} {box box' : List Message} (h : box'.countP p = box.countP p)
    (ha : box'.any p = true) : box.any p = true := by
  rw [List.any_eq_true] at ha ⊢
  rw [← List.countP_pos_iff] at ha ⊢
  omega

theorem BayRecord.outboxLawful.withStop {r : BayRecord} (h : r.outboxLawful) (a : Arm) (hl : r.link ≠ .silent) :
    BayRecord.outboxLawful { r with outbox := Machine.withStop a r.outbox } := by
  obtain ⟨harm, hv, hd, hb, -⟩ := h
  have hver := countP_withStop_other a r.outbox Message.isVerdict rfl fun x hx => (Message.isPermit_other hx).1
  have hdis := countP_withStop_other a r.outbox Message.isDismiss rfl fun x hx => (Message.isPermit_other hx).2
  exact BayRecord.outboxLawful_of_box hl (fun c => countP_stopQueued a c _ (harm c)) (hver ▸ hv) (hdis ▸ hd)
    fun ha => hb (any_of_countP hdis ha)

theorem BayRecord.outboxLawful.withPermit {r : BayRecord} (h : r.outboxLawful) (a : Arm) (k p t q : Nat)
    (hl : r.link ≠ .silent) (hs : r.outbox.any (Message.isStop a) = false) :
    BayRecord.outboxLawful { r with outbox := Machine.withPermit a k p t q r.outbox } := by
  obtain ⟨harm, hv, hd, hb, -⟩ := h
  have hver := countP_withPermit_other a k p t q r.outbox Message.isVerdict rfl
    fun x hx => (Message.isPermit_other hx).1
  have hdis := countP_withPermit_other a k p t q r.outbox Message.isDismiss rfl
    fun x hx => (Message.isPermit_other hx).2
  exact BayRecord.outboxLawful_of_box hl (fun c => countP_withPermit a c k p t q _ hs (harm c)) (hver ▸ hv)
    (hdis ▸ hd) fun ha => hb (any_of_countP hdis ha)

/-- A VERDICT at the front of an outbox without one. -/
theorem BayRecord.outboxLawful.verdict {r : BayRecord} (h : r.outboxLawful) (hl : r.link ≠ .silent)
    (hv : r.outbox.any Message.isVerdict = false) (q : BayRequest) (x : Option Arm) (y : Option DenyReason) :
    BayRecord.outboxLawful { r with outbox := .verdict q x y :: r.outbox } := by
  obtain ⟨harm, -, hd, hb, -⟩ := h
  have hz : r.outbox.countP Message.isVerdict = 0 := List.countP_eq_zero.2 (by simpa using hv)
  refine BayRecord.outboxLawful_of_box hl (fun a => ?_) ?_ ?_ fun ha => hb ?_
  · rw [List.countP_cons_of_neg (by simp [Message.forArm, Message.isPermit, Message.isStop])]
    exact harm a
  · rw [List.countP_cons_of_pos rfl, hz]
  · simpa [Message.isDismiss] using hd
  · simpa [Message.isDismiss] using ha

/-- A DISMISS at the back of an outbox without one, of a bay that is bound to nothing. -/
theorem BayRecord.outboxLawful.dismiss {r : BayRecord} (h : r.outboxLawful) (hl : r.link ≠ .silent)
    (hd : r.outbox.any Message.isDismiss = false) (hb : r.bound = none) :
    BayRecord.outboxLawful { r with outbox := r.outbox ++ [.dismiss] } := by
  obtain ⟨harm, hv, -, -, -⟩ := h
  have hz : r.outbox.countP Message.isDismiss = 0 := List.countP_eq_zero.2 (by simpa using hd)
  refine BayRecord.outboxLawful_of_box hl (fun a => ?_) ?_ ?_ fun _ => hb
  · rw [List.countP_append]
    simpa [Message.forArm, Message.isPermit, Message.isStop] using harm a
  · rw [List.countP_append]
    simpa [Message.isVerdict] using hv
  · rw [List.countP_append, hz]
    simp [Message.isDismiss]

/-- An outbox that a bay keeps unless it can be told. -/
theorem BayRecord.outboxLawful.ite {r : BayRecord} {p : Prop} [Decidable p] {box : List Message}
    (h : r.outboxLawful) (hb : p → BayRecord.outboxLawful { r with outbox := box }) :
    BayRecord.outboxLawful { r with outbox := if p then box else r.outbox } := by
  by_cases hp : p
  · simpa only [if_pos hp] using hb hp
  · simpa only [if_neg hp] using h

theorem BayRecord.outboxLawful.erase {r : BayRecord} (h : r.outboxLawful) (m : Message) :
    BayRecord.outboxLawful { r with outbox := r.outbox.erase m } := by
  obtain ⟨harm, hv, hd, hb, hl⟩ := h
  have hs := List.erase_sublist (a := m) (l := r.outbox)
  refine ⟨fun a => (hs.countP_le).trans (harm a), hs.countP_le.trans hv, hs.countP_le.trans hd, fun ha => hb ?_,
    fun h => by simp [hl h]⟩
  rw [List.any_eq_true] at ha ⊢
  exact ha.imp fun x hx => ⟨hs.subset hx.1, hx.2⟩

/-- Two states whose bays have the same links, bindings and outboxes. -/
structure State.SameLines (s t : State) : Prop where
  outbox : ∀ b, (t.bay b).outbox = (s.bay b).outbox
  bound : ∀ b, (t.bay b).bound = (s.bay b).bound
  link : ∀ b, (t.bay b).link = (s.bay b).link

theorem OutboxLaw.of_sameLines {s t : State} (h : OutboxLaw s) (hs : s.SameLines t) : OutboxLaw t := fun b =>
  (BayRecord.outboxLawful_congr (hs.outbox b) (hs.bound b) (hs.link b)).2 (h b)

theorem State.SameLines.trans {s t u : State} (h : s.SameLines t) (k : t.SameLines u) : s.SameLines u :=
  ⟨fun b => (k.outbox b).trans (h.outbox b), fun b => (k.bound b).trans (h.bound b),
    fun b => (k.link b).trans (h.link b)⟩

theorem State.SameLines.of_bays {s t : State} (h : t.bays = s.bays) : s.SameLines t := by
  constructor <;> intro b <;> simp only [State.bay, h]

theorem State.SameLines.updComp (s : State) (i : SlotNo) (k : Nat) (f : Compartment → Compartment) :
    s.SameLines (s.updComp i k f) := .of_bays (by rw [State.updComp_frame])

theorem State.SameLines.setArm (s : State) (b : BayNo) (a : Arm) (x : ArmRecord) : s.SameLines (s.setArm b a x) := by
  constructor <;> intro c <;> rw [State.bay_setArm] <;> split <;> simp_all

theorem State.SameLines.freeArm (s : State) (x : Option ArmRef) : s.SameLines (s.freeArm x) := by
  cases x with
  | none => exact .of_bays rfl
  | some x => exact .setArm s x.bay x.arm .free

theorem State.SameLines.interruptArm (s : State) (b : BayNo) (a : Arm) : s.SameLines (s.interruptArm b a) := by
  unfold State.interruptArm
  split
  · exact .of_bays rfl
  · exact .updComp ..
  · rw [State.updOrphan_eq]
    exact .setArm ..

theorem State.SameLines.makeOrphans (d : Delivery) : ∀ (cs : List Compartment) (s : State),
    s.SameLines (cs.foldl (State.makeOrphan d) s) := by
  intro cs
  induction cs with
  | nil => exact fun s => .of_bays rfl
  | cons c cs ih =>
    intro s
    refine .trans ?_ (ih _)
    unfold State.makeOrphan
    split
    · split
      · exact .of_bays rfl
      · exact .setArm ..
    · exact .of_bays rfl

theorem OutboxLaw.setBay {s : State} (h : OutboxLaw s) {b : BayNo} {r : BayRecord}
    (hr : (s.bay b).outboxLawful → r.outboxLawful) : OutboxLaw (s.setBay b r) := fun c => by
  rw [State.bay_setBay]
  split
  · exact hr (h b)
  · exact h c

/-- A message queued by a rule that keeps the outbox law. -/
theorem OutboxLaw.enqueue {s : State} (h : OutboxLaw s) {b : BayNo} {rule : List Message → List Message}
    (hr : (s.bay b).link ≠ .silent → (s.bay b).outboxLawful →
      BayRecord.outboxLawful { s.bay b with outbox := rule (s.bay b).outbox }) : OutboxLaw (s.enqueue b rule) := by
  unfold State.enqueue
  split
  · rename_i hl
    exact h.setBay (hr hl.2)
  · exact h

theorem OutboxLaw.latchArms : ∀ (cs : List Compartment) {s : State}, OutboxLaw s →
    OutboxLaw (cs.foldl State.latchArm s) := by
  intro cs
  induction cs with
  | nil => exact fun h => h
  | cons c cs ih =>
    intro s h
    refine ih ?_
    unfold State.latchArm
    split
    · exact h
    · refine OutboxLaw.enqueue ?_ fun hl ho => ho.withStop _ hl
      split
      · exact h.of_sameLines (.setArm ..)
      · exact h

theorem BayRecord.outboxLawful_silent {r : BayRecord} (h : r.outbox = []) : r.outboxLawful := by
  simp [BayRecord.outboxLawful, h]

/-- Every change keeps the outboxes in their places. -/
theorem Change.outboxLaw {s t : State} (h : Change s t) (hbind : BindingLaw s) (hs : OutboxLaw s) : OutboxLaw t := by
  cases h with
  | frame hd hb => exact hs.of_sameLines (.of_bays hb)
  | bay b r hb hw ha hl ho => exact hs.setBay ho
  | silence b r hr =>
    have h := hs.setBay (b := b) (r := r) fun _ => BayRecord.outboxLawful_silent (by rw [hr])
    exact (h.of_sameLines (.interruptArm ..)).of_sameLines (.interruptArm ..)
  | load i k f => exact hs.of_sameLines (.updComp ..)
  | leave i k f c => exact (hs.of_sameLines (.updComp ..)).of_sameLines (.freeArm ..)
  | record | book | free => exact hs
  | cancel i d hd =>
    intro b
    rw [State.bay_dismissBay]
    split
    · rename_i hb
      have hbd : (s.bay b).bound = some i := hbind.2.1 i d b hd hb
      obtain ⟨harm, hv, hds, hnb, hl⟩ := hs b
      have hno : (s.bay b).outbox.any Message.isDismiss = false := by
        rw [← Bool.not_eq_true]
        exact fun h => by simp [hnb h] at hbd
      have hr : BayRecord.outboxLawful { s.bay b with bound := none, withdrawn := some i } :=
        ⟨harm, hv, hds, fun _ => rfl, hl⟩
      exact hr.ite fun ht => hr.dismiss ht.2 hno rfl
    · exact hs b
  | sessionEnd i d =>
    intro b
    rw [State.bay_unbindBay]
    split
    · obtain ⟨harm, hv, hds, hnb, hl⟩ := hs b
      exact ⟨harm, hv, hds, fun _ => rfl, hl⟩
    · exact hs b
  | release i d => exact OutboxLaw.of_sameLines (s := s.setSlot i _) (fun b => hs b) (.makeOrphans ..)
  | depart i d =>
    intro b
    rw [State.bay_setSlot, State.bay_takeLeave]
    exact (BayRecord.outboxLawful_congr rfl rfl rfl).1 (hs b)
  | claim b i d n hd hst hb ho =>
    refine OutboxLaw.setBay (fun b => hs b) fun h => ?_
    obtain ⟨harm, hv, hds, hnb, hl⟩ := h
    exact ⟨harm, hv, hds, fun h => by simp [ho] at h, hl⟩
  | start b x i k c y => exact (hs.of_sameLines (.updComp ..)).of_sameLines (.setArm ..)
  | orphan b a o y => exact hs.of_sameLines (.setArm ..)
  | latch set => exact OutboxLaw.latchArms _ (s := State.latchMoved { s with latch := set }) fun b => hs b
  | unpoll hd _ _ hb =>
    intro b
    rcases hb b with h | h
    · rw [h]; exact hs b
    · rw [h.1]; exact BayRecord.outboxLawful_silent rfl
  | warm hd hb =>
    intro b
    rw [hb]
    exact BayRecord.outboxLawful_silent rfl
  | cold hd hb =>
    intro b
    rw [hb]
    exact BayRecord.outboxLawful_silent rfl

/-! ### What the composite changes make of compartments and arms -/

@[simp] theorem Compartment.interrupt_index (c : Compartment) : c.interrupt.index = c.index := by
  unfold Compartment.interrupt; split <;> rfl

@[simp] theorem Compartment.interrupt_arm (c : Compartment) : c.interrupt.arm = c.arm := by
  unfold Compartment.interrupt; split <;> rfl

theorem Compartment.interrupt_state (c : Compartment) :
    c.interrupt.state = if c.state.active then .interrupted else c.state := by
  unfold Compartment.interrupt; split <;> rfl

/-- No compartment is active once it has been interrupted. -/
theorem Compartment.interrupt_active (c : Compartment) : c.interrupt.state.active = false := by
  rw [Compartment.interrupt_state]
  split
  · rfl
  · exact eq_false_of_ne_true ‹_›

theorem Compartment.interrupt_of_inactive {c : Compartment} (h : c.state.active = false) : c.interrupt = c :=
  if_neg (by simp [h])

theorem Compartment.interrupt_interrupt (c : Compartment) : c.interrupt.interrupt = c.interrupt :=
  Compartment.interrupt_of_inactive c.interrupt_active

theorem Compartment.interrupt_lawful {c : Compartment} (h : c.lawful) : c.interrupt.lawful := by
  unfold Compartment.interrupt
  split
  · rename_i ha
    obtain ⟨harm, -, -, -⟩ := h
    refine ⟨harm.trans ?_, ?_, ?_, ?_⟩ <;> cases hs : c.state <;> simp_all [CompState.armed, CompState.active]
  · exact h

@[simp] theorem Compartment.underLatch_index (y : Deadline) (c : Compartment) : (c.underLatch y).index = c.index := by
  unfold Compartment.underLatch; split <;> rfl

theorem Compartment.underLatch_lawful {c : Compartment} (y : Deadline) (h : c.lawful) : (c.underLatch y).lawful := by
  obtain ⟨harm, hdl, hz, hg⟩ := h
  unfold Compartment.underLatch
  split
  · rename_i hs
    simp_all [Compartment.lawful, CompState.armed, CompState.active]
  · rename_i hs
    simp_all [Compartment.lawful, CompState.armed, CompState.active]
  · exact ⟨harm, hdl, hz, hg⟩

theorem Compartment.Same.lawful {c y : Compartment} (h : c.Same y) : y.lawful ↔ c.lawful := by
  simp only [Compartment.lawful, h.arm, h.state, h.deadline, h.gross]

@[simp] theorem ArmRecord.restarted_eq_compartment (x : ArmRecord) (i : SlotNo) (k : Nat) :
    x.restarted = .compartment i k ↔ x = .compartment i k := by
  cases x <;> simp [ArmRecord.restarted]

/-- What an arm refers to is interrupted: the compartment it names, if it names one. -/
theorem State.slot_interruptArm (s : State) (b : BayNo) (a : Arm) (j : SlotNo) :
    (s.interruptArm b a).slot j = (s.slot j).map fun d => { d with
      comps := d.comps.map fun c => if s.arm b a = .compartment j c.index then c.interrupt else c } := by
  have same : ∀ {x : ArmRecord}, (∀ i k, x ≠ .compartment i k) → (fun d : Delivery => { d with
      comps := d.comps.map fun c => if x = .compartment j c.index then c.interrupt else c }) = id := by
    intro x hx
    funext d
    simp [hx]
  unfold State.interruptArm
  cases hx : s.arm b a with
  | free =>
    rw [same (by simp), Option.map_id]
    rfl
  | orphan o =>
    rw [same (by simp), Option.map_id, State.updOrphan_eq]
    rfl
  | compartment i k =>
    simp only [State.slot_updComp, ArmRecord.compartment.injEq]
    split
    · subst_vars
      simp only [true_and, Delivery.updComp, eq_comm]
    · rename_i hj
      simp [Ne.symm hj]

theorem State.arm_interruptArm (s : State) (b c : BayNo) (a e : Arm) :
    (s.interruptArm b a).arm c e = if c = b ∧ e = a then (s.arm c e).restarted else s.arm c e := by
  unfold State.interruptArm
  split
  · split
    · rename_i h
      obtain ⟨rfl, rfl⟩ := h
      simp_all [ArmRecord.restarted]
    · rfl
  · rw [State.updComp_frame]
    split
    · rename_i h
      obtain ⟨rfl, rfl⟩ := h
      rename_i hx
      rw [hx]
      exact hx
    · rfl
  · rw [State.arm_updOrphan]
    split
    · rename_i h
      obtain ⟨rfl, rfl⟩ := h
      simp_all [ArmRecord.restarted]
    · rfl

/-- A bay's silence: the compartments that its arms name are interrupted. -/
theorem State.slot_silence (s : State) (b : BayNo) (r : BayRecord) (ha : ∀ a, r.armRecord a = (s.bay b).armRecord a)
    (j : SlotNo) : (((s.setBay b r).interruptArm b .A).interruptArm b .B).slot j =
      (s.slot j).map fun d => { d with
        comps := d.comps.map fun c =>
          if s.arm b .A = .compartment j c.index ∨ s.arm b .B = .compartment j c.index then c.interrupt else c } := by
  have harm : ∀ a, (s.setBay b r).arm b a = s.arm b a := fun a => by
    simp only [State.arm, State.bay_setBay_self, ha]
  rw [State.slot_interruptArm, State.slot_interruptArm, Option.map_map]
  refine congrArg (fun f => Option.map f (s.slot j)) (funext fun d => ?_)
  simp only [Function.comp_apply, State.arm_interruptArm, harm, List.map_map]
  refine congrArg (fun cs => { d with comps := cs }) (List.map_congr_left fun c _ => ?_)
  simp only [Function.comp_apply]
  by_cases h : s.arm b .A = .compartment j c.index <;> by_cases h' : s.arm b .B = .compartment j c.index <;>
    simp [h, h', Compartment.interrupt_interrupt]

theorem State.arm_silence (s : State) (b c : BayNo) (r : BayRecord) (ha : ∀ a, r.armRecord a = (s.bay b).armRecord a)
    (e : Arm) : (((s.setBay b r).interruptArm b .A).interruptArm b .B).arm c e =
      if c = b then (s.arm c e).restarted else s.arm c e := by
  have harm : (s.setBay b r).arm c e = s.arm c e := by
    simp only [State.arm, State.bay_setBay]
    split
    · subst_vars; exact ha e
    · rfl
  rw [State.arm_interruptArm, State.arm_interruptArm, harm]
  by_cases h : c = b <;> cases e <;> simp [h]

theorem State.dispatch_latchArms : ∀ (cs : List Compartment) (s : State),
    (cs.foldl State.latchArm s).dispatch = s.dispatch := by
  intro cs
  induction cs with
  | nil => exact fun _ => rfl
  | cons c cs ih =>
    intro s
    rw [List.foldl_cons, ih]
    unfold State.latchArm
    split
    · rfl
    · rw [State.queueStop_frame]
      split <;> rfl

/-- A latch event, record by record. -/
theorem State.slot_latchEvent (s : State) (i : SlotNo) : s.latchEvent.slot i = (s.slot i).map fun d =>
    { d with comps := d.comps.map (Compartment.underLatch s.stopDeadline) } := by
  rw [← State.slot_latchMoved, State.latchEvent_eq]
  simp only [State.slot, State.dispatch_latchArms]

theorem State.dispatch_makeOrphans (d : Delivery) : ∀ (cs : List Compartment) (s : State),
    (cs.foldl (State.makeOrphan d) s).dispatch = s.dispatch := by
  intro cs
  induction cs with
  | nil => exact fun _ => rfl
  | cons c cs ih =>
    intro s
    rw [List.foldl_cons, ih]
    unfold State.makeOrphan
    split
    · split <;> rfl
    · rfl

theorem State.slot_makeOrphans (d : Delivery) (cs : List Compartment) (s : State) (i : SlotNo) :
    (cs.foldl (State.makeOrphan d) s).slot i = s.slot i := by
  simp only [State.slot, State.dispatch_makeOrphans]

theorem State.slot_freeArm (s : State) (x : Option ArmRef) (i : SlotNo) : (s.freeArm x).slot i = s.slot i := by
  cases x <;> rfl

theorem State.slot_setArm (s : State) (b : BayNo) (a : Arm) (x : ArmRecord) (i : SlotNo) :
    (s.setArm b a x).slot i = s.slot i := rfl

/-! ### Compartments -/

theorem CompartmentLaw.of_slots {s t : State} (h : CompartmentLaw s) (hs : ∀ i, t.slot i = s.slot i) :
    CompartmentLaw t := fun i d hd => h i d (hs i ▸ hd)

/-- Records whose compartments are changed one by one. -/
theorem CompartmentLaw.map {s t : State} (h : CompartmentLaw s) {g : SlotNo → Delivery → Delivery}
    (hs : ∀ i, t.slot i = (s.slot i).map (g i)) (hg : ∀ i d, d.compsLawful → (g i d).compsLawful) :
    CompartmentLaw t := fun i e he => by
  rw [hs] at he
  obtain ⟨d, hd, rfl⟩ := Option.map_eq_some_iff.1 he
  exact hg i d (h i d hd)

theorem CompartmentLaw.setSlot {s : State} (h : CompartmentLaw s) {i : SlotNo} {x : Option Delivery}
    (hx : ∀ d, x = some d → d.compsLawful) : CompartmentLaw (s.setSlot i x) := fun j e he => by
  rcases State.slot_setSlot_some he with ⟨-, he⟩ | ⟨-, he⟩
  · exact h j e he
  · exact hx e he

theorem CompartmentLaw.updComp {s : State} (h : CompartmentLaw s) {i : SlotNo} {k : Nat} {c : Compartment}
    {f : Compartment → Compartment} (hc : s.comp i k = some c) (hi : (f c).index = c.index)
    (hl : c.lawful → (f c).lawful) : CompartmentLaw (s.updComp i k f) := fun j e he => by
  rcases State.slot_updComp_some he with ⟨-, he⟩ | ⟨rfl, d, hd, rfl⟩
  · exact h j e he
  · obtain ⟨d', hd', hm, rfl⟩ := State.comp_eq_some hc
    obtain rfl := Option.some.inj (hd.symm.trans hd')
    exact (h j d hd).updComp hm hi hl

theorem Delivery.afterSession_compsLawful {d : Delivery} (h : d.compsLawful) : d.afterSession.compsLawful := by
  refine h.map (g := fun c => if c.state = .planned then { c with state := .void } else c) rfl
    (fun c => by split <;> rfl) fun c _ hc => ?_
  split
  · rename_i hs
    obtain ⟨harm, hdl, hz, -⟩ := hc
    simp_all [Compartment.lawful, CompState.armed, CompState.active]
  · exact hc

/-- Every change keeps the compartment records lawful. -/
theorem Change.compartmentLaw {s t : State} (h : Change s t) (hs : CompartmentLaw s) : CompartmentLaw t := by
  cases h with
  | frame hd | unpoll hd => exact hs.of_slots fun i => by simp only [State.slot, hd]
  | bay | orphan => exact hs.of_slots fun _ => rfl
  | silence b r hr =>
    refine hs.map (State.slot_silence s b r (by intro a; cases a <;> rw [hr] <;> rfl)) fun j d hd =>
      hd.map rfl (fun c => ?_) fun c _ hc => ?_
    · split <;> simp
    · split
      · exact Compartment.interrupt_lawful hc
      · exact hc
  | load i k f c hc hf => exact hs.updComp hc hf.index hf.lawful
  | leave i k f c hc hi ha hl => exact (hs.updComp hc hi hl).of_slots (State.slot_freeArm _ c.arm)
  | record i d e g hd _ _ _ _ he hg =>
    refine hs.setSlot fun y hy => Option.some.inj hy ▸ (hs i d hd).map he (fun c => (hg c).index) fun c _ hc =>
      (hg c).lawful.2 hc
  | book i d _ _ _ _ hc => exact hs.setSlot fun y hy => Option.some.inj hy ▸ hc
  | cancel i d hd =>
    have h : CompartmentLaw (s.setSlot i (some { d with state := .cancelling, bay := none })) :=
      hs.setSlot fun y hy => Option.some.inj hy ▸ hs i d hd
    exact h.of_slots (State.slot_dismissBay _ i · d.bay)
  | sessionEnd i d hd =>
    have h : CompartmentLaw (s.setSlot i (some d.afterSession)) :=
      hs.setSlot fun y hy => Option.some.inj hy ▸ Delivery.afterSession_compsLawful (hs i d hd)
    exact h.of_slots (State.slot_unbindBay _ d.bay)
  | release i d hd =>
    have h : CompartmentLaw (s.setSlot i (some { d with state := .releasing, holds := HoldSet.empty })) :=
      hs.setSlot fun y hy => Option.some.inj hy ▸ hs i d hd
    exact h.of_slots (State.slot_makeOrphans d d.comps _)
  | free | depart => exact CompartmentLaw.setSlot (fun j => hs j) (by simp)
  | claim b i d n hd =>
    have h : CompartmentLaw (s.setSlot i (some { d with state := .atBay, bay := some b, claim := n })) :=
      hs.setSlot fun y hy => Option.some.inj hy ▸ hs i d hd
    exact h.of_slots fun _ => rfl
  | start b x i k c y hb hc hst =>
    refine CompartmentLaw.of_slots (hs.updComp hc rfl fun hl => ?_) fun _ => rfl
    obtain ⟨-, -, hz, -⟩ := hl
    simp [Compartment.lawful, Compartment.permit, CompState.armed, CompState.active, hz (.inl hst)]
  | latch set =>
    exact hs.map (State.slot_latchEvent { s with latch := set }) fun j d hd =>
      hd.map rfl (Compartment.underLatch_index _) fun c _ hc => Compartment.underLatch_lawful _ hc
  | warm hd =>
    refine hs.map hd fun j d h => ?_
    exact h.map (e := d.restarted) rfl Compartment.interrupt_index fun c _ hc => Compartment.interrupt_lawful hc
  | cold hd => exact fun i d h => by simp [hd] at h

/-! ### The latch -/

/-- Neither PERMITTED nor FLOWING. -/
def CompState.calm (x : CompState) : Prop := x ≠ .permitted ∧ x ≠ .flowing

theorem State.hot_congr {s t : State} (hl : t.latch = s.latch) (hp : t.phase = s.phase) : t.hot ↔ s.hot := by
  simp only [State.hot, hl, hp]

theorem State.quiet.of_slots {s t : State} (h : s.quiet) (hs : ∀ i, t.slot i = s.slot i) : t.quiet :=
  fun i d hd => h i d (hs i ▸ hd)

theorem State.quiet.map {s t : State} (h : s.quiet) {g : SlotNo → Delivery → Delivery}
    {f : SlotNo → Delivery → Compartment → Compartment} (hs : ∀ i, t.slot i = (s.slot i).map (g i))
    (hc : ∀ i d, (g i d).comps = d.comps.map (f i d)) (hf : ∀ i d c, c.state.calm → (f i d c).state.calm) : t.quiet :=
  fun i e he => by
    rw [hs] at he
    obtain ⟨d, hd, rfl⟩ := Option.map_eq_some_iff.1 he
    rw [hc]
    intro y hy
    obtain ⟨c, hm, rfl⟩ := List.mem_map.1 hy
    exact hf i d c (h i d hd c hm)

theorem State.quiet.setSlot {s : State} (h : s.quiet) {i : SlotNo} {x : Option Delivery}
    (hx : ∀ d, x = some d → ∀ c ∈ d.comps, c.state.calm) : (s.setSlot i x).quiet := fun j e he => by
  rcases State.slot_setSlot_some he with ⟨-, he⟩ | ⟨-, he⟩
  · exact h j e he
  · exact hx e he

theorem State.quiet.updComp {s : State} (h : s.quiet) (hl : CompartmentLaw s) {i : SlotNo} {k : Nat}
    {c : Compartment} {f : Compartment → Compartment} (hc : s.comp i k = some c)
    (hf : c.state.calm → (f c).state.calm) : (s.updComp i k f).quiet := fun j e he => by
  rcases State.slot_updComp_some he with ⟨-, he⟩ | ⟨rfl, d, hd, rfl⟩
  · exact h j e he
  · obtain ⟨d', hd', hm, rfl⟩ := State.comp_eq_some hc
    obtain rfl := Option.some.inj (hd.symm.trans hd')
    intro y hy
    rcases (Delivery.mem_updComp (hl j d hd) hm).1 hy with rfl | ⟨hy, -⟩
    · exact hf (h j d hd c hm)
    · exact h j d hd y hy

theorem Compartment.interrupt_calm (c : Compartment) : c.interrupt.state.calm := by
  have := c.interrupt_active
  constructor <;> intro h <;> simp [h, CompState.active] at this

theorem Compartment.underLatch_calm (y : Deadline) (c : Compartment) : (c.underLatch y).state.calm := by
  unfold Compartment.underLatch CompState.calm
  split <;> simp_all

theorem Delivery.session_calm {d : Delivery} (h : ∀ c ∈ d.comps, c.state.calm) :
    ∀ c ∈ d.afterSession.comps, c.state.calm := by
  intro y hy
  obtain ⟨c, hc, rfl⟩ := List.mem_map.1 hy
  split
  · exact ⟨by simp, by simp⟩
  · exact h c hc

theorem State.latch_dismissBay (s : State) (i : SlotNo) (x : Option BayNo) :
    (s.dismissBay i x).latch = s.latch ∧ (s.dismissBay i x).phase = s.phase := by
  cases x with
  | none => exact ⟨rfl, rfl⟩
  | some b => simp only [State.dismissBay, State.queueDismiss, State.enqueue_eq]; exact ⟨rfl, rfl⟩

theorem State.latch_unbindBay (s : State) (x : Option BayNo) :
    (s.unbindBay x).latch = s.latch ∧ (s.unbindBay x).phase = s.phase := by
  cases x <;> exact ⟨rfl, rfl⟩

theorem State.latch_makeOrphans (d : Delivery) : ∀ (cs : List Compartment) (s : State),
    (cs.foldl (State.makeOrphan d) s).latch = s.latch ∧ (cs.foldl (State.makeOrphan d) s).phase = s.phase := by
  intro cs
  induction cs with
  | nil => exact fun _ => ⟨rfl, rfl⟩
  | cons c cs ih =>
    intro s
    rw [List.foldl_cons, (ih _).1, (ih _).2]
    unfold State.makeOrphan
    split
    · split <;> exact ⟨rfl, rfl⟩
    · exact ⟨rfl, rfl⟩

theorem State.latch_silence (s : State) (b : BayNo) (r : BayRecord) :
    (((s.setBay b r).interruptArm b .A).interruptArm b .B).latch = s.latch
      ∧ (((s.setBay b r).interruptArm b .A).interruptArm b .B).phase = s.phase := by
  rw [State.interruptArm_frame _ b .B, State.interruptArm_frame _ b .A]
  exact ⟨rfl, rfl⟩

theorem State.latch_freeArm (s : State) (x : Option ArmRef) :
    (s.freeArm x).latch = s.latch ∧ (s.freeArm x).phase = s.phase := by
  cases x <;> exact ⟨rfl, rfl⟩

/-- Every change keeps PERMITTED and FLOWING out while the latch is set or a start is in progress. -/
theorem Change.latchLaw {s t : State} (h : Change s t) (hc : CompartmentLaw s) (hs : LatchLaw s) : LatchLaw t := by
  rw [latchLaw_iff] at hs ⊢
  have carry : ∀ {u : State}, u.latch = s.latch ∧ u.phase = s.phase → u.hot → s.quiet :=
    fun hu hot => hs ((State.hot_congr hu.1 hu.2).1 hot)
  cases h with
  | frame hd _ hh | unpoll hd hh => exact fun hot => (hs (hh hot)).of_slots fun i => by simp only [State.slot, hd]
  | bay b r => exact fun hot => hs hot
  | silence b r hr =>
    refine fun hot => (carry (s.latch_silence b r) hot).map (State.slot_silence s b r ?_) (fun _ _ => rfl) ?_
    · intro a; cases a <;> rw [hr] <;> rfl
    · intro j d c h
      split
      · exact c.interrupt_calm
      · exact h
  | load i k f c hx hf =>
    refine fun hot => (carry (by rw [State.updComp_frame]; exact ⟨rfl, rfl⟩) hot).updComp hc hx fun h => ?_
    rcases hf.state with h' | h' | ⟨-, h'⟩
    · rwa [h']
    · rw [h']; exact ⟨by simp, by simp⟩
    · exact absurd h' h.1
  | leave i k f c hx hi ha hl hst =>
    refine fun hot => (State.quiet.updComp (carry ?_ hot) hc hx fun h => ?_).of_slots (State.slot_freeArm _ c.arm)
    · rw [(State.latch_freeArm _ _).1, (State.latch_freeArm _ _).2, State.updComp_frame]; exact ⟨rfl, rfl⟩
    · constructor <;> intro h' <;> simp [h', CompState.armed] at hst
  | record i d e g hd _ _ _ _ he hg =>
    refine fun hot => (hs hot).setSlot fun y hy => ?_
    obtain rfl := Option.some.inj hy
    rw [he]
    intro y hy
    obtain ⟨c, hm, rfl⟩ := List.mem_map.1 hy
    rw [(hg c).state]
    exact hs hot i d hd c hm
  | book i d _ _ _ _ _ _ _ hp =>
    refine fun hot => (hs hot).setSlot fun y hy c hm => ?_
    obtain rfl := Option.some.inj hy
    rw [hp c hm]
    exact ⟨by simp, by simp⟩
  | cancel i d hd =>
    have h : (s.setSlot i (some { d with state := .cancelling, bay := none })).hot → State.quiet
        (s.setSlot i (some { d with state := .cancelling, bay := none })) := fun hot =>
      (hs hot).setSlot fun y hy => Option.some.inj hy ▸ hs hot i d hd
    have hf := State.latch_dismissBay (s.setSlot i (some { d with state := .cancelling, bay := none })) i d.bay
    exact fun hot => (h ((State.hot_congr hf.1 hf.2).1 hot)).of_slots (State.slot_dismissBay _ i · d.bay)
  | sessionEnd i d hd =>
    have hf := State.latch_unbindBay (s.setSlot i (some d.afterSession)) d.bay
    refine fun hot => State.quiet.of_slots (State.quiet.setSlot (carry hf hot) fun y hy => ?_)
      (State.slot_unbindBay _ d.bay)
    obtain rfl := Option.some.inj hy
    exact Delivery.session_calm (carry hf hot i d hd)
  | release i d hd =>
    have hf := State.latch_makeOrphans d d.comps
      (s.setSlot i (some { d with state := .releasing, holds := HoldSet.empty }))
    refine fun hot => State.quiet.of_slots (State.quiet.setSlot (carry hf hot) fun y hy => ?_)
      (State.slot_makeOrphans d d.comps _)
    obtain rfl := Option.some.inj hy
    exact carry hf hot i d hd
  | free i d => exact fun hot => (hs hot).setSlot (by simp)
  | depart i d => exact fun hot => State.quiet.setSlot (fun j => hs hot j) (by simp)
  | claim b i d n hd =>
    refine fun hot => State.quiet.of_slots (State.quiet.setSlot (hs hot) fun y hy => ?_) fun _ => rfl
    obtain rfl := Option.some.inj hy
    exact hs hot i d hd
  | start b x i k c y _ _ _ _ hh =>
    refine fun hot => absurd ?_ hh
    refine (State.hot_congr ?_ ?_).1 hot <;> rw [State.setArm, State.updComp_frame] <;> rfl
  | orphan b a o y => exact fun hot => hs hot
  | latch set =>
    intro _ i e he
    rw [State.slot_latchEvent] at he
    obtain ⟨d, -, rfl⟩ := Option.map_eq_some_iff.1 he
    intro y hy
    obtain ⟨c, -, rfl⟩ := List.mem_map.1 hy
    exact c.underLatch_calm _
  | warm hd =>
    intro _ i e he
    rw [hd] at he
    obtain ⟨d, -, rfl⟩ := Option.map_eq_some_iff.1 he
    intro y hy
    obtain ⟨c, -, rfl⟩ := List.mem_map.1 hy
    exact c.interrupt_calm
  | cold hd => exact fun _ i d h => by simp [hd] at h

/-! ### Arms and sessions -/

/-- What the law of sessions asks of a compartment of `d` at an arm of bay `b`. -/
def State.sessionOk (s : State) (d : Delivery) (b : BayNo) (c : Compartment) : Prop :=
  ((s.bay b).link = .silent → c.state = .interrupted) ∧ d.state.allows d.bay b c.state

/-- The laws under which compartments and arm records keep to each other. -/
structure ArmsHold (s : State) : Prop where
  comps : CompartmentLaw s
  binding : BindingLaw s
  arms : ArmLaw s
  session : SessionLaw s

namespace ArmsHold

variable {s : State} (h : ArmsHold s) {i : SlotNo} {d : Delivery} (hd : s.slot i = some d) {c : Compartment}
  (hc : c ∈ d.comps)
include h hd hc

theorem ok {b : BayNo} {a : Arm} (ha : c.arm = some ⟨b, a⟩) : s.sessionOk d b c := h.session i d hd c hc b a ha

theorem arm_of_armed (ha : c.state.armed = true) : ∃ b a, c.arm = some ⟨b, a⟩ := by
  have := ((h.comps i d hd).mem hc).1.2 ha
  obtain ⟨⟨b, a⟩, hx⟩ := Option.isSome_iff_exists.1 this
  exact ⟨b, a, hx⟩

theorem armed_of_arm {b : BayNo} {a : Arm} (ha : c.arm = some ⟨b, a⟩) : c.state.armed = true :=
  ((h.comps i d hd).mem hc).1.1 (by simp [ha])

/-- An active compartment is in no delivery that is RELEASING, and at no bay that is SILENT. -/
theorem of_active (ha : c.state.active = true) :
    d.state ≠ .releasing ∧ ∀ b a, c.arm = some ⟨b, a⟩ → (s.bay b).link ≠ .silent := by
  have harmed : c.state.armed = true := by cases hs : c.state <;> simp_all [CompState.active, CompState.armed]
  have hni : c.state ≠ .interrupted := fun hs => by simp [hs, CompState.active] at ha
  obtain ⟨b, a, hx⟩ := h.arm_of_armed hd hc harmed
  refine ⟨fun hr => hni ?_, fun b a hx hl => hni ((h.ok hd hc hx).1 hl)⟩
  simpa [DelState.allows, hr] using (h.ok hd hc hx).2

/-- The arm record that names a compartment is that of its arm field, and its delivery is not RELEASING. -/
theorem of_record {b : BayNo} {a : Arm} (ha : s.arm b a = .compartment i c.index) :
    d.state ≠ .releasing ∧ c.arm = some ⟨b, a⟩ := by
  obtain ⟨e, he, hne, y, hy, hi, hya⟩ := h.arms.1 b a i c.index ha
  obtain rfl := Option.some.inj (hd.symm.trans he)
  obtain rfl := (h.comps i d hd).unique hy hc hi
  exact ⟨hne, hya⟩

end ArmsHold

/-- A delivery in which no compartment can be armed. -/
theorem ArmsHold.unarmed {s : State} (h : ArmsHold s) {i : SlotNo} {d : Delivery} (hd : s.slot i = some d)
    (hs : d.state = .booked ∨ d.state = .arrived ∨ d.state = .cancelling ∨ d.state = .expiring) :
    ∀ c ∈ d.comps, c.arm = none := fun c hc => by
  cases ha : c.arm with
  | none => rfl
  | some x =>
    have := (h.ok hd hc (b := x.bay) (a := x.arm) ha).2
    rcases hs with hs | hs | hs | hs <;> simp [hs, DelState.allows] at this

/-- No arm record names a compartment of a delivery in which none is at an arm. -/
theorem ArmsHold.no_record {s : State} (h : ArmsHold s) {i : SlotNo} {d : Delivery} (hd : s.slot i = some d)
    (hn : d.state = .releasing ∨ ∀ c ∈ d.comps, c.arm = none) (b : BayNo) (a : Arm) (k : Nat) :
    s.arm b a ≠ .compartment i k := fun ha => by
  obtain ⟨e, he, hne, y, hy, -, hya⟩ := h.arms.1 b a i k ha
  obtain rfl := Option.some.inj (hd.symm.trans he)
  rcases hn with hn | hn
  · exact hne hn
  · simp [hn y hy] at hya

/-- Two deliveries whose compartments stand at the same arms. -/
structure Delivery.SameArms (d e : Delivery) : Prop where
  releasing : e.state = .releasing ↔ d.state = .releasing
  fwd : ∀ c ∈ d.comps, ∃ y ∈ e.comps, y.index = c.index ∧ y.arm = c.arm
  bwd : ∀ y ∈ e.comps, ∃ c ∈ d.comps, y.index = c.index ∧ y.arm = c.arm

theorem Delivery.SameArms.refl (d : Delivery) : d.SameArms d :=
  ⟨Iff.rfl, fun c hc => ⟨c, hc, rfl, rfl⟩, fun c hc => ⟨c, hc, rfl, rfl⟩⟩

theorem Delivery.SameArms.of_map {d e : Delivery} (hs : e.state = .releasing ↔ d.state = .releasing)
    {g : Compartment → Compartment} (he : e.comps = d.comps.map g) (hi : ∀ c, (g c).index = c.index)
    (ha : ∀ c ∈ d.comps, (g c).arm = c.arm) : d.SameArms e := by
  refine ⟨hs, fun c hc => ⟨g c, he ▸ List.mem_map_of_mem hc, hi c, ha c hc⟩, fun y hy => ?_⟩
  rw [he] at hy
  obtain ⟨c, hc, rfl⟩ := List.mem_map.1 hy
  exact ⟨c, hc, hi c, ha c hc⟩

/-- Every record has its place, and in it its compartments stand at the same arms. -/
structure State.SameArms (s t : State) : Prop where
  fwd : ∀ i d, s.slot i = some d → ∃ e, t.slot i = some e ∧ d.SameArms e
  bwd : ∀ i e, t.slot i = some e → ∃ d, s.slot i = some d ∧ d.SameArms e
  arm : ∀ b a i k, t.arm b a = .compartment i k ↔ s.arm b a = .compartment i k

theorem State.SameArms.armLaw {s t : State} (h : s.SameArms t) (hs : ArmLaw s) : ArmLaw t := by
  obtain ⟨hrec, hfield⟩ := hs
  refine ⟨fun b a i k ha => ?_, fun i e he y hy b a hya hne => ?_⟩
  · obtain ⟨d, hd, hne, c, hc, hi, hca⟩ := hrec b a i k ((h.arm b a i k).1 ha)
    obtain ⟨e, he, hde⟩ := h.fwd i d hd
    obtain ⟨y, hy, hyi, hya⟩ := hde.fwd c hc
    exact ⟨e, he, fun hr => hne (hde.releasing.1 hr), y, hy, hyi.trans hi, hya.trans hca⟩
  · obtain ⟨d, hd, hde⟩ := h.bwd i e he
    obtain ⟨c, hc, hyi, hyc⟩ := hde.bwd y hy
    rw [h.arm, hyi]
    exact hfield i d hd c hc b a (hyc ▸ hya) fun hr => hne (hde.releasing.2 hr)

theorem State.SameArms.of_tables {s t : State} (hd : t.dispatch = s.dispatch)
    (ha : ∀ b a i k, t.arm b a = .compartment i k ↔ s.arm b a = .compartment i k) : s.SameArms t := by
  have hs : ∀ i, t.slot i = s.slot i := fun i => by simp only [State.slot, hd]
  exact ⟨fun i d h => ⟨d, (hs i).trans h, .refl d⟩, fun i e h => ⟨e, (hs i).symm.trans h, .refl e⟩, ha⟩

theorem State.SameArms.of_map {s t : State} {g : SlotNo → Delivery → Delivery}
    (hs : ∀ i, t.slot i = (s.slot i).map (g i)) (hg : ∀ i d, s.slot i = some d → d.SameArms (g i d))
    (ha : ∀ b a i k, t.arm b a = .compartment i k ↔ s.arm b a = .compartment i k) : s.SameArms t := by
  refine ⟨fun i d h => ⟨g i d, by rw [hs, h]; rfl, hg i d h⟩, fun i e h => ?_, ha⟩
  rw [hs] at h
  obtain ⟨d, hd, rfl⟩ := Option.map_eq_some_iff.1 h
  exact ⟨d, hd, hg i d hd⟩

theorem State.SameArms.setSlot {s : State} {i : SlotNo} {d e : Delivery} (hd : s.slot i = some d)
    (he : d.SameArms e) : s.SameArms (s.setSlot i (some e)) := by
  refine ⟨fun j x hx => ?_, fun j x hx => ?_, fun _ _ _ _ => Iff.rfl⟩
  · by_cases hj : j = i
    · subst hj
      obtain rfl := Option.some.inj (hd.symm.trans hx)
      exact ⟨e, State.slot_setSlot_self .., he⟩
    · exact ⟨x, by rw [State.slot_setSlot, if_neg hj, hx], .refl x⟩
  · rcases State.slot_setSlot_some hx with ⟨-, hx⟩ | ⟨rfl, hxe⟩
    · exact ⟨x, hx, .refl x⟩
    · obtain rfl := Option.some.inj hxe
      exact ⟨d, hd, he⟩

/-- The law of sessions, carried over compartment by compartment. -/
theorem SessionLaw.carry {s t : State} (h : SessionLaw s)
    (hs : ∀ i e, t.slot i = some e → ∀ y ∈ e.comps, ∀ b a, y.arm = some ⟨b, a⟩ →
      ∃ d, s.slot i = some d ∧ ∃ c ∈ d.comps, c.arm = some ⟨b, a⟩ ∧ (s.sessionOk d b c → t.sessionOk e b y)) :
    SessionLaw t := by
  intro i e he y hy b a hya
  obtain ⟨d, hd, c, hc, hca, hk⟩ := hs i e he y hy b a hya
  exact hk (h i d hd c hc b a hca)

theorem State.arm_setBay_same {s : State} {b : BayNo} {r : BayRecord} (ha : ∀ a, r.armRecord a = (s.bay b).armRecord a)
    (c : BayNo) (a : Arm) : (s.setBay b r).arm c a = s.arm c a := by
  simp only [State.arm, State.bay_setBay]
  split
  · subst_vars; exact ha a
  · rfl

theorem State.arm_dismissBay (s : State) (i : SlotNo) (x : Option BayNo) (b : BayNo) (a : Arm) :
    (s.dismissBay i x).arm b a = s.arm b a := by
  simp only [State.arm, State.bay_dismissBay]
  split
  · cases a <;> rfl
  · rfl

theorem State.arm_unbindBay (s : State) (x : Option BayNo) (b : BayNo) (a : Arm) :
    (s.unbindBay x).arm b a = s.arm b a := by
  simp only [State.arm, State.bay_unbindBay]
  split
  · cases a <;> rfl
  · rfl

theorem State.arm_takeLeave (s : State) (i : SlotNo) (b : BayNo) (a : Arm) :
    (s.takeLeave i).arm b a = s.arm b a := by
  simp only [State.arm, State.bay_takeLeave]
  cases a <;> rfl

theorem DelState.allows_moves {x y : DelState} (h : x.moves y) {o : Option BayNo} {b : BayNo} {c : CompState}
    (ha : x.allows o b c) : y.allows o b c := by
  rcases h with rfl | ⟨h | h | h, -⟩ | ⟨h | h, rfl⟩ <;> simp_all [DelState.allows]

theorem DelState.moves.releasing {x y : DelState} (h : x.moves y) : y = .releasing ↔ x = .releasing := by
  rcases h with rfl | ⟨h | h | h, h' | h' | h'⟩ | ⟨h | h, h'⟩ <;> simp_all

/-- A compartment that goes on at its arm is where its session allows it to be. -/
theorem Compartment.Follows.sessionOk {s : State} (h : ArmsHold s) {i : SlotNo} {d : Delivery}
    (hd : s.slot i = some d) {c y : Compartment} (hc : c ∈ d.comps) (hf : c.Follows y)
    (hg : y.state = c.state ∨ c.state.active = true
        ∨ ∃ b a, s.arm b a = .compartment i c.index ∧ (s.bay b).link ≠ .silent) {b : BayNo} {a : Arm}
    (ha : c.arm = some ⟨b, a⟩) : s.sessionOk d b y := by
  have hok := h.ok hd hc ha
  rcases hf.state with hs | hs
  · simpa only [State.sessionOk, hs] using hok
  have hfree : d.state ≠ .releasing ∧ (s.bay b).link ≠ .silent ∨ y.state = c.state := by
    rcases hg with hg | hg | ⟨b', a', hr, hl⟩
    · exact .inr hg
    · exact .inl ⟨(h.of_active hd hc hg).1, (h.of_active hd hc hg).2 b a ha⟩
    · obtain ⟨hne, ha'⟩ := h.of_record hd hc hr
      obtain ⟨rfl, rfl⟩ : b' = b ∧ a' = a := by simpa using ha'.symm.trans ha
      exact .inl ⟨hne, hl⟩
  rcases hfree with ⟨hne, hl⟩ | hg
  · refine ⟨fun h => absurd h hl, ?_⟩
    have := hok.2
    cases hst : d.state <;> rcases hs with hs | ⟨hs, hs'⟩ <;> simp_all [DelState.allows]
  · simpa only [State.sessionOk, hg] using hok

/-! #### The changes one by one -/

/-- A compartment changed in its delivery, read back. -/
theorem State.mem_updComp {s : State} (hl : CompartmentLaw s) {i j : SlotNo} {k : Nat} {c : Compartment}
    {f : Compartment → Compartment} (hc : s.comp i k = some c) {e : Delivery}
    (he : (s.updComp i k f).slot j = some e) {y : Compartment} (hy : y ∈ e.comps) :
    ∃ d, s.slot j = some d ∧ e.state = d.state ∧ e.bay = d.bay
      ∧ ((j = i ∧ c ∈ d.comps ∧ c.index = k ∧ y = f c) ∨ (y ∈ d.comps ∧ (j = i → y.index ≠ k))) := by
  rcases State.slot_updComp_some he with ⟨hj, he⟩ | ⟨rfl, d, hd, rfl⟩
  · exact ⟨e, he, rfl, rfl, .inr ⟨hy, fun h => absurd h hj⟩⟩
  · obtain ⟨d', hd', hm, rfl⟩ := State.comp_eq_some hc
    obtain rfl := Option.some.inj (hd.symm.trans hd')
    refine ⟨d, hd, rfl, rfl, ?_⟩
    rcases (Delivery.mem_updComp (hl j d hd) hm).1 hy with rfl | ⟨hy, hn⟩
    · exact .inl ⟨rfl, hm, rfl, rfl⟩
    · exact .inr ⟨hy, fun _ => hn⟩

theorem State.bay_updComp (s : State) (i : SlotNo) (k : Nat) (f : Compartment → Compartment) (b : BayNo) :
    (s.updComp i k f).bay b = s.bay b := by rw [State.updComp_frame]; rfl

theorem State.arm_updComp (s : State) (i : SlotNo) (k : Nat) (f : Compartment → Compartment) (b : BayNo) (a : Arm) :
    (s.updComp i k f).arm b a = s.arm b a := by rw [State.arm, State.bay_updComp]; rfl

theorem State.SameArms.updComp {s : State} (hl : CompartmentLaw s) {i : SlotNo} {k : Nat} {c : Compartment}
    {f : Compartment → Compartment} (hc : s.comp i k = some c) (hi : (f c).index = c.index) (ha : (f c).arm = c.arm) :
    s.SameArms (s.updComp i k f) := by
  obtain ⟨d, hd, hm, rfl⟩ := State.comp_eq_some hc
  have hsame : d.SameArms (d.updComp c.index f) := by
    refine ⟨Iff.rfl, fun y hy => ?_, fun y hy => ?_⟩
    · by_cases hk : y.index = c.index
      · obtain rfl := (hl i d hd).unique hy hm hk
        exact ⟨f y, (Delivery.mem_updComp (hl i d hd) hm).2 (.inl rfl), hi, ha⟩
      · exact ⟨y, (Delivery.mem_updComp (hl i d hd) hm).2 (.inr ⟨hy, hk⟩), rfl, rfl⟩
    · rcases (Delivery.mem_updComp (hl i d hd) hm).1 hy with rfl | ⟨hy, -⟩
      · exact ⟨c, hm, hi, ha⟩
      · exact ⟨y, hy, rfl, rfl⟩
  rw [State.updComp_of_some hd]
  exact .setSlot hd hsame

theorem ArmsHold.load {s : State} (h : ArmsHold s) {i : SlotNo} {k : Nat} {f : Compartment → Compartment}
    {c : Compartment} (hc : s.comp i k = some c) (hf : c.Follows (f c))
    (hg : (f c).state = c.state ∨ c.state.active = true
      ∨ ∃ b a, s.arm b a = .compartment i k ∧ (s.bay b).link ≠ .silent) :
    ArmLaw (s.updComp i k f) ∧ SessionLaw (s.updComp i k f) := by
  refine ⟨(State.SameArms.updComp h.comps hc hf.index hf.arm).armLaw h.arms, ?_⟩
  intro j e he y hy b a hya
  obtain ⟨d, hd, hst, hbay, hcase⟩ := State.mem_updComp h.comps hc he hy
  suffices hs : s.sessionOk d b y by
    change (s.updComp i k f).sessionOk e b y
    simpa only [State.sessionOk, State.bay_updComp, hst, hbay] using hs
  rcases hcase with ⟨rfl, hm, rfl, rfl⟩ | ⟨hy, -⟩
  · exact hf.sessionOk h hd hm hg (hf.arm ▸ hya)
  · exact h.ok hd hy hya

/-- An arm that lets go of what it refers to. -/
theorem State.arm_freeArm (s : State) (x : Option ArmRef) (b : BayNo) (a : Arm) :
    (s.freeArm x).arm b a = if x = some ⟨b, a⟩ then .free else s.arm b a := by
  cases x with
  | none => rfl
  | some x =>
    obtain ⟨b', a'⟩ := x
    rw [State.freeArm, State.arm_setArm]
    simp only [Option.some.injEq, ArmRef.mk.injEq, @eq_comm _ b, @eq_comm _ a]

theorem State.bay_freeArm_link (s : State) (x : Option ArmRef) (b : BayNo) :
    ((s.freeArm x).bay b).link = (s.bay b).link := (State.SameLines.freeArm s x).link b

theorem ArmsHold.leave {s : State} (h : ArmsHold s) {i : SlotNo} {k : Nat} {f : Compartment → Compartment}
    {c : Compartment} (hc : s.comp i k = some c) (hi : (f c).index = c.index) (ha : (f c).arm = none)
    (hg : c.state.active = true ∨ ∃ b a, s.arm b a = .compartment i k) :
    ArmLaw ((s.updComp i k f).freeArm c.arm) ∧ SessionLaw ((s.updComp i k f).freeArm c.arm) := by
  obtain ⟨d, hd, hm, rfl⟩ := State.comp_eq_some hc
  have hne : d.state ≠ .releasing := by
    rcases hg with hg | ⟨b, a, hr⟩
    · exact (h.of_active hd hm hg).1
    · exact (h.of_record hd hm hr).1
  have hback : ∀ b a, c.arm = some ⟨b, a⟩ → s.arm b a = .compartment i c.index :=
    fun b a hx => h.arms.2 i d hd c hm b a hx hne
  refine ⟨⟨fun b a j n hr => ?_, fun j e he y hy b a hya hre => ?_⟩, ?_⟩
  · rw [State.arm_freeArm, State.arm_updComp] at hr
    split at hr
    · cases hr
    · rename_i hx
      obtain ⟨d', hd', hne', c', hm', rfl, hca⟩ := h.arms.1 b a j n hr
      simp only [State.slot_freeArm, State.slot_updComp]
      by_cases hj : j = i
      · subst hj
        obtain rfl := Option.some.inj (hd.symm.trans hd')
        have hk : c'.index ≠ c.index := fun hk => by
          obtain rfl := (h.comps j d hd).unique hm' hm hk
          exact hx hca
        refine ⟨d.updComp c.index f, by simp [hd], hne', c', ?_, rfl, hca⟩
        exact (Delivery.mem_updComp (h.comps j d hd) hm).2 (.inr ⟨hm', hk⟩)
      · exact ⟨d', by simp [hj, hd'], hne', c', hm', rfl, hca⟩
  · rw [State.slot_freeArm] at he
    obtain ⟨d', hd', hst, -, hcase⟩ := State.mem_updComp h.comps hc he hy
    rcases hcase with ⟨rfl, hm', -, rfl⟩ | ⟨hy, hn⟩
    · simp [ha] at hya
    · have hr := h.arms.2 j d' hd' y hy b a hya (hst ▸ hre)
      rw [State.arm_freeArm, State.arm_updComp, if_neg, hr]
      intro hx
      have hr' := hback b a hx
      rw [hr, ArmRecord.compartment.injEq] at hr'
      exact hn hr'.1 hr'.2
  · refine h.session.carry fun j e he y hy b a hya => ?_
    rw [State.slot_freeArm] at he
    obtain ⟨d', hd', hst, hbay, hcase⟩ := State.mem_updComp h.comps hc he hy
    rcases hcase with ⟨rfl, hm', -, rfl⟩ | ⟨hy, hn⟩
    · simp [ha] at hya
    · refine ⟨d', hd', y, hy, hya, fun hok => ?_⟩
      simpa only [State.sessionOk, State.bay_freeArm_link, State.bay_updComp, hst, hbay] using hok

theorem ArmsHold.silence {s : State} (h : ArmsHold s) {b : BayNo} {r : BayRecord}
    (hr : r = { s.bay b with link := .silent, missed := 3, outbox := [] }) :
    ArmLaw (((s.setBay b r).interruptArm b .A).interruptArm b .B)
      ∧ SessionLaw (((s.setBay b r).interruptArm b .A).interruptArm b .B) := by
  have ha : ∀ a, r.armRecord a = (s.bay b).armRecord a := by intro a; cases a <;> rw [hr] <;> rfl
  have hslot := State.slot_silence s b r ha
  have hlink : ∀ c, ((((s.setBay b r).interruptArm b .A).interruptArm b .B).bay c).link = .silent →
      c = b ∨ (s.bay c).link = .silent := fun c hc => by
    rw [(State.SameLines.interruptArm _ b .B).link, (State.SameLines.interruptArm _ b .A).link, State.bay_setBay] at hc
    split at hc
    · exact .inl ‹_›
    · exact .inr hc
  constructor
  · refine (State.SameArms.of_map hslot (fun j d hd => ?_) fun c a i k => ?_).armLaw h.arms
    · exact .of_map Iff.rfl rfl (fun c => by split <;> simp) fun c _ => by split <;> simp
    · rw [State.arm_silence s b c r ha]
      split <;> simp
  · refine h.session.carry fun j e he y hy c a hya => ?_
    rw [hslot] at he
    obtain ⟨d, hd, rfl⟩ := Option.map_eq_some_iff.1 he
    obtain ⟨x, hx, rfl⟩ := List.mem_map.1 hy
    have harm : x.arm = some ⟨c, a⟩ := by
      rw [← hya]
      split <;> simp
    refine ⟨d, hd, x, hx, harm, fun hok => ?_⟩
    have harmed := h.armed_of_arm hd hx harm
    split
    · -- interrupted by the silence, or not active before it
      have hst : x.interrupt.state = .interrupted := by
        rw [Compartment.interrupt_state]
        cases hs : x.state <;> simp_all [CompState.active, CompState.armed]
      refine ⟨fun _ => hst, ?_⟩
      rw [hst]
      have := hok.2
      cases hds : d.state <;> simp_all [DelState.allows]
    · rename_i hnone
      refine ⟨fun hl => ?_, hok.2⟩
      rcases hlink c hl with rfl | hl
      · by_cases hre : d.state = .releasing
        · simpa [DelState.allows, hre] using hok.2
        · have := h.arms.2 j d hd x hx c a harm hre
          cases a <;> simp_all
      · exact hok.1 hl

theorem ArmsHold.record {s : State} (h : ArmsHold s) {i : SlotNo} {d e : Delivery} {g : Compartment → Compartment}
    (hd : s.slot i = some d) (hb : e.bay = d.bay) (hs : d.state.moves e.state) (hc : e.comps = d.comps.map g)
    (hg : ∀ c, Compartment.Same c (g c)) :
    ArmLaw (s.setSlot i (some e)) ∧ SessionLaw (s.setSlot i (some e)) := by
  refine ⟨(State.SameArms.setSlot hd (.of_map hs.releasing hc (fun c => (hg c).index)
    fun c _ => (hg c).arm)).armLaw h.arms, h.session.carry fun j x hx y hy b a hya => ?_⟩
  rcases State.slot_setSlot_some hx with ⟨-, hx⟩ | ⟨rfl, hxe⟩
  · exact ⟨x, hx, y, hy, hya, id⟩
  · obtain rfl := Option.some.inj hxe
    rw [hc] at hy
    obtain ⟨c, hm, rfl⟩ := List.mem_map.1 hy
    refine ⟨d, hd, c, hm, (hg c).arm ▸ hya, fun hok => ?_⟩
    simp only [State.sessionOk, State.bay_setSlot, (hg c).state, hb]
    exact ⟨hok.1, DelState.allows_moves hs hok.2⟩

/-- A slot cleared or written with a record that has no armed compartment, where none was armed before. -/
theorem ArmsHold.setSlot_unarmed {s : State} (h : ArmsHold s) {i : SlotNo} {x : Option Delivery}
    (hn : ∀ b a k, s.arm b a ≠ .compartment i k) (hx : ∀ e, x = some e → ∀ c ∈ e.comps, c.arm = none) :
    ArmLaw (s.setSlot i x) ∧ SessionLaw (s.setSlot i x) := by
  refine ⟨⟨fun b a j k hr => ?_, fun j e he y hy b a hya hre => ?_⟩, h.session.carry fun j e he y hy b a hya => ?_⟩
  · obtain ⟨d, hd, hrest⟩ := h.arms.1 b a j k hr
    have hj : j ≠ i := fun hj => hn b a k (hj ▸ hr)
    exact ⟨d, by rw [State.slot_setSlot, if_neg hj, hd], hrest⟩
  · rcases State.slot_setSlot_some he with ⟨-, he⟩ | ⟨-, he⟩
    · exact h.arms.2 j e he y hy b a hya hre
    · simp [hx e he y hy] at hya
  · rcases State.slot_setSlot_some he with ⟨-, he⟩ | ⟨-, he⟩
    · exact ⟨e, he, y, hy, hya, id⟩
    · simp [hx e he y hy] at hya

/-- The laws of arms and sessions read the dispatch table, the arm records and the link states alone. -/
theorem arms_congr {s t : State} (hs : ∀ i, t.slot i = s.slot i) (ha : ∀ b a, t.arm b a = s.arm b a)
    (hl : ∀ b, (t.bay b).link = (s.bay b).link) (h : ArmLaw s ∧ SessionLaw s) : ArmLaw t ∧ SessionLaw t := by
  simpa only [ArmLaw, SessionLaw, hs, ha, hl] using h

theorem Delivery.comps_unarmed {d : Delivery} (hl : d.compsLawful) (hc : d.cancelState = false) :
    ∀ c ∈ d.comps, c.arm = none := fun c hm => by
  simp only [Delivery.cancelState, Bool.or_eq_false_iff, List.any_eq_false] at hc
  have hna := (hc.2 c hm)
  have := (hl.mem hm).1
  cases ha : c.arm with
  | none => rfl
  | some x => simp_all

theorem State.bay_dismissBay_link (s : State) (i : SlotNo) (x : Option BayNo) (b : BayNo) :
    ((s.dismissBay i x).bay b).link = (s.bay b).link := by
  rw [State.bay_dismissBay]; split <;> rfl

theorem State.bay_unbindBay_link (s : State) (x : Option BayNo) (b : BayNo) :
    ((s.unbindBay x).bay b).link = (s.bay b).link := by
  rw [State.bay_unbindBay]; split <;> rfl

theorem ArmsHold.cancel {s : State} (h : ArmsHold s) {i : SlotNo} {d : Delivery} (hd : s.slot i = some d)
    (hc : d.cancelState = false) :
    ArmLaw ((s.setSlot i (some { d with state := .cancelling, bay := none })).dismissBay i d.bay)
      ∧ SessionLaw ((s.setSlot i (some { d with state := .cancelling, bay := none })).dismissBay i d.bay) := by
  have hn := Delivery.comps_unarmed (h.comps i d hd) hc
  refine arms_congr (State.slot_dismissBay _ i · d.bay) (State.arm_dismissBay _ i d.bay)
    (State.bay_dismissBay_link _ i d.bay) (h.setSlot_unarmed (h.no_record hd (.inr hn)) fun e he => ?_)
  obtain rfl := Option.some.inj he
  exact hn

theorem ArmsHold.sessionEnd {s : State} (h : ArmsHold s) {i : SlotNo} {d : Delivery} (hd : s.slot i = some d)
    (hb : d.state = .atBay ∨ ∃ b, (s.bay b).bound = some i)
    (hc : (∀ c ∈ d.comps, c.state.active = false) ∨ ∃ b, d.bay = some b ∧ (s.bay b).link = .silent) :
    ArmLaw ((s.setSlot i (some d.afterSession)).unbindBay d.bay)
      ∧ SessionLaw ((s.setSlot i (some d.afterSession)).unbindBay d.bay) := by
  have hat : d.state = .atBay := hb.elim id fun ⟨_, hx⟩ => (h.binding.atBay hd hx).1
  -- an armed compartment of the session is INTERRUPTED
  have hint : ∀ c ∈ d.comps, ∀ b a, c.arm = some ⟨b, a⟩ → c.state = .interrupted := by
    intro c hm b a ha
    have harmed := h.armed_of_arm hd hm ha
    have hok := h.ok hd hm ha
    rcases hc with hc | ⟨b', hdb, hl⟩
    · have := hc c hm
      cases hs : c.state <;> simp_all [CompState.active, CompState.armed]
    · have : d.bay = some b := by simpa [DelState.allows, hat] using hok.2
      obtain rfl := Option.some.inj (hdb.symm.trans this)
      exact hok.1 hl
  have hsame : d.SameArms d.afterSession := by
    refine .of_map (g := fun c => if c.state = .planned then { c with state := .void } else c) ?_ rfl
      (fun c => by split <;> rfl) (fun c _ => by split <;> rfl)
    simp only [hat, Delivery.afterSession]
    split <;> simp
  refine arms_congr (State.slot_unbindBay _ d.bay) (State.arm_unbindBay _ d.bay) (State.bay_unbindBay_link _ d.bay)
    ⟨(State.SameArms.setSlot hd hsame).armLaw h.arms, h.session.carry fun j e he y hy b a hya => ?_⟩
  rcases State.slot_setSlot_some he with ⟨-, he⟩ | ⟨rfl, hde⟩
  · exact ⟨e, he, y, hy, hya, id⟩
  · obtain rfl := Option.some.inj hde
    obtain ⟨c, hm, rfl⟩ := List.mem_map.1 hy
    have ha : c.arm = some ⟨b, a⟩ := by
      rw [← hya]
      split <;> rfl
    have hci := hint c hm b a ha
    have hl : d.isLoaded = true := List.any_eq_true.2 ⟨c, hm, by simp [hci]⟩
    refine ⟨d, hd, c, hm, ha, fun _ => ?_⟩
    simp [State.sessionOk, DelState.allows, Delivery.afterSession, hl, hci]

/-- The arm records once the INTERRUPTED compartments of a list have been made orphans. -/
theorem State.arm_makeOrphans (d : Delivery) (b : BayNo) (a : Arm) : ∀ (cs : List Compartment) (s : State),
    ((∃ c ∈ cs, c.state = .interrupted ∧ c.arm = some ⟨b, a⟩) →
      ∃ o, (cs.foldl (State.makeOrphan d) s).arm b a = .orphan o)
    ∧ ((∀ c ∈ cs, c.state = .interrupted → c.arm ≠ some ⟨b, a⟩) →
      (cs.foldl (State.makeOrphan d) s).arm b a = s.arm b a) := by
  intro cs
  induction cs with
  | nil => exact fun s => ⟨by simp, fun _ => rfl⟩
  | cons c cs ih =>
    intro s
    rw [List.foldl_cons]
    have hstep : (s.makeOrphan d c).arm b a =
        if c.state = .interrupted ∧ c.arm = some ⟨b, a⟩ then .orphan (orphanOf d c) else s.arm b a := by
      unfold State.makeOrphan
      by_cases hs : c.state = .interrupted
      · rw [if_pos hs]
        cases hx : c.arm with
        | none => simp
        | some x =>
          obtain ⟨b', a'⟩ := x
          rw [State.arm_setArm]
          simp [hs, @eq_comm _ b, @eq_comm _ a]
      · simp [hs]
    obtain ⟨hin, hout⟩ := ih (s.makeOrphan d c)
    constructor
    · rintro ⟨y, hy, hys⟩
      by_cases hmore : ∃ z ∈ cs, z.state = .interrupted ∧ z.arm = some ⟨b, a⟩
      · exact hin hmore
      · rw [hout fun z hz hzs hza => hmore ⟨z, hz, hzs, hza⟩, hstep]
        rcases List.mem_cons.1 hy with rfl | hy
        · exact ⟨_, if_pos hys⟩
        · exact absurd ⟨y, hy, hys⟩ hmore
    · intro hn
      rw [hout fun z hz => hn z (List.mem_cons_of_mem _ hz), hstep, if_neg]
      exact fun hc => hn c List.mem_cons_self hc.1 hc.2

theorem ArmsHold.release {s : State} (h : ArmsHold s) {i : SlotNo} {d : Delivery} (hd : s.slot i = some d)
    (hs : d.state = .loaded ∨ d.state = .held) (hc : ∀ c ∈ d.comps, c.state ≠ .stopping) {t : State}
    (ht : t = d.comps.foldl (State.makeOrphan d)
      (s.setSlot i (some { d with state := .releasing, holds := HoldSet.empty }))) :
    ArmLaw t ∧ SessionLaw t := by
  have hslot : ∀ j, t.slot j = if j = i then some { d with state := .releasing, holds := HoldSet.empty }
      else s.slot j := fun j => by rw [ht, State.slot_makeOrphans, State.slot_setSlot]
  have hlink : ∀ b, (t.bay b).link = (s.bay b).link := fun b => by
    rw [ht]; exact (State.SameLines.makeOrphans d d.comps _).link b
  have hne : d.state ≠ .releasing := by rcases hs with hs | hs <;> simp [hs]
  have hint : ∀ c ∈ d.comps, ∀ b a, c.arm = some ⟨b, a⟩ → c.state = .interrupted := fun c hm b a ha => by
    have hok := (h.ok hd hm ha).2
    have := hc c hm
    rcases hs with hs | hs <;> simpa [DelState.allows, hs, this] using hok
  -- an arm record names a compartment as before, unless it named one of this delivery
  have harm : ∀ b a j k, t.arm b a = .compartment j k ↔ (j ≠ i ∧ s.arm b a = .compartment j k) := by
    intro b a j k
    obtain ⟨hin, hout⟩ := State.arm_makeOrphans d b a d.comps
      (s.setSlot i (some { d with state := .releasing, holds := HoldSet.empty }))
    rw [← ht] at hin hout
    by_cases hex : ∃ c ∈ d.comps, c.state = .interrupted ∧ c.arm = some ⟨b, a⟩
    · obtain ⟨o, ho⟩ := hin hex
      obtain ⟨c, hm, -, ha⟩ := hex
      have := h.arms.2 i d hd c hm b a ha hne
      rw [ho, this]
      simp only [reduceCtorEq, ArmRecord.compartment.injEq, false_iff]
      exact fun hx => hx.1 hx.2.1.symm
    · rw [hout fun c hm hcs ha => hex ⟨c, hm, hcs, ha⟩]
      refine ⟨fun hr => ⟨fun hj => ?_, hr⟩, fun hr => hr.2⟩
      subst hj
      obtain ⟨d', hd', -, c, hm, -, ha⟩ := h.arms.1 b a j k hr
      obtain rfl := Option.some.inj (hd.symm.trans hd')
      exact hex ⟨c, hm, hint c hm b a ha, ha⟩
  refine ⟨⟨fun b a j k hr => ?_, fun j e he y hy b a hya hre => ?_⟩, h.session.carry fun j e he y hy b a hya => ?_⟩
  · obtain ⟨hj, hr⟩ := (harm b a j k).1 hr
    obtain ⟨d', hd', hrest⟩ := h.arms.1 b a j k hr
    exact ⟨d', by rw [hslot, if_neg hj, hd'], hrest⟩
  · rw [hslot] at he
    split at he
    · obtain rfl := Option.some.inj he
      exact absurd rfl hre
    · exact (harm b a j _).2 ⟨‹_›, h.arms.2 j e he y hy b a hya hre⟩
  · rw [hslot] at he
    split at he
    · subst_vars
      obtain rfl := Option.some.inj he
      have hi := hint y hy b a hya
      exact ⟨d, hd, y, hy, hya, fun _ => ⟨fun _ => hi, hi⟩⟩
    · exact ⟨e, he, y, hy, hya, fun hok => by simpa only [State.sessionOk, hlink] using hok⟩

theorem ArmsHold.claim {s : State} (h : ArmsHold s) {b : BayNo} {i : SlotNo} {d : Delivery} {n : Option Nat}
    (hd : s.slot i = some d) (hs : d.state = .arrived) {t : State}
    (ht : t = (s.setSlot i (some { d with state := .atBay, bay := some b, claim := n })).setBay b
      { s.bay b with bound := some i }) : ArmLaw t ∧ SessionLaw t := by
  have hn := h.unarmed hd (.inr (.inl hs))
  refine arms_congr (s := s.setSlot i (some { d with state := .atBay, bay := some b, claim := n })) (fun j => ?_)
    (fun c a => ?_) (fun c => ?_) (h.setSlot_unarmed (h.no_record hd (.inr hn)) fun e he => ?_)
  · rw [ht]; rfl
  · rw [ht]
    exact State.arm_setBay_same (r := { s.bay b with bound := some i }) (by intro a; cases a <;> rfl) c a
  · rw [ht, State.bay_setBay]
    split
    · subst_vars; rfl
    · rfl
  · obtain rfl := Option.some.inj he
    exact hn

theorem ArmsHold.start {s : State} (h : ArmsHold s) {b : BayNo} {x : Arm} {i : SlotNo} {k : Nat} {c : Compartment}
    {y : Deadline} (hb : (s.bay b).bound = some i) (hc : s.comp i k = some c) (hs : c.state = .planned)
    (hx : s.arm b x = .free) (hl : (s.bay b).link ≠ .silent) :
    ArmLaw ((s.updComp i k (Compartment.permit b x y)).setArm b x (.compartment i k))
      ∧ SessionLaw ((s.updComp i k (Compartment.permit b x y)).setArm b x (.compartment i k)) := by
  obtain ⟨d, hd, hm, rfl⟩ := State.comp_eq_some hc
  obtain ⟨hat, hbay⟩ := h.binding.atBay hd hb
  have harm : ∀ c' a, (((s.updComp i c.index (Compartment.permit b x y)).setArm b x (.compartment i c.index))).arm c' a
      = if c' = b ∧ a = x then .compartment i c.index else s.arm c' a := fun c' a => by
    rw [State.arm_setArm, State.arm_updComp]
  have hlink : ∀ c', ((((s.updComp i c.index (Compartment.permit b x y)).setArm b x (.compartment i c.index))).bay
      c').link = (s.bay c').link := fun c' => by
    rw [(State.SameLines.setArm _ b x _).link, State.bay_updComp]
  have hnone : c.arm = none := by
    have := ((h.comps i d hd).mem hm).1
    cases ha : c.arm with
    | none => rfl
    | some z => simp [ha, hs, CompState.armed] at this
  refine ⟨⟨fun b' a j n hr => ?_, fun j e he z hz b' a hza hre => ?_⟩, ?_⟩
  · rw [harm] at hr
    split at hr
    · obtain ⟨rfl, rfl⟩ := ArmRecord.compartment.inj hr
      rename_i hba
      obtain ⟨rfl, rfl⟩ := hba
      refine ⟨d.updComp c.index (Compartment.permit b' a y), ?_, ?_, c.permit b' a y, ?_, rfl, rfl⟩
      · rw [State.slot_setArm, State.slot_updComp, if_pos rfl, hd]; rfl
      · simp [Delivery.updComp, hat]
      · exact (Delivery.mem_updComp (h.comps i d hd) hm).2 (.inl rfl)
    · obtain ⟨d', hd', hne', c', hm', rfl, hca⟩ := h.arms.1 b' a j n hr
      simp only [State.slot_setArm, State.slot_updComp]
      by_cases hj : j = i
      · subst hj
        obtain rfl := Option.some.inj (hd.symm.trans hd')
        have hk : c'.index ≠ c.index := fun hk => by
          obtain rfl := (h.comps j d hd).unique hm' hm hk
          simp [hnone] at hca
        refine ⟨d.updComp c.index (Compartment.permit b x y), by simp [hd], hne', c', ?_, rfl, hca⟩
        exact (Delivery.mem_updComp (h.comps j d hd) hm).2 (.inr ⟨hm', hk⟩)
      · exact ⟨d', by simp [hj, hd'], hne', c', hm', rfl, hca⟩
  · rw [State.slot_setArm] at he
    obtain ⟨d', hd', hst, -, hcase⟩ := State.mem_updComp h.comps hc he hz
    rw [harm]
    rcases hcase with ⟨rfl, hm', -, rfl⟩ | ⟨hz, hn⟩
    · obtain ⟨rfl, rfl⟩ : b = b' ∧ x = a := by simpa [Compartment.permit] using hza
      simp [Compartment.permit]
    · have hr := h.arms.2 j d' hd' z hz b' a hza (hst ▸ hre)
      rw [if_neg, hr]
      rintro ⟨rfl, rfl⟩
      simp [hx] at hr
  · refine fun j e he z hz b' a hza => ?_
    rw [State.slot_setArm] at he
    obtain ⟨d', hd', hst, hbay', hcase⟩ := State.mem_updComp h.comps hc he hz
    change State.sessionOk _ e b' z
    simp only [State.sessionOk, hlink, hst, hbay']
    rcases hcase with ⟨rfl, hm', -, rfl⟩ | ⟨hz, hn⟩
    · obtain rfl := Option.some.inj (hd.symm.trans hd')
      obtain ⟨rfl, rfl⟩ : b = b' ∧ x = a := by simpa [Compartment.permit] using hza
      exact ⟨fun h => absurd h hl, by simp [hat, DelState.allows, hbay]⟩
    · exact h.ok hd' hz hza

/-- The arms that a latch event frees: those of the PERMITTED compartments of its list. -/
theorem State.arm_latchArms (b : BayNo) (a : Arm) : ∀ (cs : List Compartment) (s : State),
    (cs.foldl State.latchArm s).arm b a =
      if ∃ c ∈ cs, c.state = .permitted ∧ c.arm = some ⟨b, a⟩ then .free else s.arm b a := by
  intro cs
  induction cs with
  | nil => intro s; simp
  | cons c cs ih =>
    intro s
    have hstep : (s.latchArm c).arm b a =
        if c.state = .permitted ∧ c.arm = some ⟨b, a⟩ then .free else s.arm b a := by
      unfold State.latchArm
      cases hx : c.arm with
      | none => simp
      | some x =>
        obtain ⟨b', a'⟩ := x
        simp only [State.queueStop, State.arm_enqueue]
        by_cases hs : c.state = .permitted
        · simp [hs, State.arm_setArm, @eq_comm _ b, @eq_comm _ a]
        · simp [hs]
    rw [List.foldl_cons, ih, hstep]
    by_cases hc : c.state = .permitted ∧ c.arm = some ⟨b, a⟩ <;>
      by_cases hcs : ∃ y ∈ cs, y.state = .permitted ∧ y.arm = some ⟨b, a⟩ <;> simp [hc, hcs]

theorem State.mem_latchTargets (s : State) (c : Compartment) : c ∈ s.latchTargets ↔
    ∃ i d, s.slot i = some d ∧ c ∈ d.comps ∧ (c.state = .permitted ∨ c.state = .flowing) := by
  simp only [State.latchTargets, List.mem_flatMap, List.mem_finRange, true_and]
  refine exists_congr fun i => ?_
  cases h : s.slot i with
  | none => simp
  | some d => simp

/-- The arm records after a latch event. -/
theorem State.arm_latchEvent (s : State) (b : BayNo) (a : Arm) : s.latchEvent.arm b a =
    if ∃ c ∈ s.latchTargets, c.state = .permitted ∧ c.arm = some ⟨b, a⟩ then .free else s.arm b a :=
  State.arm_latchArms b a s.latchTargets s.latchMoved

theorem State.bay_latchArms_link (b : BayNo) : ∀ (cs : List Compartment) (s : State),
    ((cs.foldl State.latchArm s).bay b).link = (s.bay b).link := by
  intro cs
  induction cs with
  | nil => exact fun _ => rfl
  | cons c cs ih =>
    intro s
    rw [List.foldl_cons, ih]
    unfold State.latchArm
    split
    · rfl
    · rw [State.queueStop, State.bay_enqueue]
      split
      · exact (State.SameLines.setArm s _ _ _).link b
      · rfl

theorem ArmsHold.latch {s : State} (h : ArmsHold s) : ArmLaw s.latchEvent ∧ SessionLaw s.latchEvent := by
  have hslot := s.slot_latchEvent
  have hlink : ∀ b, (s.latchEvent.bay b).link = (s.bay b).link := fun b =>
    State.bay_latchArms_link b s.latchTargets s.latchMoved
  -- an active compartment is the one that its arm's record names
  have hback : ∀ {i d c b a}, s.slot i = some d → c ∈ d.comps → c.state = .permitted → c.arm = some ⟨b, a⟩ →
      s.arm b a = .compartment i c.index := fun hd hm hs ha =>
    h.arms.2 _ _ hd _ hm _ _ ha (h.of_active hd hm (by simp [hs, CompState.active])).1
  have hkeep : ∀ {c : Compartment} {b a}, (c.underLatch s.stopDeadline).arm = some ⟨b, a⟩ →
      c.arm = some ⟨b, a⟩ ∧ c.state ≠ .permitted := by
    intro c b a hya
    unfold Compartment.underLatch at hya
    split at hya <;> simp_all
  refine ⟨⟨fun b a i k hr => ?_, fun i e he y hy b a hya hre => ?_⟩, h.session.carry fun i e he y hy b a hya => ?_⟩
  · rw [State.arm_latchEvent] at hr
    split at hr
    · cases hr
    · rename_i hno
      obtain ⟨d, hd, hne, c, hm, rfl, ha⟩ := h.arms.1 b a i k hr
      have hnp : c.state ≠ .permitted := fun hs => hno ⟨c, (s.mem_latchTargets c).2 ⟨i, d, hd, hm, .inl hs⟩, hs, ha⟩
      refine ⟨{ d with comps := d.comps.map (Compartment.underLatch s.stopDeadline) }, by rw [hslot, hd]; rfl, hne,
        c.underLatch s.stopDeadline, List.mem_map_of_mem hm, by simp, ?_⟩
      unfold Compartment.underLatch
      split <;> simp_all
  · rw [hslot] at he
    obtain ⟨d, hd, rfl⟩ := Option.map_eq_some_iff.1 he
    obtain ⟨c, hm, rfl⟩ := List.mem_map.1 hy
    obtain ⟨ha, hnp⟩ := hkeep hya
    have hr := h.arms.2 i d hd c hm b a ha hre
    rw [State.arm_latchEvent, if_neg, hr, Compartment.underLatch_index]
    rintro ⟨y, hy, hys, hya'⟩
    obtain ⟨j, d', hd', hm', -⟩ := (s.mem_latchTargets y).1 hy
    have hr' := hback hd' hm' hys hya'
    rw [hr, ArmRecord.compartment.injEq] at hr'
    obtain ⟨rfl, hi⟩ := hr'
    obtain rfl := Option.some.inj (hd.symm.trans hd')
    obtain rfl := (h.comps i d hd).unique hm hm' hi
    exact hnp hys
  · rw [hslot] at he
    obtain ⟨d, hd, rfl⟩ := Option.map_eq_some_iff.1 he
    obtain ⟨c, hm, rfl⟩ := List.mem_map.1 hy
    obtain ⟨ha, hnp⟩ := hkeep hya
    refine ⟨d, hd, c, hm, ha, fun hok => ?_⟩
    simp only [State.sessionOk, hlink]
    unfold Compartment.underLatch
    split
    · exact absurd ‹_› hnp
    · rename_i hs
      have hact := h.of_active hd hm (by simp [hs, CompState.active])
      refine ⟨fun hl => absurd hl (hact.2 b a ha), ?_⟩
      have := hok.2
      cases hds : d.state <;> simp_all [DelState.allows]
    · exact hok

theorem ArmsHold.warm {s t : State} (h : ArmsHold s) (hd : ∀ i, t.slot i = (s.slot i).map Delivery.restarted)
    (hb : ∀ b, t.bay b = (s.bay b).restarted) : ArmLaw t ∧ SessionLaw t := by
  have harm : ∀ b a, t.arm b a = (s.arm b a).restarted := fun b a => by
    simp only [State.arm, hb]
    cases a <;> rfl
  constructor
  · refine (State.SameArms.of_map hd (fun i d _ => ?_) fun b a i k => ?_).armLaw h.arms
    · exact .of_map Iff.rfl rfl Compartment.interrupt_index fun c _ => c.interrupt_arm
    · rw [harm, ArmRecord.restarted_eq_compartment]
  · refine h.session.carry fun i e he y hy b a hya => ?_
    rw [hd] at he
    obtain ⟨d, hd, rfl⟩ := Option.map_eq_some_iff.1 he
    obtain ⟨c, hm, rfl⟩ := List.mem_map.1 hy
    rw [Compartment.interrupt_arm] at hya
    have harmed := h.armed_of_arm hd hm hya
    have hst : c.interrupt.state = .interrupted := by
      rw [Compartment.interrupt_state]
      cases hs : c.state <;> simp_all [CompState.active, CompState.armed]
    refine ⟨d, hd, c, hm, hya, fun hok => ⟨fun _ => hst, ?_⟩⟩
    rw [hst]
    have := hok.2
    cases hds : d.state <;> simp_all [DelState.allows, Delivery.restarted]

/-- Every change keeps compartments and arm records together. -/
theorem Change.arms {s t : State} (hch : Change s t) (h : ArmsHold s) : ArmLaw t ∧ SessionLaw t := by
  cases hch with
  | frame hd hb =>
    refine arms_congr (fun i => by simp only [State.slot, hd]) (fun b a => ?_) (fun b => ?_) ⟨h.arms, h.session⟩
    · simp only [State.arm, State.bay, hb]
    · simp only [State.bay, hb]
  | bay b r hb hw ha hl =>
    have harm := State.arm_setBay_same ha
    refine ⟨(State.SameArms.of_tables (s := s) (t := s.setBay b r) rfl fun c a i k => by rw [harm]).armLaw h.arms,
      h.session.carry fun i e he y hy c a hya => ⟨e, he, y, hy, hya, fun hok => ⟨fun hsl => hok.1 ?_, hok.2⟩⟩⟩
    rw [State.bay_setBay] at hsl
    split at hsl
    · subst_vars; exact hl hsl
    · exact hsl
  | silence b r hr => exact h.silence hr
  | load i k f c hc hf hg => exact h.load hc hf hg
  | leave i k f c hc hi ha hl _ hg => exact h.leave hc hi ha hg
  | record i d e g hd _ hb hs _ hc hg => exact h.record hd hb hs hc hg
  | book i d hi _ _ hl hc _ _ hp =>
    refine h.setSlot_unarmed (fun b a k hr => ?_) fun e he c hm => ?_
    · obtain ⟨d', hd', -⟩ := h.arms.1 b a i k hr
      simp [hi] at hd'
    · obtain rfl := Option.some.inj he
      have := (hc.mem hm).1
      cases ha : c.arm with
      | none => rfl
      | some x => simp [ha, hp c hm, CompState.armed] at this
  | cancel i d hd hc => exact h.cancel hd hc
  | sessionEnd i d hd hb hc => exact h.sessionEnd hd hb hc
  | release i d hd hs hc => exact h.release hd hs hc rfl
  | free i d hd hs =>
    refine h.setSlot_unarmed (h.no_record hd ?_) (by simp)
    rcases hs with hs | hs
    · exact .inl hs
    · exact .inr (h.unarmed hd (by simp [hs]))
  | depart i d hd hs =>
    refine arms_congr (s := s.setSlot i none) (fun j => rfl) (State.arm_takeLeave s i) (fun b => ?_)
      (h.setSlot_unarmed (h.no_record hd (.inr (h.unarmed hd (by simp [hs])))) (by simp))
    rw [State.bay_setSlot, State.bay_takeLeave]
    rfl
  | claim b i d n hd hs => exact h.claim hd hs rfl
  | start b x i k c y hb hc hs hx _ hl => exact h.start hb hc hs hx hl
  | orphan b a o y ho hy =>
    have harm : ∀ c e i k, (s.setArm b a y).arm c e = .compartment i k ↔ s.arm c e = .compartment i k := by
      intro c e i k
      rw [State.arm_setArm]
      split
      · rename_i hce
        obtain ⟨rfl, rfl⟩ := hce
        simp [ho, hy i k]
      · rfl
    refine ⟨(State.SameArms.of_tables (s := s) (t := s.setArm b a y) rfl harm).armLaw h.arms,
      h.session.carry fun i e he z hz c x hza => ⟨e, he, z, hz, hza, fun hok => ?_⟩⟩
    simpa only [State.sessionOk, (State.SameLines.setArm s b a y).link] using hok
  | latch set =>
    exact ArmsHold.latch (s := { s with latch := set }) ⟨h.comps, h.binding, h.arms, h.session⟩
  | unpoll hd _ _ hb =>
    have harm : ∀ b a, t.arm b a = s.arm b a := fun b a => by
      rcases hb b with hb | ⟨hb, -⟩
      · simp only [State.arm, hb]
      · simp only [State.arm, hb]; cases a <;> rfl
    have hslot : ∀ i, t.slot i = s.slot i := fun i => by simp only [State.slot, hd]
    refine ⟨(State.SameArms.of_tables hd fun b a i k => by rw [harm]).armLaw h.arms, ?_⟩
    refine h.session.carry fun i e he y hy b a hya => ?_
    rw [hslot] at he
    refine ⟨e, he, y, hy, hya, fun hok => ⟨fun hl => ?_, hok.2⟩⟩
    rcases hb b with hb | ⟨-, -, hfree⟩
    · exact hok.1 (hb ▸ hl)
    · by_cases hre : e.state = .releasing
      · simpa [DelState.allows, hre] using hok.2
      · have := h.arms.2 i e he y hy b a hya hre
        simp [hfree a] at this
  | warm hd hb => exact h.warm hd hb
  | cold hd hb =>
    have harm : ∀ b a, t.arm b a = .free := fun b a => by
      simp only [State.arm, hb]; cases a <;> rfl
    exact ⟨⟨by simp [harm], by simp [hd]⟩, by simp [SessionLaw, hd]⟩

/-- Every change keeps the laws of compartments, bindings, arms and sessions. -/
theorem Change.armsHold {s t : State} (hch : Change s t) (h : ArmsHold s) : ArmsHold t :=
  ⟨hch.compartmentLaw h.comps, hch.bindingLaw h.binding, (hch.arms h).1, (hch.arms h).2⟩

/-! ### Shared operations as changes -/

theorem Changes.frame {s t : State} (hd : t.dispatch = s.dispatch) (hb : t.bays = s.bays) (hh : t.hot → s.hot)
    (ht : t.time = none → s.time = none) : Changes s t := .single (.frame hd hb hh ht)

/-- Nothing of what the laws read changes. -/
theorem Changes.of_core {s t : State} (hd : t.dispatch = s.dispatch) (hb : t.bays = s.bays) (hl : t.latch = s.latch)
    (hp : t.phase = s.phase) (ht : t.time = s.time) : Changes s t :=
  .frame hd hb (State.hot_congr hl hp).1 fun h => ht ▸ h

theorem Changes.admitEntry (s : State) (ref driver : Nat) (x : Payload) : Changes s (s.admitEntry ref driver x) :=
  .of_core rfl rfl rfl rfl rfl

theorem Changes.offer (s : State) (ref driver : Nat) (x : Payload) : Changes s (s.offer ref driver x) := by
  rw [State.offer_frame]
  exact .of_core rfl rfl rfl rfl rfl

theorem Changes.log (s : State) (l : LogStore) : Changes s { s with log := l } := .of_core rfl rfl rfl rfl rfl

theorem Changes.setPort (s : State) (p : Port) (x : PortState) : Changes s (s.setPort p x) := by
  cases p <;> exact .of_core rfl rfl rfl rfl rfl

theorem Changes.reach (s : State) (n : Nat) : Changes s (s.reach n) := .of_core rfl rfl rfl rfl rfl

theorem Changes.settleRound (s : State) : Changes s s.settleRound := by
  unfold State.settleRound
  split
  · exact .of_core rfl rfl rfl rfl rfl
  · exact .refl

theorem Changes.endVisit (s : State) : Changes s s.endVisit :=
  .trans (.of_core (t := { s with rack := { s.rack with visit := none, exchange := none } }) rfl rfl rfl rfl rfl)
    (.settleRound _)

/-- A message queued by a rule that keeps the outbox law. -/
theorem Changes.enqueue {s : State} {b : BayNo} {rule : List Message → List Message}
    (hr : (s.bay b).link ≠ .silent → (s.bay b).outboxLawful →
      BayRecord.outboxLawful { s.bay b with outbox := rule (s.bay b).outbox }) : Changes s (s.enqueue b rule) := by
  unfold State.enqueue
  split
  · rename_i hl
    exact .single (.bay s b _ rfl (.inr rfl) (fun a => by cases a <;> rfl) id (hr hl.2))
  · exact .refl

theorem Changes.queueStop (s : State) (b : BayNo) (a : Arm) : Changes s (s.queueStop b a) :=
  .enqueue fun hl h => h.withStop a hl

theorem Changes.stopIf (s : State) (x : Bool) (b : BayNo) (a : Arm) : Changes s (s.stopIf x b a) := by
  unfold State.stopIf
  split
  · exact .queueStop ..
  · exact .refl

theorem Changes.queueVerdict {s : State} {b : BayNo} (h : (s.bay b).outbox.any Message.isVerdict = false)
    (q : BayRequest) (x : Option Arm) (r : Option DenyReason) : Changes s (s.queueVerdict b q x r) :=
  .enqueue fun hl ho => ho.verdict hl h q x r

/-- An orphan changed in place. -/
theorem Changes.updOrphan (s : State) (b : BayNo) (a : Arm) (f : Orphan → Orphan) : Changes s (s.updOrphan b a f) := by
  unfold State.updOrphan
  split
  · rename_i o ho
    exact .single (.orphan s b a o _ ho (by simp))
  · exact .refl

/-! ### What the shared operations leave of a bay and of the phase -/

/-- The phase, and every bay's link state, are as before. -/
structure State.SameLinks (s t : State) : Prop where
  phase : t.phase = s.phase
  link : ∀ b, (t.bay b).link = (s.bay b).link

theorem State.SameLinks.refl (s : State) : s.SameLinks s := ⟨rfl, fun _ => rfl⟩

theorem State.SameLinks.trans {s t u : State} (h : s.SameLinks t) (k : t.SameLinks u) : s.SameLinks u :=
  ⟨k.phase.trans h.phase, fun b => (k.link b).trans (h.link b)⟩

theorem State.SameLinks.of_bays {s t : State} (hp : t.phase = s.phase) (hb : t.bays = s.bays) : s.SameLinks t :=
  ⟨hp, fun b => by simp only [State.bay, hb]⟩

theorem State.SameLinks.setBay {s : State} {b : BayNo} {r : BayRecord} (h : r.link = (s.bay b).link) :
    s.SameLinks (s.setBay b r) := ⟨rfl, fun c => by rw [State.bay_setBay]; split <;> simp_all⟩

theorem State.SameLinks.setArm (s : State) (b : BayNo) (a : Arm) (x : ArmRecord) : s.SameLinks (s.setArm b a x) :=
  .setBay (by simp)

theorem State.SameLinks.updComp (s : State) (i : SlotNo) (k : Nat) (f : Compartment → Compartment) :
    s.SameLinks (s.updComp i k f) := by
  rw [State.updComp_frame]; exact .of_bays rfl rfl

theorem State.SameLinks.freeArm (s : State) (x : Option ArmRef) : s.SameLinks (s.freeArm x) := by
  cases x with
  | none => exact .refl s
  | some x => exact .setArm ..

theorem State.SameLinks.updOrphan (s : State) (b : BayNo) (a : Arm) (f : Orphan → Orphan) :
    s.SameLinks (s.updOrphan b a f) := by rw [State.updOrphan_eq]; exact .setArm ..

theorem State.SameLinks.enqueue (s : State) (b : BayNo) (rule : List Message → List Message) :
    s.SameLinks (s.enqueue b rule) := by rw [State.enqueue_eq]; exact .setBay rfl

theorem State.SameLinks.stopIf (s : State) (x : Bool) (b : BayNo) (a : Arm) : s.SameLinks (s.stopIf x b a) := by
  unfold State.stopIf
  split
  · exact .enqueue ..
  · exact .refl s

theorem State.SameLinks.offer (s : State) (ref driver : Nat) (x : Payload) : s.SameLinks (s.offer ref driver x) := by
  rw [State.offer_frame]; exact .of_bays rfl rfl

theorem State.SameLinks.issuePaper (s : State) (i : SlotNo) (d : Delivery) (n v : Nat) :
    s.SameLinks (s.issuePaper i d n v) :=
  .trans (t := s.setSlot i _) (.of_bays rfl rfl) (.offer ..)

theorem State.SameLinks.rebuild (s : State) (i : SlotNo) : s.SameLinks (s.rebuild i) := by
  unfold State.rebuild
  split
  · exact .refl s
  · split
    · exact .refl s
    · exact .issuePaper ..

theorem State.SameLinks.reachDone (s : State) (i : SlotNo) (k : Nat) : s.SameLinks (s.reachDone i k) := by
  unfold State.reachDone
  split
  · exact .refl s
  · split
    · exact .refl s
    · rename_i d _ c _
      have hf : ∀ x, s.SameLinks ((s.updComp i k fun _ => x).freeArm c.arm) := fun x =>
        .trans (.updComp ..) (.freeArm ..)
      dsimp only
      split
      · refine .trans ?_ (.rebuild ..)
        split
        · exact hf _
        · exact (hf _).trans (.offer ..)
      · split
        · exact hf _
        · exact (hf _).trans (.offer ..)

theorem State.SameLinks.clearOrphan (s : State) (b : BayNo) (x : Arm) : s.SameLinks (s.clearOrphan b x) := by
  unfold State.clearOrphan
  split
  · exact .trans (.offer ..) (.setArm ..)
  · exact .refl s

theorem State.SameLinks.moveComp (s : State) (b : BayNo) (x : Arm) (i : SlotNo) (k : Nat) (m : Move) :
    s.SameLinks (s.moveComp b x i k m) := by
  cases m with
  | keep => exact .refl s
  | reopen => exact .trans (.updComp ..) (.enqueue ..)
  | finish => exact .reachDone ..
  | flow | await | settle => exact .updComp ..

theorem State.SameLinks.moveOrphan (s : State) (b : BayNo) (x : Arm) (m : Move) :
    s.SameLinks (s.moveOrphan b x m) := by
  cases m with
  | keep | flow => exact .refl s
  | reopen => exact .trans (.updOrphan ..) (.enqueue ..)
  | finish => exact .clearOrphan ..
  | await | settle => exact .updOrphan ..

theorem State.SameLinks.report (s : State) (b : BayNo) (r : Report) : s.SameLinks (s.report b r) := by
  unfold State.report
  split
  · unfold State.reportFree
    split
    · exact .trans (.offer ..) (.enqueue ..)
    · exact .refl s
  · unfold State.reportComp
    split
    · exact .refl s
    · split
      · exact .trans (.trans (.updComp ..) (.stopIf ..)) (.moveComp ..)
      · exact .refl s
  · exact .trans (.trans (.updOrphan ..) (.stopIf ..)) (.moveOrphan ..)

/-! ### Reports and the reaching of DONE -/

/-- A compartment changed twice. -/
theorem State.updComp_updComp (s : State) (i : SlotNo) (k : Nat) (f g : Compartment → Compartment)
    (hg : ∀ c, (g c).index = c.index) : (s.updComp i k g).updComp i k f = s.updComp i k (f ∘ g) := by
  cases hd : s.slot i with
  | none => simp only [State.updComp, State.updDelivery, hd]
  | some d =>
    rw [State.updComp_of_some hd, State.updComp_of_some (State.slot_setSlot_self ..), State.updComp_of_some hd,
      State.setSlot_setSlot]
    refine congrArg (fun cs => s.setSlot i (some { d with comps := cs })) ?_
    rw [Delivery.updComp, List.map_map]
    refine List.map_congr_left fun c _ => ?_
    by_cases h : c.index = k <;> simp [h, hg]

/-- A STOP queued and a compartment changed: the order does not matter. -/
theorem State.stopIf_updComp (s : State) (x : Bool) (b : BayNo) (a : Arm) (i : SlotNo) (k : Nat)
    (f : Compartment → Compartment) : (s.updComp i k f).stopIf x b a = (s.stopIf x b a).updComp i k f := by
  cases hd : s.slot i with
  | none =>
    have : (s.stopIf x b a).slot i = none := by rw [State.stopIf_frame]; exact hd
    simp only [State.updComp, State.updDelivery, hd, this]
  | some d =>
    have : (s.stopIf x b a).slot i = some d := by rw [State.stopIf_frame]; exact hd
    rw [State.updComp_of_some hd, State.updComp_of_some this]
    cases x with
    | false => rfl
    | true =>
      simp only [State.stopIf, if_true, State.queueStop, State.enqueue_eq]
      rfl

theorem State.comp_stopIf (s : State) (x : Bool) (b : BayNo) (a : Arm) (i : SlotNo) (k : Nat) :
    (s.stopIf x b a).comp i k = s.comp i k := by rw [State.stopIf_frame]; rfl

theorem State.arm_stopIf (s : State) (x : Bool) (b c : BayNo) (a e : Arm) :
    (s.stopIf x b a).arm c e = s.arm c e := by
  unfold State.stopIf
  split
  · exact State.arm_enqueue ..
  · rfl

theorem State.comp_updComp (s : State) (i : SlotNo) (k : Nat) (f : Compartment → Compartment)
    (hf : ∀ c, (f c).index = c.index) : (s.updComp i k f).comp i k = (s.comp i k).map f := by
  simp only [State.comp, State.slot_updComp, if_pos]
  cases hd : s.slot i with
  | none => rfl
  | some d =>
    simp only [Option.map_some, Delivery.comp_updComp d k k f hf]
    cases hc : d.comp k with
    | none => rfl
    | some c => simp [(Delivery.comp_mem hc).2]

theorem State.updComp_id (s : State) (i : SlotNo) (k : Nat) : s.updComp i k id = s := by
  cases hd : s.slot i with
  | none => simp only [State.updComp, State.updDelivery, hd]
  | some d =>
    have h : d.updComp k id = d := by simp [Delivery.updComp]
    rw [State.updComp_of_some hd, h, ← hd, State.setSlot_slot]

/-- A paper written into its record, with its entry offered. -/
theorem Changes.issuePaper {s : State} {i : SlotNo} {d : Delivery} (hd : s.slot i = some d) (n v : Nat) :
    Changes s (s.issuePaper i d n v) := by
  refine .trans (.single (.record s i d { d.paperReadouts with paper := some (s.buildPaper d n v) }
    (fun c => if c.state.onPaper then c.afterReadouts else c) hd rfl rfl (.inl rfl) id rfl fun c => ?_)) (.offer ..)
  split <;> exact ⟨rfl, rfl, rfl, rfl, rfl⟩

theorem Changes.rebuild (s : State) (i : SlotNo) : Changes s (s.rebuild i) := by
  unfold State.rebuild
  split
  · exact .refl
  · rename_i d hd
    split
    · exact .refl
    · exact .issuePaper hd _ _

/-- What follows once a compartment has left its arm: its entry, and its delivery's paper. -/
theorem Changes.reachDone_rest {s : State} {i : SlotNo} {k : Nat} {c : Compartment} (hc : s.comp i k = some c) :
    Changes ((s.updComp i k fun _ => c.ended).freeArm c.arm) (s.reachDone i k) := by
  obtain ⟨d, hd, -⟩ := State.comp_eq_some hc
  rw [State.comp_of_some hd] at hc
  simp only [State.reachDone, hd, hc]
  have logged : ∀ t, Changes t (match c.arm with
      | none => t
      | some x => t.offer d.ref 0 (.compartment x.bay x.arm k c.product c.ended.state c.acc.net c.acc.gross
          c.acc.average c.ended.acc.flags)) := fun t => by
    split
    · exact .refl
    · exact .offer ..
  split
  · exact .trans (logged _) (.rebuild ..)
  · exact logged _

theorem Compartment.ended_armed (c : Compartment) : c.ended.state.armed = false := by
  simp only [Compartment.ended]; split <;> rfl

theorem Compartment.ended_lawful (c : Compartment) : c.ended.lawful := by
  by_cases h : c.acc.G = 0
  · simp [Compartment.lawful, Compartment.ended, h, CompState.armed, CompState.active, Acc.afterReadouts]
  · simp [Compartment.lawful, Compartment.ended, h, CompState.armed, CompState.active, Acc.afterReadouts,
      Nat.pos_of_ne_zero h]

/-- A compartment changed in its accumulators and then ended, its arm let go. -/
theorem Changes.end {s : State} {i : SlotNo} {k : Nat} {c : Compartment} {g : Compartment → Compartment}
    (hc : s.comp i k = some c) (hi : ∀ y, (g y).index = y.index) (ha : ∀ y, (g y).arm = y.arm)
    (hg : c.state.active = true ∨ ∃ b a, s.arm b a = .compartment i k) :
    Changes s ((s.updComp i k g).reachDone i k) := by
  have hc' : (s.updComp i k g).comp i k = some (g c) := by rw [State.comp_updComp _ _ _ _ hi, hc]; rfl
  refine .trans (.single (.leave s i k (fun _ => (g c).ended) c hc (hi c) rfl (fun _ => (g c).ended_lawful)
    (g c).ended_armed hg)) ?_
  have := Changes.reachDone_rest hc'
  rw [State.updComp_updComp _ _ _ _ _ hi, ha] at this
  exact this

theorem Changes.reachDone {s : State} {i : SlotNo} {k : Nat}
    (hg : ∀ c, s.comp i k = some c → c.state.active = true) : Changes s (s.reachDone i k) := by
  cases hc : s.comp i k with
  | none =>
    unfold State.reachDone
    unfold State.comp at hc
    split
    · exact .refl
    · rename_i d hd
      rw [hd] at hc
      simp only at hc
      rw [hc]
      exact .refl
  | some c =>
    have := Changes.end (g := id) hc (fun _ => rfl) (fun _ => rfl) (.inl (hg c hc))
    rwa [State.updComp_id] at this

theorem Changes.clearOrphan (s : State) (b : BayNo) (x : Arm) : Changes s (s.clearOrphan b x) := by
  unfold State.clearOrphan
  split
  · rename_i o ho
    refine .trans (.offer ..) (.single (.orphan _ b x o .free ?_ (by simp)))
    rw [State.offer_frame]
    exact ho
  · exact .refl

theorem Changes.moveOrphan (s : State) (b : BayNo) (x : Arm) (m : Move) : Changes s (s.moveOrphan b x m) := by
  cases m with
  | keep | flow => exact .refl
  | reopen => exact .trans (.updOrphan ..) (.queueStop ..)
  | finish => exact .clearOrphan ..
  | await | settle => exact .updOrphan ..

/-- A report of nothing metered counts nothing. -/
theorem judgeReport_gross (points : List CorrPoint) (a : Acc) (planned capacity allowance : Nat) (r : Report)
    (h : r.cumulative = 0) : (judgeReport points a planned capacity allowance r).acc.G = a.G := by
  simp [judgeReport, increment, h, Acc.afterNet]

/-- Where a report moves a compartment on to, when it does not end it. -/
def Compartment.movedBy (s : State) (m : Move) (c : Compartment) : Compartment :=
  match m with
  | .keep | .finish => c
  | .flow => { c with state := .flowing, deadline := some s.flowingDeadline }
  | .await | .reopen => { c with state := .stopping, deadline := some s.stopDeadline }
  | .settle => { c with state := .stopping, deadline := some s.settleDeadline }

theorem State.moveComp_eq {s : State} {m : Move} (hm : m ≠ .finish) (b : BayNo) (x : Arm) (i : SlotNo) (k : Nat) :
    s.moveComp b x i k m =
      if m = .reopen then (s.updComp i k (Compartment.movedBy s m)).queueStop b x
      else s.updComp i k (Compartment.movedBy s m) := by
  cases m with
  | keep => exact (s.updComp_id i k).symm
  | finish => exact absurd rfl hm
  | _ => rfl

theorem closedMove_ne (x : Bool) : closedMove x ≠ .flow ∧ closedMove x ≠ .keep := by
  cases x <;> decide

theorem moveOf_flow {c : Compartment} {r : Report} {x : Bool} (h : moveOf c r x = .flow) : c.state = .permitted := by
  have hn := (closedMove_ne r.settled).1
  unfold moveOf at h
  cases hs : c.state with
  | permitted => rfl
  | planned | done | void => simp [hs] at h
  | flowing => simp only [hs, moveFlowing] at h; grind
  | stopping => simp only [hs, moveStopping] at h; grind
  | interrupted => simp only [hs, moveResolved] at h; grind

theorem moveOf_keep {c : Compartment} {r : Report} {x : Bool} (h : moveOf c r x = .keep) (hs : c.state = .permitted) :
    r.cumulative = 0 := by
  have hn := (closedMove_ne r.settled).2
  simp only [moveOf, hs, movePermitted] at h
  grind

/-- An armed compartment moved on by a report, with its new accumulator set. -/
theorem Compartment.Follows.report {s : State} {c : Compartment} {r : Report} {x : Bool} {acc : Acc} {m : Move}
    (hm : m = moveOf c r x) (hn : m ≠ .finish) (ha : c.state.armed = true)
    (hg : r.cumulative = 0 → acc.G = c.acc.G) :
    c.Follows (Compartment.movedBy s m { c with acc := acc }) := by
  refine ⟨by cases m <;> rfl, by cases m <;> rfl, fun hl => ?_, ?_⟩
  · have hsome : c.arm.isSome = true := hl.1.2 ha
    cases m with
    | keep =>
      obtain ⟨harm, hdl, hz, hp⟩ := hl
      have hkeep : c.state = .permitted → acc.G = c.acc.G := fun hs => hg (moveOf_keep hm.symm hs)
      refine ⟨harm, hdl, fun h => ?_, fun h => ?_⟩
      · rcases h with h | h | h
        · simp [CompState.armed, Compartment.movedBy] at ha h
          simp [h] at ha
        · exact (hkeep h).trans (hz (.inr (.inl h)))
        · simp [Compartment.movedBy] at h
          simp [CompState.armed, h] at ha
      · simp [Compartment.movedBy] at h
        simp [CompState.armed, h] at ha
    | finish => exact absurd rfl hn
    | _ => simp [Compartment.lawful, Compartment.movedBy, hsome, CompState.armed, CompState.active]
  · cases m with
    | flow => exact .inr (.inr ⟨rfl, moveOf_flow hm.symm⟩)
    | keep => exact .inl rfl
    | finish => exact absurd rfl hn
    | _ => exact .inr (.inl rfl)

theorem Changes.reportFree (s : State) (b : BayNo) (r : Report) : Changes s (s.reportFree b r) := by
  unfold State.reportFree
  split
  · exact .trans (.offer ..) (.queueStop ..)
  · exact .refl

theorem Changes.reportOrphan (s : State) (b : BayNo) (r : Report) (o : Orphan) :
    Changes s (s.reportOrphan b r o) :=
  .trans (.trans (.updOrphan ..) (.stopIf ..)) (.moveOrphan ..)

/-- The move of an armed compartment whose accumulators a report has changed. -/
theorem Changes.moveComp {s : State} {b : BayNo} {x : Arm} {i : SlotNo} {k : Nat} {c : Compartment} {acc : Acc}
    {m : Move} (hc : s.comp i k = some c) (hx : s.arm b x = .compartment i k) (hl : (s.bay b).link ≠ .silent)
    (hf : ∀ t, m ≠ .finish → c.Follows (Compartment.movedBy t m { c with acc := acc })) :
    Changes s ((s.updComp i k fun y => { y with acc := acc }).moveComp b x i k m) := by
  by_cases hm : m = .finish
  · subst hm
    exact .end hc (fun _ => rfl) (fun _ => rfl) (.inr ⟨b, x, hx⟩)
  · have moved : ∀ t, Changes s ((s.updComp i k fun y => { y with acc := acc }).updComp i k
        (Compartment.movedBy t m)) := fun t => by
      rw [State.updComp_updComp s i k (Compartment.movedBy t m) (fun y => { y with acc := acc }) fun _ => rfl]
      exact .single (.load s i k _ c hc (hf t hm) (.inr (.inr ⟨b, x, hx, hl⟩)))
    rw [State.moveComp_eq hm]
    split
    · exact (moved _).trans (.queueStop ..)
    · exact moved _

theorem Changes.reportComp {s : State} {b : BayNo} {r : Report} {i : SlotNo} {k : Nat}
    (hx : s.arm b r.arm = .compartment i k) (hl : (s.bay b).link ≠ .silent) :
    Changes s (s.reportComp b r i k) := by
  unfold State.reportComp
  split
  · exact .refl
  · rename_i c hc
    split
    · rename_i ha
      simp only [State.stopIf_updComp]
      refine .trans (.stopIf ..) (.moveComp ((State.comp_stopIf ..).trans hc) ((State.arm_stopIf ..).trans hx)
        (by rwa [(State.SameLinks.stopIf s _ b r.arm).link b]) fun t hn => .report rfl hn ha fun h => ?_)
      have hg := judgeReport_gross (s.product c.product).points c.acc c.planned c.capacity s.settings.allowance r h
      split
      · exact hg
      · exact hg
    · exact .refl

theorem Changes.report {s : State} {b : BayNo} (hl : (s.bay b).link ≠ .silent) (r : Report) :
    Changes s (s.report b r) := by
  unfold State.report
  split
  · exact .reportFree ..
  · rename_i i k hx
    exact .reportComp hx hl
  · exact .reportOrphan ..

theorem Changes.reports {b : BayNo} (rs : List Report) {s : State} (hl : (s.bay b).link ≠ .silent) :
    Changes s (rs.foldl (fun t r => t.report b r) s) := by
  induction rs generalizing s with
  | nil => exact .refl
  | cons r rs ih =>
    exact (Changes.report hl r).trans (ih (by rwa [(State.SameLinks.report s b r).link b]))

/-! ### The link of a bay -/

theorem Changes.silence (s : State) (b : BayNo) : Changes s (s.silence b) :=
  .trans (.single (.silence s b _ rfl)) (.offer ..)

theorem BayRecord.outboxLawful.of_same {r q : BayRecord} (h : r.outboxLawful) (ho : q.outbox = r.outbox)
    (hb : q.bound = r.bound) (hl : q.link = .silent → r.link = .silent) : q.outboxLawful := by
  obtain ⟨harm, hv, hd, hn, hs⟩ := h
  exact ⟨ho ▸ harm, ho ▸ hv, ho ▸ hd, ho ▸ hb ▸ hn, fun h => ho ▸ hs (hl h)⟩

/-- A bay's record changed in its counts, and in its link where it is not made SILENT. -/
theorem Changes.setBay {s : State} {b : BayNo} {r : BayRecord} (hb : r.bound = (s.bay b).bound)
    (hw : r.withdrawn = (s.bay b).withdrawn) (ha : ∀ a, r.armRecord a = (s.bay b).armRecord a)
    (hl : r.link = .silent → (s.bay b).link = .silent) (ho : r.outbox = (s.bay b).outbox) :
    Changes s (s.setBay b r) :=
  .single (.bay s b r hb (.inr hw) ha hl fun h => h.of_same ho hb hl)

/-- One bay's link and outbox change, in several steps. -/
theorem Changes.of_bay {s t : State} (b : BayNo) (hd : t.dispatch = s.dispatch) (hl : t.latch = s.latch)
    (hp : t.phase = s.phase) (ht : t.time = s.time) (hc : ∀ c, c ≠ b → t.bay c = s.bay c)
    (hr : Change s (s.setBay b (t.bay b))) : Changes s t := by
  refine .trans (.single hr) (.of_core hd (vector_ext fun c => ?_) hl hp ht)
  change t.bay c = (s.setBay b (t.bay b)).bay c
  rw [State.bay_setBay]
  split
  · rename_i h; rw [h]
  · exact hc c ‹_›

theorem Changes.miss (s : State) (b : BayNo) (x : Bool) : Changes s (s.miss b x) := by
  unfold State.miss
  have counted : Changes s (s.setBay b ((s.bay b).countMiss x)) :=
    .setBay rfl rfl (fun a => by cases a <;> rfl) id rfl
  dsimp only
  split
  · exact .setBay rfl rfl (fun a => by cases a <;> rfl) nofun rfl
  · rename_i h
    split
    · exact .setBay rfl rfl (fun a => by cases a <;> rfl) id rfl
    · exact counted.trans (.silence ..)
  · exact .setBay rfl rfl (fun a => by cases a <;> rfl) id rfl

theorem Changes.setOnline (s : State) (b : BayNo) : Changes s (s.setOnline b) :=
  .setBay rfl rfl (fun a => by cases a <;> rfl) nofun rfl

/-! ### A bay's return -/

/-- A record in the course of a bay's return: ONLINE, with STOPs alone in an outbox that was empty (R72). -/
structure BayRecord.Returning (r q : BayRecord) : Prop where
  link : q.link = .online
  bound : q.bound = r.bound
  withdrawn : q.withdrawn = r.withdrawn
  arm : ∀ a, q.armRecord a = r.armRecord a
  lawful : r.outbox = [] → q.outboxLawful
  noDismiss : r.outbox = [] → q.outbox.any Message.isDismiss = false

theorem BayRecord.Returning.start (r : BayRecord) : r.Returning { r with link := .online, missed := 0 } where
  link := rfl
  bound := rfl
  withdrawn := rfl
  arm a := by cases a <;> rfl
  lawful h := BayRecord.outboxLawful_silent h
  noDismiss h := by simp [h]

theorem BayRecord.Returning.withStop {r q : BayRecord} (h : r.Returning q) (a : Arm) :
    r.Returning { q with outbox := Machine.withStop a q.outbox } where
  link := h.link
  bound := h.bound
  withdrawn := h.withdrawn
  arm e := by rw [← h.arm e]; cases e <;> rfl
  lawful he := (h.lawful he).withStop a (by rw [h.link]; decide)
  noDismiss he := Bool.eq_false_iff.2 fun hd =>
    Bool.eq_false_iff.1 (h.noDismiss he) (any_of_countP (countP_withStop_other a q.outbox Message.isDismiss rfl
      fun x hx => (Message.isPermit_other hx).2) hd)

theorem BayRecord.Returning.stopIf {r : BayRecord} {s : State} {b : BayNo} (h : r.Returning (s.bay b)) (x : Bool)
    (a : Arm) : r.Returning ((s.stopIf x b a).bay b) := by
  unfold State.stopIf
  split
  · unfold State.queueStop State.enqueue
    split
    · rw [State.bay_setBay_self]
      exact h.withStop a
    · exact h
  · exact h

theorem State.bay_stopIf_of_ne (s : State) (x : Bool) {b c : BayNo} (a : Arm) (h : c ≠ b) :
    (s.stopIf x b a).bay c = s.bay c := by
  unfold State.stopIf
  split
  · rw [State.queueStop, State.bay_enqueue, if_neg fun h' => h h'.1]
  · rfl

/-- The stops of a bay's return, which come after its link state and its entry (R72). -/
def State.returnStops (s : State) (b : BayNo) : State :=
  (((s.setOnline b).offer (s.boundRef b) 0 (.bayBack b (s.bay b).missedTotal)).stopIf (s.awaitsReturn b .A) b .A).stopIf
    (s.awaitsReturn b .B) b .B

theorem State.bayReturn_eq (s : State) (b : BayNo) : s.bayReturn b =
    if (s.bay b).bound.isNone then (s.returnStops b).queueDismiss b else s.returnStops b := rfl

theorem State.returning (s : State) (b : BayNo) : (s.bay b).Returning ((s.returnStops b).bay b) := by
  refine .stopIf (.stopIf ?_ ..) ..
  have h : ((s.setOnline b).offer (s.boundRef b) 0 (.bayBack b (s.bay b).missedTotal)).bay b
      = { s.bay b with link := .online, missed := 0 } := by
    rw [State.offer_frame]
    exact State.bay_setBay_self ..
  exact h ▸ .start _

theorem State.bay_returnStops_of_ne (s : State) {b c : BayNo} (h : c ≠ b) : (s.returnStops b).bay c = s.bay c := by
  rw [State.returnStops, State.bay_stopIf_of_ne _ _ _ h, State.bay_stopIf_of_ne _ _ _ h, State.offer_frame]
  exact (State.bay_setBay ..).trans (if_neg h)

theorem State.returnStops_frame (s : State) (b : BayNo) :
    s.returnStops b = { s with bays := (s.returnStops b).bays, log := (s.returnStops b).log } := by
  rw [State.returnStops, State.stopIf_frame, State.stopIf_frame, State.offer_frame]
  rfl

theorem Changes.bayReturn {s : State} {b : BayNo} (hl : (s.bay b).link = .silent) : Changes s (s.bayReturn b) := by
  have back := s.returning b
  have frame := s.returnStops_frame b
  have notSilent : ∀ r : BayRecord, r.link = .online → (r.link = .silent → (s.bay b).link = .silent) :=
    fun _ _ _ => hl
  have empty : (s.bay b).outboxLawful → (s.bay b).outbox = [] := fun h => h.2.2.2.2 hl
  rw [State.bayReturn_eq]
  split
  · rename_i hb
    rw [State.queueDismiss, State.enqueue_eq]
    refine .of_bay b (by rw [frame]; rfl) (by rw [frame]; rfl) (by rw [frame]; rfl) (by rw [frame]; rfl)
      (fun c hc => ?_) ?_
    · rw [State.bay_setBay, if_neg hc, State.bay_returnStops_of_ne _ hc]
    · rw [State.bay_setBay_self]
      refine .bay s b _ back.bound (.inr back.withdrawn) (fun a => (by cases a <;> rfl : _ = _).trans (back.arm a))
        (fun _ => hl) fun h => (back.lawful (empty h)).ite fun ht =>
          (back.lawful (empty h)).dismiss ht.2 (back.noDismiss (empty h)) ?_
      rw [back.bound]
      simpa using hb
  · exact .of_bay b (by rw [frame]) (by rw [frame]) (by rw [frame]) (by rw [frame])
      (fun c hc => s.bay_returnStops_of_ne hc)
      (.bay s b _ back.bound (.inr back.withdrawn) back.arm (fun _ => hl) fun h => back.lawful (empty h))

theorem Changes.answered (s : State) (b : BayNo) : Changes s (s.answered b) := by
  unfold State.answered
  split
  · exact .bayReturn ‹_›
  · exact .setOnline ..

theorem Changes.removeSent (s : State) (b : BayNo) (m : Option Message) : Changes s (s.removeSent b m) := by
  cases m with
  | none => exact .refl
  | some m =>
    refine .single (.bay s b _ rfl ?_ (fun a => by cases a <;> rfl) id fun h => ?_)
    · unfold BayRecord.without
      split
      · exact .inl rfl
      · exact .inr rfl
    · exact (h.erase m).of_same rfl rfl id

/-! ### Bay requests -/

theorem Changes.deny {s : State} {b : BayNo} (h : (s.bay b).outbox.any Message.isVerdict = false) (q : BayRequest)
    (x : Option Arm) (r : DenyReason) : Changes s (s.deny b q x r) := .queueVerdict h q x (some r)

theorem BayRecord.takes_iff {r : BayRecord} {claim : Bool} : r.takes claim = true ↔
    r.outbox.any Message.isVerdict = false ∧ (claim = true → r.outbox.any Message.isDismiss = false) := by
  cases claim <;> simp [BayRecord.takes]

theorem State.bay_offer (s : State) (ref driver : Nat) (x : Payload) (b : BayNo) :
    (s.offer ref driver x).bay b = s.bay b := by rw [State.offer_frame]; rfl

theorem Changes.takeClaim {s : State} {b : BayNo} (h : (s.bay b).takes true = true) (ref : Nat) :
    Changes s (s.takeClaim b ref) := by
  obtain ⟨hv, hd⟩ := BayRecord.takes_iff.1 h
  have hf := s.find_spec ref
  unfold State.takeClaim
  split
  · exact .deny hv ..
  · rename_i i d hfind
    rw [hfind] at hf
    split
    · exact .deny hv ..
    · split
      · exact .deny hv ..
      · split
        · exact .queueVerdict hv ..
        · split
          · exact .deny hv ..
          · rename_i hr
            have hs : d.state = .arrived ∧ (s.bay b).bound = none := by
              simp only [State.claimRefusal] at hr
              split at hr
              · simp at hr
              · split at hr
                · simp at hr
                · split at hr
                  · simp at hr
                  · simp_all
            refine .trans (.trans (.single (.claim s b i d _ hf.1 hs.1 hs.2 (hd rfl))) (.offer ..))
              (.queueVerdict ?_ ..)
            rw [State.bay_offer]
            exact (congrArg (fun r : BayRecord => r.outbox.any Message.isVerdict) (State.bay_setBay_self ..)).trans hv

theorem State.SameLines.refl (s : State) : s.SameLines s := ⟨fun _ => rfl, fun _ => rfl, fun _ => rfl⟩

theorem State.SameLines.offer (s : State) (ref driver : Nat) (x : Payload) : s.SameLines (s.offer ref driver x) := by
  rw [State.offer_frame]; exact .of_bays rfl

/-- A granted START leaves the outbox for its VERDICT and PERMIT. -/
theorem Changes.grantStart {s : State} {b : BayNo} {x : Arm} {i : SlotNo} {c : Compartment} {k : Nat}
    (hb : (s.bay b).bound = some i) (hc : s.comp i k = some c) (hs : c.state = .planned)
    (ha : (s.bay b).available x = true) (hh : ¬ s.hot) (hl : (s.bay b).link ≠ .silent)
    (hv : (s.bay b).outbox.any Message.isVerdict = false) : Changes s (s.grantStart b x i c) := by
  obtain ⟨d, hd, hm, rfl⟩ := State.comp_eq_some hc
  obtain ⟨hfree, hstop⟩ : s.arm b x = .free ∧ (s.bay b).outbox.any (Message.isStop x) = false := by
    simpa [BayRecord.available, State.arm] using ha
  have lines : s.SameLines ((s.updComp i c.index (Compartment.permit b x s.permitDeadline)).setArm b x
      (.compartment i c.index)) := .trans (.updComp ..) (.setArm ..)
  refine .trans (.trans (.single (.start s b x i c.index c s.permitDeadline hb hc hs hfree hh hl))
    (.queueVerdict ((lines.outbox b).symm ▸ hv) ..)) (.enqueue fun hl' h => h.withPermit x _ _ _ _ hl' ?_)
  rw [State.queueVerdict, State.bay_enqueue]
  dsimp only
  rw [lines.outbox b]
  split
  · simpa [Message.isStop] using hstop
  · exact hstop

theorem Changes.takeStart {s : State} {b : BayNo} (h : (s.bay b).takes false = true) (hp : s.phase = .running)
    (hl : (s.bay b).link ≠ .silent) (x : Arm) (k p : Nat) : Changes s (s.takeStart b x k p) := by
  obtain ⟨hv, -⟩ := BayRecord.takes_iff.1 h
  unfold State.takeStart
  split
  · exact .deny hv ..
  · rename_i i hb
    split
    · exact .deny hv ..
    · rename_i d hd
      split
      · exact .deny hv ..
      · split
        · exact .deny hv ..
        · rename_i c hc
          split
          · refine .trans (t := s.logDeny b x p d c _) ?_ (.deny ?_ ..)
            · unfold State.logDeny
              split
              · exact .offer ..
              · exact .refl
            · unfold State.logDeny
              split
              · rwa [State.bay_offer]
              · exact hv
          · rename_i hr
            obtain ⟨hs, ha, hlatch⟩ : c.state = .planned ∧ (s.bay b).available x = true ∧ s.latch.isSet = false := by
              unfold State.startRefusal at hr
              grind
            refine .grantStart hb (k := k) ((State.comp_of_some hd k).trans hc) hs ha ?_ hl hv
            simp [State.hot, hlatch, hp]

/-- The first issue of a paper raises the counter, and writes the paper into its record. -/
theorem Changes.firstIssue {s : State} {i : SlotNo} {d : Delivery} (hd : s.slot i = some d) :
    Changes s (s.firstIssue i d) := by
  unfold State.firstIssue
  split
  · exact .refl
  · exact .trans (.log s _) (.issuePaper (s := { s with log := { s.log with paperCounter := s.log.paperCounter + 1 } })
      hd _ _)

/-- The end of a session, of an AT_BAY delivery or one that a bay is bound to, with no active compartment or at a
SILENT bay. -/
theorem Changes.endSession {s : State} {i : SlotNo}
    (h : ∀ d, s.slot i = some d → (d.state = .atBay ∨ ∃ b, (s.bay b).bound = some i)
      ∧ ((∀ c ∈ d.comps, c.state.active = false) ∨ ∃ b, d.bay = some b ∧ (s.bay b).link = .silent)) :
    Changes s (s.endSession i) := by
  unfold State.endSession
  split
  · exact .refl
  · rename_i d hd
    obtain ⟨hb, hc⟩ := h d hd
    have ended : Changes s ((s.setSlot i (some d.afterSession)).unbindBay d.bay) :=
      .single (.sessionEnd s i d hd hb hc)
    dsimp only
    split
    · refine ended.trans (.firstIssue ?_)
      rw [State.slot_unbindBay, State.slot_setSlot_self]
    · exact ended

theorem State.SameLines.issuePaper (s : State) (i : SlotNo) (d : Delivery) (n v : Nat) :
    s.SameLines (s.issuePaper i d n v) :=
  .trans (t := s.setSlot i _) (.of_bays rfl) (.offer ..)

/-- The end of a session leaves outboxes. -/
theorem State.outbox_endSession (s : State) (i : SlotNo) (b : BayNo) :
    ((s.endSession i).bay b).outbox = (s.bay b).outbox := by
  have unbound : ∀ (t : State) (x : Option BayNo), ((t.unbindBay x).bay b).outbox = (t.bay b).outbox := fun t x => by
    cases x with
    | none => rfl
    | some c =>
      rw [State.unbindBay, State.bay_setBay]
      split
      · rename_i h; rw [h]
      · rfl
  unfold State.endSession
  split
  · rfl
  · dsimp only
    split
    · unfold State.firstIssue
      split
      · exact unbound ..
      · exact ((State.SameLines.issuePaper ..).outbox b).trans (unbound ..)
    · exact unbound ..

theorem Changes.takeFinish {s : State} {b : BayNo} (h : (s.bay b).takes false = true) : Changes s (s.takeFinish b) := by
  obtain ⟨hv, -⟩ := BayRecord.takes_iff.1 h
  unfold State.takeFinish
  split
  · exact .deny hv ..
  · rename_i i hb
    split
    · exact .deny hv ..
    · rename_i d hd
      split
      · exact .deny hv ..
      · split
        · exact .deny hv ..
        · rename_i hc
          refine .trans (.endSession fun e he => ?_) (.queueVerdict (by rwa [State.outbox_endSession]) ..)
          obtain rfl := Option.some.inj (hd.symm.trans he)
          exact ⟨.inr ⟨b, hb⟩, .inl fun c hm => by simpa using fun hx => hc (List.any_eq_true.2 ⟨c, hm, hx⟩)⟩

theorem CompState.armed_of_active {x : CompState} (h : x.active = true) : x.armed = true := by
  cases x <;> simp_all [CompState.active, CompState.armed]

/-- An arm's fault: what is active goes to STOPPING with a STOP, and what is STOPPING is told again (R87). -/
theorem Changes.faultArm (s : State) (b : BayNo) (x : Arm) : Changes s (s.faultArm b x) := by
  unfold State.faultArm
  split
  · exact .refl
  · rename_i i k hx
    split
    · exact .refl
    · rename_i c hc
      have flagged : Changes s (s.updComp i k fun y => { y with acc := y.acc.withFault }) :=
        .single (.load s i k _ c hc ⟨rfl, rfl, id, .inl rfl⟩ (.inl rfl))
      dsimp only
      have stopped (ha : c.state.active = true) : Changes s ((s.updComp i k fun y =>
          { y with acc := y.acc.withFault }).updComp i k fun y =>
            { y with state := .stopping, deadline := some s.stopDeadline }) := by
        rw [State.updComp_updComp s i k (fun y => { y with state := .stopping, deadline := some s.stopDeadline })
          (fun y => { y with acc := y.acc.withFault }) fun _ => rfl]
        refine .single (.load s i k _ c hc ⟨rfl, rfl, fun hl => ?_, .inr (.inl rfl)⟩ (.inr (.inl ha)))
        have hsome : c.arm.isSome = true := hl.1.2 (CompState.armed_of_active ha)
        simp [Compartment.lawful, hsome, CompState.armed, CompState.active]
      split
      · rename_i hs
        exact (stopped (by rw [hs]; rfl)).trans (.queueStop ..)
      · rename_i hs
        exact (stopped (by rw [hs]; rfl)).trans (.queueStop ..)
      · exact flagged.trans (.queueStop ..)
      · exact flagged
      · exact .refl
      · exact .refl
      · exact .refl
  · dsimp only
    split
    · exact .trans (.updOrphan ..) (.queueStop ..)
    · exact .updOrphan ..

/-- A state in which no VERDICT waits at a bay. -/
def State.noVerdict (b : BayNo) (s : State) : Prop := (s.bay b).outbox.any Message.isVerdict = false

theorem State.noVerdict.of_sameLines {s t : State} {b : BayNo} (h : s.noVerdict b) (k : s.SameLines t) :
    t.noVerdict b := by rwa [State.noVerdict, k.outbox b]

theorem State.noVerdict.queueStop {s : State} {b : BayNo} (h : s.noVerdict b) (c : BayNo) (a : Arm) :
    (s.queueStop c a).noVerdict b := by
  rw [State.noVerdict, State.queueStop, State.bay_enqueue]
  dsimp only
  split
  · exact Bool.eq_false_iff.2 fun hv => Bool.eq_false_iff.1 h (any_of_countP
      (countP_withStop_other a _ Message.isVerdict rfl fun x hx => (Message.isPermit_other hx).1) hv)
  · exact h

theorem State.SameLines.updOrphan (s : State) (b : BayNo) (a : Arm) (f : Orphan → Orphan) :
    s.SameLines (s.updOrphan b a f) := by rw [State.updOrphan_eq]; exact .setArm ..

theorem State.noVerdict.faultArm {s : State} {b : BayNo} (h : s.noVerdict b) (c : BayNo) (x : Arm) :
    (s.faultArm c x).noVerdict b := by
  unfold State.faultArm
  split
  · exact h
  · split
    · exact h
    · rename_i i k _ _ _ _
      have flagged := h.of_sameLines (State.SameLines.updComp s i k fun y => { y with acc := y.acc.withFault })
      dsimp only
      split
      · exact State.noVerdict.queueStop (flagged.of_sameLines (.updComp ..)) ..
      · exact State.noVerdict.queueStop (flagged.of_sameLines (.updComp ..)) ..
      · exact State.noVerdict.queueStop (h.of_sameLines (.updComp ..)) ..
      · exact h.of_sameLines (.updComp ..)
      · exact h
      · exact h
      · exact h
  · dsimp only
    split
    · exact State.noVerdict.queueStop (h.of_sameLines (.updOrphan ..)) ..
    · exact h.of_sameLines (.updOrphan ..)

theorem Changes.grantFault {s : State} {b : BayNo} (h : s.noVerdict b) (code : Nat) :
    Changes s (s.grantFault b code) :=
  .trans (.trans (.trans (.faultArm s b .A) (.faultArm _ b .B)) (.offer ..))
    (.queueVerdict (((h.faultArm b .A).faultArm b .B).of_sameLines (.offer ..)) ..)

theorem Changes.takeFault {s : State} {b : BayNo} (h : (s.bay b).takes false = true) (code : Nat) :
    Changes s (s.takeFault b code) := by
  obtain ⟨hv, -⟩ := BayRecord.takes_iff.1 h
  unfold State.takeFault
  split
  · exact .grantFault hv code
  · split
    · exact .grantFault hv code
    · split
      · exact .deny hv ..
      · exact .grantFault hv code

/-! ### Exchanges -/

theorem Changes.takeAnswer {s : State} {b : BayNo} (hp : s.phase = .running) (hl : (s.bay b).link ≠ .silent)
    (a : Answer) : Changes s (s.takeAnswer b a) := by
  cases a with
  | status rs => exact .reports rs hl
  | claim ref =>
    change Changes s (ite _ _ _)
    split
    · exact .takeClaim ‹_› ref
    · exact .refl
  | start x k p =>
    change Changes s (ite _ _ _)
    split
    · exact .takeStart ‹_› hp hl x k p
    · exact .refl
  | finish =>
    change Changes s (ite _ _ _)
    split
    · exact .takeFinish ‹_›
    · exact .refl
  | fault code =>
    change Changes s (ite _ _ _)
    split
    · exact .takeFault ‹_› code
    · exact .refl

/-- A valid answer leaves its bay ONLINE, and the phase as it was. -/
theorem State.answered_online (s : State) (b : BayNo) :
    (s.answered b).phase = s.phase ∧ ((s.answered b).bay b).link = .online := by
  unfold State.answered
  split
  · rw [State.bayReturn_eq]
    have hp : (s.returnStops b).phase = s.phase := by rw [State.returnStops_frame]
    have hl := (s.returning b).link
    split
    · have same : (s.returnStops b).SameLinks ((s.returnStops b).queueDismiss b) := .enqueue ..
      exact ⟨same.phase.trans hp, (same.link b).trans hl⟩
    · exact ⟨hp, hl⟩
  · exact ⟨rfl, by rw [State.setOnline, State.bay_setBay_self]⟩

theorem State.SameLinks.removeSent (s : State) (b : BayNo) (m : Option Message) :
    s.SameLinks (s.removeSent b m) := by rw [State.removeSent_eq]; exact .setBay rfl

theorem Changes.validAnswer {s : State} (hp : s.phase = .running) (b : BayNo) (m : Option Message) (a : Answer) :
    Changes s (s.validAnswer b m a) := by
  obtain ⟨hph, hl⟩ := s.answered_online b
  have same := State.SameLinks.removeSent (s.answered b) b m
  exact .trans (.trans (.answered ..) (.removeSent ..))
    (.takeAnswer (same.phase.trans (hph.trans hp)) (by rw [same.link b, hl]; decide) a)

theorem Changes.rack (s : State) (r : Rack) : Changes s { s with rack := r } := .of_core rfl rfl rfl rfl rfl

theorem Changes.afterExchange (s : State) (v : Visit) : Changes s (s.afterExchange v) := by
  unfold State.afterExchange
  split
  · exact .endVisit s
  · exact .rack ..

theorem Changes.endByAnswer {s : State} (hp : s.phase = .running) (v : Visit) (e : Exchange) (ws : List RxWord) :
    Changes s (s.endByAnswer v e ws) := by
  unfold State.endByAnswer
  split
  · exact .endVisit s
  · split
    · exact .trans (.miss ..) (.endVisit _)
    · exact .trans (.validAnswer hp ..) (.afterExchange ..)

theorem Changes.endByWindow (s : State) (v : Visit) : Changes s (s.endByWindow v) := by
  unfold State.endByWindow
  split
  · exact .endVisit s
  · exact .trans (.miss ..) (.endVisit _)

theorem Changes.beginExchange (s : State) : Changes s s.beginExchange := by
  unfold State.beginExchange
  split
  · exact .refl
  · exact .rack ..

theorem Changes.sendAllStop (s : State) : Changes s s.sendAllStop := by
  unfold State.sendAllStop
  split
  · exact .rack ..
  · exact .rack ..

/-! ### Loading deadlines and the latch -/

theorem State.compDeadline_some {s : State} {i : SlotNo} {k : Nat} {x : CompState} {y : Deadline}
    (h : s.compDeadline i k x = some y) : ∃ c, s.comp i k = some c ∧ c.state = x := by
  unfold State.compDeadline at h
  split at h
  · simp at h
  · rename_i c hc
    split at h
    · exact ⟨c, hc, ‹_›⟩
    · simp at h

theorem Changes.permitExpired {s : State} {i : SlotNo} {k : Nat} {c : Compartment} (hc : s.comp i k = some c)
    (hs : c.state = .permitted) : Changes s (s.permitExpired i k) := by
  have left : Changes s ((s.updComp i k fun y =>
      { y with state := .planned, deadline := none, arm := none }).freeArm c.arm) :=
    .single (.leave s i k (fun y => { y with state := .planned, deadline := none, arm := none }) c hc rfl rfl
      (fun hl => by simp [Compartment.lawful, CompState.armed, CompState.active, hl.2.2.1 (.inr (.inl hs))])
      rfl (.inl (by rw [hs]; rfl)))
  unfold State.permitExpired
  simp only [hc]
  split
  · exact left
  · exact left.trans (.queueStop ..)

theorem Changes.flowingExpired {s : State} {i : SlotNo} {k : Nat} {c : Compartment} (hc : s.comp i k = some c)
    (hs : c.state = .flowing) : Changes s (s.flowingExpired i k) := by
  have stopped : Changes s (s.updComp i k fun y =>
      { y with
        state := .stopping
        deadline := some s.stopDeadline
        acc := { y.acc with flags := { y.acc.flags with time := true } } }) := by
    refine .single (.load s i k _ c hc ⟨rfl, rfl, fun hl => ?_, .inr (.inl rfl)⟩ (.inr (.inl (by rw [hs]; rfl))))
    have hsome : c.arm.isSome = true := hl.1.2 (by rw [hs]; rfl)
    simp [Compartment.lawful, hsome, CompState.armed, CompState.active]
  unfold State.flowingExpired
  simp only [hc]
  split
  · exact stopped
  · exact stopped.trans (.queueStop ..)

theorem Changes.addCause {s : State} (c : Cause) : Changes s (s.addCause c) := by
  unfold State.addCause
  split
  · exact .refl
  · dsimp only
    split
    · rename_i h
      refine .trans (.frame (t := { s with latch := s.latch.add c }) rfl rfl (fun _ => .inl h) id) (.offer ..)
    · exact .trans (.single (.latch s _)) (.offer ..)

theorem Changes.settleExpired {s : State} {x : DeadlineOf}
    (h : ∀ i k, x = .compartment i k → ∃ c, s.comp i k = some c ∧ c.state.active = true) :
    Changes s (s.settleExpired x) := by
  cases x with
  | compartment i k =>
    refine .reachDone fun c hc => ?_
    obtain ⟨e, he, ha⟩ := h i k rfl
    rwa [Option.some.inj (hc.symm.trans he)]
  | orphan b a => exact .clearOrphan ..

theorem Changes.stopExpired {s : State} {x : DeadlineOf}
    (h : ∀ i k, x = .compartment i k → ∃ c, s.comp i k = some c ∧ c.state.active = true) :
    Changes s (s.stopExpired x) := by
  cases x with
  | compartment i k =>
    obtain ⟨c, hc, ha⟩ := h i k rfl
    exact .trans (.end (g := fun y => { y with acc := y.acc.withUnclosed }) hc (fun _ => rfl) (fun _ => rfl) (.inl ha))
      (.addCause _)
  | orphan b a => exact .trans (.trans (.updOrphan ..) (.clearOrphan ..)) (.addCause _)

/-- What a running stop deadline or settle interval is of. -/
theorem State.stoppingDeadline_some {s : State} {x : DeadlineOf} {y : Deadline} (h : s.stoppingDeadline x = some y) :
    ∀ i k, x = .compartment i k → ∃ c, s.comp i k = some c ∧ c.state.active = true := by
  rintro i k rfl
  obtain ⟨c, hc, hs⟩ := State.compDeadline_some h
  exact ⟨c, hc, by rw [hs]; rfl⟩

/-- An expiry that is taken only while its deadline runs. -/
theorem Changes.expire {s : State} {x : Option Deadline} {k : DeadlineKind} {f : State → State}
    (h : ∀ d, x = some d → Changes (s.reach d.expires) (f (s.reach d.expires))) : Changes s (s.expire x k f) := by
  unfold State.expire
  split
  · exact .refl
  · rename_i d
    split
    · exact (Changes.reach ..).trans (h d rfl)
    · exact .refl

theorem Changes.assertInput (s : State) : Changes s s.assertInput := by
  have asserted : Changes s { s with shutdownInput := true } := .of_core rfl rfl rfl rfl rfl
  unfold State.assertInput
  dsimp only
  split
  · exact asserted.trans (.addCause _)
  · exact asserted

/-! ### The office's requests -/

theorem State.find_some {s : State} {ref : Nat} {i : SlotNo} {d : Delivery} (h : s.find ref = some (i, d)) :
    s.slot i = some d ∧ d.ref = ref := by
  have := s.find_spec ref
  rwa [h] at this

theorem State.find_none {s : State} {ref : Nat} (h : s.find ref = none) :
    ∀ i d, s.slot i = some d → d.ref ≠ ref := by
  have := s.find_spec ref
  rwa [h] at this

theorem State.slot_freeSlot {s : State} {i : SlotNo} (h : s.freeSlot = some i) : s.slot i = none := by
  simpa using List.find?_some h

theorem Compartment.Same.refl (c : Compartment) : Compartment.Same c c := ⟨rfl, rfl, rfl, rfl, rfl⟩

/-- A record whose compartments stay as they are. -/
theorem Changes.record {s : State} {i : SlotNo} {d e : Delivery} (hd : s.slot i = some d) (hr : e.ref = d.ref)
    (hb : e.bay = d.bay) (hs : d.state.moves e.state) (hl : d.lawful → e.lawful) (hc : e.comps = d.comps) :
    Changes s (s.setSlot i (some e)) :=
  .single (.record s i d e id hd hr hb hs hl (by simp [hc]) Compartment.Same.refl)

theorem badTrip_iff {x y : Nat} : badTrip x y = false ↔ 1 ≤ x ∧ x ≤ 900 ∧ x ≤ y ∧ y ≤ 1200 := by
  simp [badTrip, within]
  omega

theorem newDelivery_lawful {b : BookBody} (h : badBook b = false) (n : Nat) : (newDelivery b n).lawful := by
  simp only [badBook, Bool.or_eq_false_iff] at h
  obtain ⟨⟨⟨⟨⟨hr, -⟩, -⟩, -⟩, -⟩, ht⟩ := h
  have := badTrip_iff.1 ht
  exact ⟨by simpa [newDelivery] using hr, ⟨this.1, this.2.1⟩, this.2.2.1, this.2.2.2, nofun, fun _ => rfl⟩

theorem newDelivery_compsLawful {b : BookBody} (h : badBook b = false) (n : Nat) : (newDelivery b n).compsLawful := by
  simp only [badBook, Bool.or_eq_false_iff] at h
  obtain ⟨⟨⟨⟨-, hlen⟩, hcs⟩, hnd⟩, -⟩ := h
  have hmap : (b.comps.map newComp).map Compartment.index = b.comps.map BookComp.index := by
    simp [Function.comp_def, newComp]
  refine ⟨?_, ?_, ?_, fun c hc => ?_⟩
  · simp [within] at hlen
    simp [newDelivery]
    omega
  · intro he
    have : b.comps = [] := by simpa [newDelivery] using he
    simp [this, within] at hlen
  · rw [newDelivery, hmap]
    simpa using hnd
  · obtain ⟨x, hx, rfl⟩ := List.mem_map.1 hc
    have hb := List.any_eq_false.1 hcs x hx
    simp only [badComp, Bool.not_eq_true, Bool.or_eq_false_iff] at hb
    refine ⟨by simpa [within, newComp] using hb.1.1.1.1.1.1, ?_⟩
    simp [Compartment.lawful, newComp, CompState.armed, CompState.active, Acc.zero]

theorem Changes.book (s : State) (b : BookBody) : Changes s (s.book b).1 := by
  unfold State.book
  split
  · exact .refl
  · rename_i hbad
    split
    · exact .refl
    · rename_i hfind
      split
      · exact .refl
      · split
        · exact .refl
        · exact .refl
        · rename_i now i ht hi
          split
          · exact .refl
          · have hb : badBook b = false := by simpa using hbad
            exact .trans (.admitEntry ..) (.single (.book _ i _ (State.slot_freeSlot hi) (State.find_none hfind)
              (by rw [State.admit_time, ht]; simp) (newDelivery_lawful hb _) (newDelivery_compsLawful hb _) rfl rfl
              fun c hc => by obtain ⟨x, -, rfl⟩ := List.mem_map.1 hc; rfl))

theorem amendComp_same (cs : List PlanChange) (c : Compartment) : Compartment.Same c (amendComp cs c) := by
  unfold amendComp
  split <;> exact ⟨rfl, rfl, rfl, rfl, rfl⟩

theorem Delivery.amend_lawful {d : Delivery} {b : AmendBody} (hb : badAmend b = false) (hs : d.amendState b = false)
    (h : d.lawful) : (d.amend b).lawful := by
  obtain ⟨hr, ⟨h1, h2⟩, h3, h4, hn, hh⟩ := h
  simp only [badAmend, Bool.or_eq_false_iff] at hb
  obtain ⟨⟨⟨⟨⟨-, ht⟩, -⟩, -⟩, -⟩, -⟩ := hb
  have trip : (1 ≤ (d.amend b).driving ∧ (d.amend b).driving ≤ 900) ∧ (d.amend b).driving ≤ (d.amend b).duty
      ∧ (d.amend b).duty ≤ 1200 := by
    cases hp : tripPart b with
    | none => simpa [Delivery.amend, hp] using ⟨⟨h1, h2⟩, h3, h4⟩
    | some t =>
      have := badTrip_iff.1 (by simpa [hp] using ht)
      simpa [Delivery.amend, hp] using ⟨⟨this.1, this.2.1⟩, this.2.2⟩
  refine ⟨hr, trip.1, trip.2.1, trip.2.2, fun hx => ?_, hh⟩
  cases hp : driverPart b with
  | none => simpa [Delivery.amend, hp] using hn hx
  | some n =>
    have : d.state = .booked := by
      simp only [Delivery.amendState, hp, Bool.or_eq_false_iff] at hs
      simpa using hs.2
    have hx' : d.state.namesDriver = true := hx
    rw [this] at hx'
    exact absurd hx' (by decide)

theorem Changes.amend (s : State) (b : AmendBody) : Changes s (s.amend b).1 := by
  unfold State.amend
  split
  · exact .refl
  · rename_i hbad
    split
    · exact .refl
    · rename_i i d hfind
      split
      · exact .refl
      · split
        · exact .refl
        · split
          · exact .refl
          · rename_i hs
            split
            · exact .refl
            · exact .trans (.admitEntry ..) (.single (.record _ i d (d.amend b) (amendComp b.changes)
                (State.find_some hfind).1 rfl rfl (.inl rfl)
                (Delivery.amend_lawful (by simpa using hbad) (by simpa using hs)) rfl (amendComp_same _)))

theorem Changes.acceptDeferred (s : State) (p : Port) (tag code ref driver : Nat) (x : Payload) :
    Changes s (s.acceptDeferred p tag code ref driver x).1 := .trans (.admitEntry ..) (.setPort ..)

theorem State.slot_acceptDeferred (s : State) (p : Port) (tag code ref driver : Nat) (x : Payload) (i : SlotNo) :
    (s.acceptDeferred p tag code ref driver x).1.slot i = s.slot i := by cases p <;> rfl

theorem Changes.cancel (s : State) (p : Port) (tag ref : Nat) : Changes s (s.cancel p tag ref).1 := by
  unfold State.cancel
  split
  · exact .refl
  · rename_i i d hfind
    split
    · exact .refl
    · split
      · exact .refl
      · rename_i hs
        split
        · exact .refl
        · exact .trans (.acceptDeferred ..) (.single (.cancel _ i d
            ((State.slot_acceptDeferred ..).trans (State.find_some hfind).1) (by simpa using hs)))

theorem Changes.detach (s : State) (ref : Nat) : Changes s (s.detach ref).1 := by
  unfold State.detach
  split
  · exact .refl
  · rename_i i d hfind
    split
    · exact .refl
    · split
      · exact .refl
      · rename_i hs
        split
        · exact .refl
        · refine .trans (.admitEntry ..) (.endSession fun e he => ?_)
          obtain rfl := Option.some.inj ((State.find_some hfind).1.symm.trans he)
          simp only [State.detachState, Bool.or_eq_true, not_or] at hs
          obtain ⟨hst, hb⟩ := hs
          refine ⟨.inl (by simpa using hst), .inr ?_⟩
          cases hbay : d.bay with
          | none => simp [hbay] at hb
          | some b =>
            have hl : (s.bay b).link = .silent := by simpa [hbay] using hb
            exact ⟨b, rfl, hl⟩

theorem Changes.deliveryRead (s : State) (ref : Nat) : Changes s (s.deliveryRead ref).1 := by
  unfold State.deliveryRead
  split
  · exact .refl
  · rename_i i d hfind
    exact .single (.record s i d d.readouts Compartment.afterReadouts (State.find_some hfind).1 rfl rfl (.inl rfl) id
      rfl fun c => ⟨rfl, rfl, rfl, rfl, rfl⟩)

theorem Changes.override (s : State) (p : Port) (tag ref set sup : Nat) :
    Changes s (s.override p tag ref set sup).1 := by
  unfold State.override
  split
  · exact .refl
  · split
    · exact .refl
    · split
      · exact .refl
      · split
        · exact .refl
        · split
          · exact .refl
          · split
            · exact .refl
            · exact .acceptDeferred ..

/-! ### Booking deadlines and terminal time -/

theorem Changes.expireSlot (s : State) (i : SlotNo) : Changes s (s.expireSlot i) := by
  unfold State.expireSlot
  split
  · exact .refl
  · rename_i d hd
    split
    · rename_i h
      have hs : d.state = .booked := by simpa [Delivery.due] using (Bool.and_eq_true_iff.1 h.1).1
      refine .trans (.admitEntry ..) (.record (d := d) hd rfl rfl (.inr (.inl ⟨.inl hs, .inr (.inr rfl)⟩)) ?_ rfl)
      rintro ⟨hr, ht, h3, h4, -, hh⟩
      exact ⟨hr, ht, h3, h4, nofun, fun _ => hh (by rw [hs]; decide)⟩
    · exact .refl

theorem Changes.foldl {α : Type} {f : State → α → State} (h : ∀ s x, Changes s (f s x)) (xs : List α) (s : State) :
    Changes s (xs.foldl f s) := by
  induction xs generalizing s with
  | nil => exact .refl
  | cons x xs ih => exact (h s x).trans (ih _)

theorem Changes.moveTime (s : State) (n : Nat) : Changes s (s.moveTime n) :=
  .trans (.frame (t := { s with time := some n }) rfl rfl id nofun) (.foldl Changes.expireSlot ..)

theorem Changes.timeSet (s : State) (n : Nat) : Changes s (s.timeSet n).1 := by
  unfold State.timeSet
  split
  · exact .refl
  · split
    · exact .refl
    · split
      · exact .refl
      · dsimp only
        split
        · exact .admitEntry ..
        · exact .trans (.admitEntry ..) (.moveTime ..)

theorem Changes.advanceTime (s : State) : Changes s s.advanceTime := by
  unfold State.advanceTime
  split
  · exact .refl
  · split
    · split
      · exact .moveTime ..
      · exact .frame rfl rfl id nofun
    · exact .refl

/-! ### The other requests -/

theorem Changes.writeSettings {s : State} {new : Settings} (h : s.leavingInUse new.polled = false) :
    Changes s (s.writeSettings new) := by
  unfold State.writeSettings
  refine .trans ?_ (.settleRound _)
  refine .single (.unpoll rfl id id fun b => ?_)
  change (Vector.ofFn _).get b = _ ∨ (Vector.ofFn _).get b = _ ∧ _
  rw [get_ofFn]
  split
  · rename_i hb
    have hu := List.any_eq_false.1 h b (List.mem_finRange _)
    obtain ⟨hbound, hrefs⟩ : (s.bay b).bound = none ∧ (s.bay b).holdsReferences = false := by
      simpa [hb] using hu
    refine .inr ⟨rfl, hbound, fun a => ?_⟩
    simp only [BayRecord.holdsReferences, Bool.or_eq_false_iff, bne_eq_false_iff_eq] at hrefs
    cases a
    · exact hrefs.1
    · exact hrefs.2
  · exact .inl rfl

theorem Changes.settingsWrite (s : State) (b : SettingsBody) : Changes s (s.settingsWrite b).1 := by
  unfold State.settingsWrite
  split
  · exact .refl
  · rename_i h
    exact .writeSettings (Bool.eq_false_iff.2 h)

theorem Changes.shutdownClear (s : State) : Changes s s.shutdownClear.1 := by
  unfold State.shutdownClear
  split
  · exact .refl
  · split
    · refine .trans (.frame (t := { s with
          latch := Latch.clear
          rack := { s.rack with latchStop := false, roundStop := false } }) rfl rfl ?_ id) (.offer ..)
      rintro (h | h)
      · exact absurd h (Bool.eq_false_iff.1 (rfl : Latch.clear.isSet = false))
      · exact .inr h
    · exact .refl

theorem Changes.bayRead (s : State) (n : Nat) : Changes s (s.bayRead n).1 := by
  unfold State.bayRead
  split
  · exact .trans (.updOrphan ..) (.updOrphan ..)
  · split
    · exact .refl
    · exact .refl

theorem Changes.restart (s : State) (n : Nat) : Changes s (s.restart n).1 := by
  unfold State.restart
  split
  · exact .refl
  · exact .refl
  · split <;> exact .refl

theorem Changes.driverRegister (s : State) (n day : Nat) : Changes s (s.driverRegister n day).1 := by
  unfold State.driverRegister
  split
  · exact .refl
  · split
    · split
      · exact .refl
      · exact .of_core rfl rfl rfl rfl rfl
    · split
      · exact .refl
      · exact .of_core rfl rfl rfl rfl rfl

theorem Changes.driverRemove (s : State) (n : Nat) : Changes s (s.driverRemove n).1 := by
  unfold State.driverRemove
  split
  · exact .refl
  · split
    · exact .refl
    · split
      · exact .refl
      · split
        · exact .refl
        · exact .of_core rfl rfl rfl rfl rfl

theorem Changes.setProduct (s : State) (code : Nat) (e : Product) : Changes s (s.setProduct code e) := by
  unfold State.setProduct
  split
  · exact .of_core rfl rfl rfl rfl rfl
  · exact .refl

theorem Changes.productDefine (s : State) (b : ProductBody) : Changes s (s.productDefine b).1 := by
  unfold State.productDefine
  split
  · exact .refl
  · split
    · exact .refl
    · split
      · exact .refl
      · exact .setProduct ..

theorem Changes.productState (s : State) (code state : Nat) : Changes s (s.productState code state).1 := by
  unfold State.productState
  split
  · exact .refl
  · split
    · exact .refl
    · split
      · exact .refl
      · exact .setProduct ..

theorem Changes.reclaim (s : State) (p : Port) (tag n : Nat) : Changes s (s.reclaim p tag n).1 := by
  unfold State.reclaim
  split
  · split
    · exact .refl
    · split
      · exact .refl
      · exact .trans (.log ..) (.setPort ..)
  · exact .refl

/-! ### The gate's requests -/

theorem Changes.offerDeclaration (s : State) (ref : Nat) (x : Driver) (now : Nat) (y : Option Declaration) :
    Changes s (s.offerDeclaration ref x now y) := by
  cases y with
  | none => exact .refl
  | some y => exact .offer ..

theorem State.slot_offerDeclaration (s : State) (ref : Nat) (x : Driver) (now : Nat) (y : Option Declaration)
    (i : SlotNo) : (s.offerDeclaration ref x now y).slot i = s.slot i := by
  cases y with
  | none => rfl
  | some y => rw [State.offerDeclaration, State.offer_frame]; rfl

theorem Changes.acceptArrive {s : State} {i : SlotNo} {d : Delivery} (hd : s.slot i = some d) (hs : d.state = .booked)
    (b : ArriveBody) (now : Nat) (x : Driver) : Changes s (s.acceptArrive b now i d x).1 := by
  unfold State.acceptArrive
  dsimp only
  refine .trans ?_ (.record (d := d) (e := d.arrive b.driver now) ?_ rfl rfl
    (.inr (.inl ⟨.inl hs, .inr (.inl rfl)⟩)) ?_ rfl)
  · exact .trans (.trans (.admitEntry ..) (.offerDeclaration ..)) (.of_core rfl rfl rfl rfl rfl)
  · exact (State.slot_offerDeclaration ..).trans hd
  · rintro ⟨hr, ht, h3, h4, -, hh⟩
    exact ⟨hr, ht, h3, h4, fun _ => rfl, fun _ => hh (by rw [hs]; decide)⟩

theorem Changes.announce (s : State) (b : ArriveBody) : Changes s (s.announce b).1 := by
  unfold State.announce
  split
  · exact .refl
  · split
    · exact .refl
    · split
      · exact .refl
      · rename_i i d hfind
        split
        · exact .refl
        · split
          · exact .refl
          · rename_i hs
            split
            · exact .refl
            · split
              · exact .refl
              · exact .refl
              · exact .acceptArrive (State.find_some hfind).1 (not_not.1 hs) ..

/-- The readouts of a paper change no compartment's state. -/
theorem Delivery.paperReadouts_same (c : Compartment) :
    Compartment.Same c (if c.state.onPaper then c.afterReadouts else c) := by
  split <;> exact ⟨rfl, rfl, rfl, rfl, rfl⟩

theorem Delivery.noPaper_false {d : Delivery} (h : d.noPaper = false) : d.state = .loaded ∨ d.state = .held := by
  unfold Delivery.noPaper at h
  cases hs : d.state <;> simp_all

theorem Changes.hold {s : State} {i : SlotNo} {d : Delivery} (hd : s.slot i = some d)
    (hs : d.state = .loaded ∨ d.state = .held) : Changes s (s.hold i (s.computeHolds d)).1 := by
  have held : Changes s (s.setSlot i (some { (s.computeHolds d).record with
      state := .held, holds := (s.computeHolds d).holds })) := by
    refine .single (.record s i d _ (fun c => if c.state.onPaper then c.afterReadouts else c) hd rfl rfl
      (.inr (.inr ⟨hs, rfl⟩)) ?_ rfl Delivery.paperReadouts_same)
    rintro ⟨hr, ht, h3, h4, hn, -⟩
    exact ⟨hr, ht, h3, h4, fun _ => hn (by rcases hs with h | h <;> rw [h] <;> rfl), fun h => absurd rfl h⟩
  unfold State.hold
  dsimp only
  split
  · exact held
  · exact held.trans (.offer ..)

theorem Changes.acceptRelease {s : State} {i : SlotNo} {d : Delivery} (hd : s.slot i = some d)
    (hs : d.state = .loaded ∨ d.state = .held) (hc : ∀ c ∈ d.comps, c.state ≠ .stopping) (p : Port) (tag : Nat) :
    Changes s (s.acceptRelease p tag i d.paperReadouts).1 := by
  have read : Changes s (s.setSlot i (some d.paperReadouts)) :=
    .single (.record s i d _ (fun c => if c.state.onPaper then c.afterReadouts else c) hd rfl rfl (.inl rfl) id rfl
      Delivery.paperReadouts_same)
  unfold State.acceptRelease
  dsimp only
  split
  · exact read
  · refine read.trans (.trans (.acceptDeferred ..) (.single (.release _ i d.paperReadouts ?_ hs fun c hm => ?_)))
    · rw [State.slot_acceptDeferred, State.slot_setSlot_self]
    · obtain ⟨y, hy, rfl⟩ := List.mem_map.1 hm
      rw [(Delivery.paperReadouts_same y).state]
      exact hc y hy

theorem Changes.release (s : State) (p : Port) (tag ref driver : Nat) :
    Changes s (s.release p tag ref driver).1 := by
  unfold State.release
  split
  · exact .refl
  · split
    · exact .refl
    · rename_i i d hfind
      split
      · exact .refl
      · split
        · exact .refl
        · rename_i hp
          split
          · exact .refl
          · split
            · exact .refl
            · rename_i hst
              have hd := (State.find_some hfind).1
              have hs := Delivery.noPaper_false (Bool.eq_false_iff.2 hp)
              dsimp only
              split
              · exact .hold hd hs
              · exact .acceptRelease hd hs (fun c hc h => hst (List.any_eq_true.2 ⟨c, hc, by simp [h]⟩)) ..

/-- A request that its owner takes. -/
theorem Changes.owner (s : State) (p : Port) (tag : Nat) (b : ReqBody) : Changes s (s.owner p tag b).1 := by
  cases b with
  | book b => exact .book s b
  | amend b => exact .amend s b
  | cancel ref => exact .cancel s p tag ref
  | detach ref => exact .detach s ref
  | override ref set sup => exact .override s p tag ref set sup
  | deliveryRead ref => exact .deliveryRead s ref
  | driverRegister n day => exact .driverRegister s n day
  | driverRemove n => exact .driverRemove s n
  | productDefine b => exact .productDefine s b
  | productState code state => exact .productState s code state
  | settingsWrite b => exact .settingsWrite s b
  | timeSet n => exact .timeSet s n
  | shutdownClear => exact .shutdownClear s
  | logAck n => exact .log s _
  | reclaim n => exact .reclaim s p tag n
  | bayRead n => exact .bayRead s n
  | restart n => exact .restart s n
  | arrive b => exact .announce s b
  | release ref driver => exact .release s p tag ref driver
  | driverRead n =>
    change Changes s (s.driverRead n).1
    unfold State.driverRead
    split
    · exact .refl
    · split <;> exact .refl
  | productRead code =>
    change Changes s (s.productRead code).1
    unfold State.productRead
    split
    · exact .refl
    · split <;> exact .refl
  | logRead n count =>
    change Changes s (s.logRead n count).1
    unfold State.logRead
    split
    · exact .refl
    · split
      · exact .refl
      · split
        · exact .refl
        · split <;> exact .refl
  | hoursQuery n =>
    change Changes s (s.hoursQuery n).1
    unfold State.hoursQuery
    split
    · exact .refl
    · split
      · exact .refl
      · split <;> exact .refl
  | paperRead ref =>
    change Changes s (s.paperRead ref).1
    unfold State.paperRead
    split
    · exact .refl
    · split
      · exact .refl
      · split
        · exact .refl
        · split <;> exact .refl
  | settingsRead | status | unknown | badLength => exact .refl

/-- A run of changes given by its last part first, whose beginning fixes the state between. -/
theorem Changes.before {s t u : State} (k : Changes t u) (h : Changes s t) : Changes s u := h.trans k

/-! ### The ports -/

theorem Changes.serve (s : State) (p : Port) (r : Request) : Changes s (s.serve p r) := by
  have taken : Changes s (s.setService p (some (r.tag, r.code))) := .setPort ..
  unfold State.serve State.answer
  refine .before (.setPort ..) ?_
  split
  · exact taken
  · exact taken.trans (.owner ..)

theorem Changes.serveNext (s : State) (p : Port) : Changes s (s.serveNext p) := by
  unfold State.serveNext
  split
  · exact .refl
  · dsimp only
    split
    · exact .trans (.setPort ..) (.serve ..)
    · exact .trans (.setPort ..) (.trans (.setPort ..) (.setPort ..))

theorem Changes.arrive (s : State) (p : Port) (r : Request) : Changes s (s.arrive p r) := by
  unfold State.arrive
  dsimp only
  split
  · exact .serve ..
  · split
    · exact .setPort ..
    · split
      · exact .setPort ..
      · exact .setPort ..

theorem Changes.request (s : State) (p : Port) (r : Request) : Changes s (s.request p r) := by
  unfold State.request
  split
  · exact .arrive ..
  · exact .refl

theorem Changes.discard (s : State) (p : Port) : Changes s (s.discard p) := .trans (.setPort ..) (.setPort ..)

theorem Changes.frameComplete (s : State) (p : Port) (xs : List Byte) : Changes s (s.frameComplete p xs) := by
  unfold State.frameComplete
  split
  · exact .discard ..
  · exact .trans (.setPort ..) (.arrive ..)

theorem Changes.receiveByte (s : State) (p : Port) (x : Byte) (stop : Bool) :
    Changes s (s.receiveByte p x stop) := by
  unfold State.receiveByte
  split
  · split
    · exact .refl
    · split
      · exact .setPort ..
      · exact .discard ..
  · split
    · unfold State.frameByte
      split
      · exact .discard ..
      · split
        · exact .setPort ..
        · exact .frameComplete ..
    · exact .discard ..

theorem Changes.gapExpired (s : State) (p : Port) : Changes s (s.gapExpired p) := by
  unfold State.gapExpired
  split
  · exact .refl
  · exact .trans (.reach ..) (.discard ..)

/-! ### The log store -/

theorem Changes.replyAwaited (s : State) (n : Nat) (b : FrameBody) : Changes s (s.replyAwaited n b) :=
  .of_core rfl rfl rfl rfl rfl

theorem State.commit_frame (s : State) (d : Delivery) : s.commit d = { s with drivers := (s.commit d).drivers } := by
  unfold State.commit
  split <;> rfl

theorem Changes.commit (s : State) (d : Delivery) : Changes s (s.commit d) := by
  rw [State.commit_frame]
  exact .of_core rfl rfl rfl rfl rfl

theorem Changes.completeFor {s : State} {i : SlotNo} {d : Delivery} (hd : s.slot i = some d) (e : Entry) :
    Changes s (s.completeFor e i d) := by
  unfold State.completeFor
  split
  · split
    · rename_i hs
      refine .trans (.trans (.commit s d) (.replyAwaited ..)) (.single (.free _ i d ?_ (.inl hs)))
      rw [State.commit_frame]
      exact hd
    · exact .refl
  · split
    · rename_i hs
      exact .trans (.of_core (t := (s.unbind i).replyAwaited e.seq .replyDone) rfl rfl rfl rfl rfl)
        (.single (.depart _ i d hd hs))
    · exact .refl
  · split
    · rename_i hs
      exact .single (.free s i d hd (.inr hs))
    · exact .refl
  · exact .before (.replyAwaited ..) (.record hd rfl rfl (.inl rfl) id rfl)
  · exact .refl

theorem Changes.complete (s : State) (e : Entry) : Changes s (s.complete e) := by
  unfold State.complete
  split
  · exact .refl
  · exact .completeFor (State.find_some ‹_›).1 e

theorem Changes.beginWrite (s : State) : Changes s s.beginWrite := .of_core rfl rfl rfl rfl rfl

theorem Changes.writeDone (s : State) : Changes s s.writeDone := by
  unfold State.writeDone
  split
  · exact .refl
  · exact .before (.beginWrite _) (.before (.log ..) (.before (.complete ..) (.log ..)))

theorem Changes.replyPage (s : State) (p : PageNo) (x : PageOutcome) : Changes s (s.replyPage p x) :=
  .of_core rfl rfl rfl rfl rfl

theorem Changes.takePages (ps : List PageNo) (s : State) : Changes s (State.takePages ps s) := by
  induction ps generalizing s with
  | nil => exact .log ..
  | cons p ps ih =>
    unfold State.takePages
    split
    · exact .before (ih _) (.replyPage ..)
    · exact .log ..

theorem Changes.windowExpired (s : State) : Changes s s.windowExpired :=
  .before (.takePages ..) (.log ..)

theorem Changes.eraseDone (s : State) : Changes s s.eraseDone := by
  unfold State.eraseDone
  split
  · exact .refl
  · exact .before (.beginWrite _) (.before (.takePages ..) (.before (.replyPage ..) (.log ..)))

theorem Changes.eraseFailed (s : State) : Changes s s.eraseFailed := by
  unfold State.eraseFailed
  split
  · exact .refl
  · exact .before (.beginWrite _) (.before (.takePages ..) (.before (.replyPage ..) (.before (.offer ..) (.log ..))))

theorem Changes.suspendErase (s : State) : Changes s s.suspendErase :=
  .before (.beginWrite _) (.log ..)

/-! ### Starts -/

theorem State.enterStep2_frame (s : State) :
    s.enterStep2 = { s with phase := s.enterStep2.phase, log := s.enterStep2.log } := by
  unfold State.enterStep2
  split <;> rfl

theorem State.enterStep1_frame (s : State) :
    s.enterStep1 = { s with phase := s.enterStep1.phase, log := s.enterStep1.log } := by
  unfold State.enterStep1
  split
  · rfl
  · exact s.enterStep2_frame

theorem Changes.begin (s : State) (k : StartKind) : Changes s (s.begin k) := by
  cases k with
  | warm =>
    change Changes s s.warmState.enterStep1
    rw [State.enterStep1_frame]
    exact .single (.warm (fun i => get_mapTable ..) (fun b => get_mapTable ..) id)
  | cold =>
    change Changes s s.coldState.enterStep1
    rw [State.enterStep1_frame]
    exact .single (.cold (fun i => Vector.getElem_replicate ..) fun b => Vector.getElem_replicate ..)

theorem Changes.frameSent (s : State) (p : Port) : Changes s (s.frameSent p) := by
  unfold State.frameSent
  split
  · exact .refl
  · dsimp only
    split
    · exact .trans (.setPort ..) (.begin ..)
    · split
      · exact .trans (.setPort ..) (.trans (.setPort ..) (.serveNext ..))
      · exact .setPort ..

theorem State.hot_of_starting {s : State} (h : s.phase = .step1 ∨ s.phase = .step2 ∨ s.phase = .step3) : s.hot :=
  .inr (by rcases h with h | h | h <;> simp [h])

/-- Nothing of the two tables changes while a start is in progress. -/
theorem Changes.starting {s t : State} (h : s.phase = .step1 ∨ s.phase = .step2 ∨ s.phase = .step3)
    (hd : t.dispatch = s.dispatch) (hb : t.bays = s.bays) (ht : t.time = s.time) : Changes s t :=
  .frame hd hb (fun _ => State.hot_of_starting h) fun k => ht ▸ k

theorem Changes.startErase {s : State} (h : s.phase = .step2) (v : Bool) : Changes s (s.startErase v) := by
  unfold State.startErase
  split
  · exact .refl
  · rw [State.enterStep2_frame]
    split <;> exact .starting (.inr (.inl h)) rfl rfl rfl

theorem Changes.assertReset (s : State) : Changes s s.assertReset := by
  have asserted : Changes s { s with resetInput := true } := .of_core rfl rfl rfl rfl rfl
  unfold State.assertReset
  split
  · exact .refl
  · split
    · exact asserted.trans (.begin ..)
    · exact asserted

theorem Changes.deassertReset (s : State) : Changes s s.deassertReset := by
  unfold State.deassertReset
  dsimp only
  split
  · rw [State.enterStep2_frame]
    exact .starting (.inl ‹_›) rfl rfl rfl
  · exact .of_core rfl rfl rfl rfl rfl

theorem Changes.losePower (s : State) (cut : EventCut) : Changes s (s.losePower cut) := by
  unfold State.losePower
  split
  · refine .frame rfl rfl ?_ id
    rintro (h | h)
    · exact .inl h
    · exact absurd rfl h.2
  · exact .refl

theorem Changes.regainPower (s : State) (x : Bool) : Changes s (s.regainPower x) := by
  unfold State.regainPower
  split
  · exact .refl
  · split <;> exact .begin ..

theorem Changes.dropWritten (es : List Entry) (s : State) :
    Changes s (State.dropWritten es s) ∧ (State.dropWritten es s).phase = s.phase := by
  induction es generalizing s with
  | nil => exact ⟨.refl, rfl⟩
  | cons e es ih =>
    unfold State.dropWritten
    split
    · obtain ⟨hc, hp⟩ := ih ({ s with log := { s.log with queue := es } }.complete e)
      exact ⟨.trans (.trans (.log ..) (.complete ..)) hc, hp.trans (State.complete_frame _ e).2.1⟩
    · exact ⟨.refl, rfl⟩

theorem Changes.withdrawExpiry (s : State) (e : Entry) :
    Changes s (s.withdrawExpiry e) ∧ (s.withdrawExpiry e).phase = s.phase := by
  unfold State.withdrawExpiry
  split
  · rename_i i d _ hfind
    split
    · rename_i hs
      refine ⟨.record (d := d) (State.find_some hfind).1 rfl rfl (.inr (.inl ⟨.inr (.inr hs), .inl rfl⟩)) ?_ rfl, rfl⟩
      rintro ⟨hr, ht, h3, h4, -, hh⟩
      exact ⟨hr, ht, h3, h4, nofun, fun _ => hh (by rw [hs]; decide)⟩
    · exact ⟨.refl, rfl⟩
  · exact ⟨.refl, rfl⟩

theorem Changes.dropBack (s : State) : Changes s s.dropBack ∧ s.dropBack.phase = s.phase := by
  unfold State.dropBack
  split
  · exact ⟨.refl, rfl⟩
  · rename_i e _
    split
    · obtain ⟨hc, hp⟩ := Changes.withdrawExpiry
        { s with log := { s.log with queue := s.log.queue.dropLast }.lose } e
      exact ⟨.trans (.log ..) hc, hp⟩
    · exact ⟨.refl, rfl⟩

theorem Changes.scanStep (s : State) (found : CutWrite) :
    Changes s (s.scanStep found) ∧ (s.scanStep found).phase = s.phase := by
  obtain ⟨hw, hwp⟩ := Changes.dropWritten { s with log := s.log.scan found }.log.queue
    { s with log := s.log.scan found }
  obtain ⟨hb, hbp⟩ := Changes.dropBack
    (State.dropWritten { s with log := s.log.scan found }.log.queue { s with log := s.log.scan found })
  exact ⟨.trans (.trans (.trans (.log ..) hw) hb) (.log ..), hbp.trans hwp⟩

theorem Changes.decideStatus {s : State} (h : s.phase = .step3) : Changes s s.decideStatus :=
  .starting (.inr (.inr h)) rfl rfl rfl

theorem Changes.logStart {s : State} (h : s.phase = .step3) (n m : Nat) : Changes s (s.logStart n m) := by
  unfold State.logStart
  exact .before (.offer ..) (.starting (.inr (.inr h)) rfl rfl rfl)

theorem Changes.openPorts {s : State} (h : s.phase = .step3) : Changes s s.openPorts := by
  unfold State.openPorts
  exact .before (.settleRound _) (.before (.beginWrite _) (.starting (.inr (.inr h)) rfl rfl rfl))

theorem State.logStart_phase (s : State) (n m : Nat) : (s.logStart n m).phase = s.phase := by
  rw [State.logStart, State.offer_frame]

theorem Changes.scanEnd {s : State} (h : s.phase = .step3) (found : CutWrite) : Changes s (s.scanEnd found) := by
  obtain ⟨hs, hp⟩ := Changes.scanStep s found
  have h2 : (s.scanStep found).decideStatus.phase = .step3 := hp.trans h
  unfold State.scanEnd
  exact .before (.openPorts ((State.logStart_phase ..).trans h2))
    (.before (.logStart h2 ..) (.before (.decideStatus (hp.trans h)) hs))

/-! ### Every step -/

theorem Changes.ite {p : Prop} [Decidable p] {s t : State} (h : p → Changes s t) : Changes s (if p then t else s) := by
  split
  · exact h ‹_›
  · exact .refl

/-- Every command is a run of changes. -/
theorem Changes.exec (c : Instr) (s : State) : ∃ t, Machine.exec c s = .next t ∧ Changes s t := by
  have rack : ∀ (f : Visit → Exchange → State) (_ : ∀ v e, Changes s (f v e)),
      ∃ t, (match s.rack.visit, s.rack.exchange with
        | some v, some e => .next (f v e)
        | _, _ => .next s : Host.Outcome State Fault Refusal) = .next t ∧ Changes s t := fun f hf => by
    split
    · exact ⟨_, rfl, hf _ _⟩
    · exact ⟨_, rfl, .refl⟩
  have running : s.running = true → s.phase = .running := fun h => by simpa [State.running] using h
  cases c with
  | frameReceived p xs => exact ⟨_, rfl, .ite fun _ => .frameComplete ..⟩
  | portByteGapExpiry p => exact ⟨_, rfl, .ite fun _ => .gapExpired ..⟩
  | frameSent p => exact ⟨_, rfl, .ite fun _ => .frameSent ..⟩
  | portByteReceived p x stop => exact ⟨_, rfl, .ite fun _ => .receiveByte ..⟩
  | exchangeStart => exact ⟨_, rfl, .ite fun _ => .beginExchange _⟩
  | allStopBroadcast => exact ⟨_, rfl, .ite fun _ => .sendAllStop _⟩
  | answerReceived ws => exact rack _ fun v e => .ite fun h => .endByAnswer (running h) v e ws
  | answerWindowExpiry => exact rack _ fun v e => .ite fun _ => .before (.endByWindow ..) (.reach ..)
  | permitWindowExpiry i k =>
    refine ⟨_, rfl, .expire fun d hd => ?_⟩
    obtain ⟨c, hc, hs⟩ := State.compDeadline_some hd
    exact .permitExpired hc hs
  | flowingLimitExpiry i k =>
    refine ⟨_, rfl, .expire fun d hd => ?_⟩
    obtain ⟨c, hc, hs⟩ := State.compDeadline_some hd
    exact .flowingExpired hc hs
  | settleIntervalExpiry x => exact ⟨_, rfl, .expire fun d hd => .settleExpired (State.stoppingDeadline_some hd)⟩
  | stopDeadlineExpiry x => exact ⟨_, rfl, .expire fun d hd => .stopExpired (State.stoppingDeadline_some hd)⟩
  | shutdownInputAsserted =>
    refine ⟨_, rfl, ?_⟩
    split
    · exact .refl
    · exact .assertInput s
  | shutdownInputDeasserted => exact ⟨_, rfl, .of_core rfl rfl rfl rfl rfl⟩
  | terminalTimeAdvance => exact ⟨_, rfl, .advanceTime s⟩
  | writeComplete => exact ⟨_, rfl, .ite fun _ => .writeDone _⟩
  | collectionWindowExpiry => exact ⟨_, rfl, .ite fun _ => .before (.windowExpired _) (.reach ..)⟩
  | eraseSuspend => exact ⟨_, rfl, .ite fun _ => .suspendErase _⟩
  | eraseComplete => exact ⟨_, rfl, .ite fun _ => .eraseDone _⟩
  | eraseVerifyFailure => exact ⟨_, rfl, .ite fun _ => .eraseFailed _⟩
  | resetAsserted => exact ⟨_, rfl, .assertReset s⟩
  | resetDeasserted => exact ⟨_, rfl, .deassertReset s⟩
  | powerLoss cut => exact ⟨_, rfl, .losePower s cut⟩
  | powerReturn x => exact ⟨_, rfl, .regainPower s x⟩
  | startUpEraseEnd v => exact ⟨_, rfl, .ite fun h => .startErase h v⟩
  | startUpScanEnd slot => exact ⟨_, rfl, .ite fun h => .scanEnd h _⟩
  | _ => exact ⟨_, rfl, .request ..⟩

/-- Every step is a run of changes. -/
theorem Changes.step {s t : State} (h : Machine.step s = .next t) : Changes s t := by
  unfold Machine.step at h
  split at h
  · obtain rfl := Host.Outcome.next.inj h
    exact .ite fun _ => .of_core rfl rfl rfl rfl rfl
  · rename_i c rest _
    obtain ⟨u, hu, hc⟩ := Changes.exec c { s with pending := rest }
    obtain rfl := Host.Outcome.next.inj (hu.symm.trans h)
    exact .before hc (.of_core rfl rfl rfl rfl rfl)

/-- What every change keeps, a run of changes keeps. -/
theorem Changes.keep {P : State → Prop} (hk : ∀ s t, Change s t → P s → P t) {s t : State} (h : Changes s t)
    (hs : P s) : P t := by
  induction h with
  | refl => exact hs
  | tail _ hc ih => exact hk _ _ hc ih

/-- Settles O54: every step is a run of changes, and each change keeps the bindings, then the delivery records and the
outboxes, for which it needs the bindings. -/
theorem bindingsAndRecordsStayLawful : Obligations.BindingsAndRecordsStayLawful := by
  intro s t hb hd ho h
  exact (Changes.step h).keep (P := fun s => BindingLaw s ∧ DeliveryLaw s ∧ OutboxLaw s)
    (fun _ _ hc ⟨hb, hd, ho⟩ => ⟨hc.bindingLaw hb, hc.deliveryLaw hb hd, hc.outboxLaw hb ho⟩) ⟨hb, hd, ho⟩

/-- Settles O55: every change keeps the compartments and the latch's law, and with the bindings the arms too. -/
theorem compartmentsStayLawful : Obligations.CompartmentsStayLawful := by
  intro s t hc hl h
  have steps := Changes.step h
  obtain ⟨hc', hl'⟩ := steps.keep (P := fun s => CompartmentLaw s ∧ LatchLaw s)
    (fun _ _ k ⟨hc, hl⟩ => ⟨k.compartmentLaw hc, k.latchLaw hc hl⟩) ⟨hc, hl⟩
  refine ⟨hc', hl', fun hb _ ha hs => ?_⟩
  have arms : ArmsHold t := steps.keep (fun _ _ k => k.armsHold) ⟨hc, hb, ha, hs⟩
  exact ⟨arms.arms, arms.session⟩

/-! ### The state right after reset -/

theorem get_replicate {α : Type} {n : Nat} (x : α) (i : Fin n) : (Vector.replicate n x).get i = x :=
  Vector.getElem_replicate ..

theorem State.slot_reset (i : SlotNo) : State.reset.slot i = none := get_replicate ..

theorem State.bay_reset (b : BayNo) : State.reset.bay b = BayRecord.cold := get_replicate ..

theorem State.arm_reset (b : BayNo) (a : Arm) : State.reset.arm b a = .free := by
  rw [State.arm, State.bay_reset]
  cases a <;> rfl

theorem LogStore.page_new (p : PageNo) :
    LogStore.new.page p = if p = 0 then ⟨.filling, []⟩ else Page.free := by
  have h := get_set (Vector.replicate 64 Page.free) 0 p ⟨.filling, []⟩
  rwa [get_replicate] at h

theorem LogStore.entries_page_new (p : PageNo) : (LogStore.new.page p).entries = [] := by
  rw [LogStore.page_new]
  split <;> rfl

theorem LogStore.holds_page_new (p : PageNo) : (LogStore.new.page p).state.holds = false := by
  rw [LogStore.page_new]
  split <;> rfl

theorem LogStore.page_new_filling {p : PageNo} (h : (LogStore.new.page p).state = .filling) : p = 0 := by
  rw [LogStore.page_new] at h
  split at h
  · assumption
  · cases h

theorem LogStore.page_new_reclaiming (p : PageNo) : (LogStore.new.page p).state ≠ .reclaiming := fun h => by
  have := LogStore.holds_page_new p
  rw [h] at this
  cases this

theorem LogStore.filling_new : LogStore.new.filling = some 0 :=
  LogStore.filling_unique rfl fun _ h => LogStore.page_new_filling h

theorem LogStore.inOrder_new : LogStore.new.inOrder = [] := by
  simp only [LogStore.inOrder, LogStore.tail, LogStore.filling_new]
  exact List.flatMap_eq_nil_iff.2 fun p _ => LogStore.entries_page_new p

theorem LogStore.new_ordered : LogStore.new.Ordered where
  last := by decide
  numbers := by rw [LogStore.inOrder_new]; rfl
  freeFirst t _ := List.pairwise_of_forall fun p q h => by simp [LogStore.holds_page_new] at h
  full _ h := by simp [LogStore.filling_new] at h
  oldest p h := absurd h (LogStore.page_new_reclaiming p)
  working h := by rcases h with h | h <;> cases h
  room := Nat.zero_le _

theorem PageLaw.reset : PageLaw State.reset := by
  refine ⟨fun p => ?_, fun p q hp hq => ?_, fun _ p h => absurd h (LogStore.page_new_reclaiming p)⟩
  · change (LogStore.new.page p).lawful
    rw [LogStore.page_new]
    split
    · exact Nat.zero_lt_succ _
    · exact rfl
  · rw [LogStore.page_new_filling hp, LogStore.page_new_filling hq]

theorem MarkLaw.reset : MarkLaw State.reset :=
  ⟨by decide, by rw [show State.reset.log.inOrder = [] from LogStore.inOrder_new]; decide,
    fun p h => absurd h (LogStore.page_new_reclaiming p)⟩

/-- No law says anything of a slot of the empty dispatch table. -/
theorem State.slot_reset_some {i : SlotNo} {d : Delivery} (h : State.reset.slot i = some d) {p : Prop} : p := by
  rw [State.slot_reset] at h
  cases h

theorem ArmLaw.reset : ArmLaw State.reset :=
  ⟨fun b a i k h => (by rw [State.arm_reset] at h; cases h), fun _ _ h => State.slot_reset_some h⟩

theorem BindingLaw.reset : BindingLaw State.reset :=
  ⟨fun _ _ h => State.slot_reset_some h, fun _ _ _ h => State.slot_reset_some h,
    fun b i h => (by rw [State.bay_reset] at h; cases h), fun b i h => (by rw [State.bay_reset] at h; cases h)⟩

theorem DeliveryLaw.reset : DeliveryLaw State.reset :=
  ⟨fun _ _ h => State.slot_reset_some h, fun _ _ _ _ h => State.slot_reset_some h, fun _ => State.slot_reset⟩

theorem AccumulatorLaw.reset : AccumulatorLaw State.reset :=
  ⟨fun _ _ h => State.slot_reset_some h, fun b x o h => by rw [State.arm_reset] at h; cases h⟩

theorem PaperLaw.reset : PaperLaw State.reset :=
  ⟨fun _ _ _ h => State.slot_reset_some h, fun _ _ _ _ _ _ h => State.slot_reset_some h⟩

theorem LinkLaw.reset : LinkLaw State.reset := by
  refine ⟨fun b => ?_, nofun, nofun, nofun⟩
  rw [State.bay_reset]
  exact ⟨rfl, fun _ => rfl, by decide, by decide⟩

theorem OutboxLaw.reset : OutboxLaw State.reset := fun b => by
  rw [State.bay_reset]
  exact BayRecord.outboxLawful_silent rfl

theorem ProductLaw.reset : ProductLaw State.reset := by
  refine ⟨fun k => ?_, fun _ _ h => State.slot_reset_some h, fun b x o h => ?_⟩
  · rw [show State.reset.products.get k = Product.undefined from get_replicate ..]
    simp [Product.lawful, Product.undefined]
  · rw [State.arm_reset] at h
    cases h

/-- Settles O60: the tables are empty, the bays cold, the store new, and the settings at their defaults. -/
theorem resetMeetsEveryLaw : Obligations.ResetMeetsEveryLaw := by
  have started : PortState.started.deferredLaw ∧ PortState.started.serviceLaw := by
    unfold PortState.deferredLaw PortState.serviceLaw
    decide
  refine ⟨by unfold SettingsLaw; decide, ⟨started.1, started.1⟩, ⟨started.2, started.2⟩, by unfold QueueLaw; decide,
    ⟨rfl, rfl⟩, .reset, LogStore.new_ordered, .reset, fun _ _ h => State.slot_reset_some h, .reset,
    fun _ _ h => State.slot_reset_some h, .reset, .reset, .reset, fun _ _ _ h => State.slot_reset_some h, .reset,
    .reset, .reset, .reset, ⟨nofun, fun _ _ h => State.slot_reset_some h⟩, by decide, by decide, nofun⟩

/-! ### A request taken at once -/

/-- A request taken at once leaves what its owner leaves, with the owner's answer on the port. -/
theorem State.request_answered {s x : State} {p : Port} {tag code : Nat} {body : ReqBody} {y : FrameBody}
    (h : s.ready p tag) (hc : (knownCode code && belongsTo p code) = true) (hl : body ≠ .badLength)
    (ho : (s.serving p tag code).owner p tag body = (x, y)) :
    s.request p ⟨tag, code, body⟩ = x.push p ⟨tag, code, y⟩ := by
  rw [State.request_owner h hc hl, ho]
  rfl

/-! ### BOOK -/

theorem badComp_iff {c : BookComp} : badComp c = false ↔ (1 ≤ c.index ∧ c.index ≤ 6)
    ∧ (1 ≤ c.product ∧ c.product ≤ 16) ∧ c.last ≤ 16 ∧ (100 ≤ c.capacity ∧ c.capacity ≤ 40000)
    ∧ (100 ≤ c.planned ∧ c.planned ≤ 40000) ∧ c.planned ≤ c.capacity ∧ c.purge ≤ 1 := by
  simp [badComp, within]
  omega

/-- Check 1 of BOOK fails where a field is out of range (R12). -/
theorem badBook_iff {b : BookBody} : badBook b = false ↔ bookable b := by
  have count : (!within 1 6 b.comps.length) = false ↔ 1 ≤ b.comps.length ∧ b.comps.length ≤ 6 := by simp [within]
  simp only [badBook, bookable, Bool.or_eq_false_iff, badTrip_iff, List.any_eq_false, Bool.not_eq_true, badComp_iff,
    count, decide_eq_false_iff_not, not_lt, Bool.not_eq_false', decide_eq_true_eq, beq_eq_false_iff_ne, ne_eq]
  constructor
  · rintro ⟨⟨⟨⟨⟨hr, hd⟩, hn⟩, hc⟩, hi⟩, h1, h2, h3, h4⟩
    exact ⟨hr, hd, hn, hi, ⟨h1, h2⟩, ⟨h3, h4⟩, hc⟩
  · rintro ⟨hr, hd, hn, hi, ⟨h1, h2⟩, ⟨h3, h4⟩, hc⟩
    exact ⟨⟨⟨⟨⟨hr, hd⟩, hn⟩, hc⟩, hi⟩, h1, h2, h3, h4⟩

/-- A BOOK whose checks pass is accepted (R13). -/
theorem State.book_accepted {s : State} {b : BookBody} {now : Nat} {i : SlotNo} (hb : bookable b)
    (hr : ∀ j d, s.slot j = some d → d.ref ≠ b.ref) (he : ∀ c ∈ b.comps, (s.product c.product).state = .enabled)
    (ht : s.time = some now) (hi : s.freeSlot = some i) (ha : s.log.accepts) :
    s.book b = (s.acceptBook b i now, .done (.booked i (bookingDeadline s.settings now))) := by
  have hall : (b.comps.all fun c => (s.product c.product).state == .enabled) = true := by simpa using he
  simp [State.book, badBook_iff.2 hb, State.find_eq_none hr, hall, ht, hi, LogStore.requesterRefusal_eq ha]

/-- Settles O8: the request reaches its owner at once, which accepts it. -/
theorem bookEntersTheTable : Obligations.BookEntersTheTable := by
  intro s tag b now i hready hb hr he ht hi hl ha
  have accepted := State.book_accepted (s := s.serving .office tag 0x01) hb hr he ht (State.freeSlot_eq hi hl) ha
  exact congrArg Host.Outcome.next ((State.request_answered (body := .book b) hready rfl (by simp)
    accepted).trans rfl)

/-! ### AMEND -/

/-- The trip part of an AMEND is given unless both figures are 0. -/
theorem tripPart_isSome {b : AmendBody} : (tripPart b).isSome = true ↔ b.driving ≠ 0 ∨ b.duty ≠ 0 := by
  unfold tripPart
  split
  · simp_all
  · simp only [Option.isSome_some, true_iff]
    omega

theorem driverPart_isSome {b : AmendBody} : (driverPart b).isSome = true ↔ b.driver ≠ 65535 := by
  unfold driverPart
  split <;> simp_all

/-- Check 1 of AMEND fails where a part is out of range or none is given (R17). -/
theorem badAmend_iff {b : AmendBody} : badAmend b = false ↔
    (b.driving ≠ 0 ∨ b.duty ≠ 0 ∨ b.driver ≠ 65535 ∨ b.changes ≠ [])
      ∧ (b.driving ≠ 0 ∨ b.duty ≠ 0 → (1 ≤ b.driving ∧ b.driving ≤ 900) ∧ b.driving ≤ b.duty ∧ b.duty ≤ 1200)
      ∧ b.changes.length ≤ 6 ∧ (b.changes.map PlanChange.index).Nodup
      ∧ (∀ x ∈ b.changes, 100 ≤ x.planned ∧ x.planned ≤ 40000) ∧ b.driver ≤ 65535 := by
  have trip : ((tripPart b).any fun t => badTrip t.1 t.2) = false ↔
      (b.driving ≠ 0 ∨ b.duty ≠ 0 → (1 ≤ b.driving ∧ b.driving ≤ 900) ∧ b.driving ≤ b.duty ∧ b.duty ≤ 1200) := by
    unfold tripPart
    split
    · simp_all
    · rw [Option.any_some, badTrip_iff]
      omega
  have driver : ((driverPart b).any fun n => decide (65534 < n)) = false ↔ b.driver ≤ 65535 := by
    unfold driverPart
    split
    · simp_all
    · simp
      omega
  have given : ((tripPart b).isNone && (driverPart b).isNone && b.changes.isEmpty) = false ↔
      (b.driving ≠ 0 ∨ b.duty ≠ 0 ∨ b.driver ≠ 65535 ∨ b.changes ≠ []) := by
    have h1 := @tripPart_isSome b
    have h2 := @driverPart_isSome b
    simp only [← Option.not_isSome, Bool.and_eq_false_iff, Bool.not_eq_false', h1, h2, List.isEmpty_eq_false_iff,
      or_assoc]
  have planned : (b.changes.any fun c => !within 100 40000 c.planned) = false ↔
      ∀ x ∈ b.changes, 100 ≤ x.planned ∧ x.planned ≤ 40000 := by simp [within]
  simp only [badAmend, Bool.or_eq_false_iff, trip, driver, given, planned, decide_eq_false_iff_not, not_lt,
    Bool.not_eq_false', decide_eq_true_eq, and_assoc]

/-- An AMEND whose checks pass is accepted (R17). -/
theorem State.amend_accepted {s : State} {b : AmendBody} {i : SlotNo} {d : Delivery} (hd : s.holdsAt i d)
    (hr : d.ref = b.ref) (ho : s.owned d = false) (hb : amendable b d) (ha : s.log.accepts) :
    s.amend b =
      let after := (s.admitEntry d.ref 0 (.amend (tripPart b) (driverPart b) b.changes)).setSlot i (some (d.amend b))
      (after, .done (.amended (after.deliveryView i (d.amend b) false))) := by
  obtain ⟨hgiven, htrip, hlen, hnd, hch, hdr⟩ := hb
  have hbad : badAmend b = false := badAmend_iff.2 ⟨hgiven, fun h => ⟨(htrip h).1, (htrip h).2.1⟩, hlen, hnd,
    fun x hx => (hch x hx).1, by
      by_cases h : b.driver = 65535
      · omega
      · exact (hdr h).1.trans (by omega)⟩
  have hchange : b.changes.any d.badChange = false := List.any_eq_false.2 fun x hx => by
    obtain ⟨-, c, hc, -, hp⟩ := hch x hx
    simp [Delivery.badChange, hc, hp]
  have hstate : d.amendState b = false := by
    simp only [Delivery.amendState, Bool.or_eq_false_iff]
    refine ⟨⟨?_, List.any_eq_false.2 fun x hx => ?_⟩, ?_⟩
    · by_cases h : (tripPart b).isSome = true
      · simp [(htrip (tripPart_isSome.1 h)).2.2]
      · simp [h]
    · obtain ⟨-, c, hc, hs, -⟩ := hch x hx
      simp [hc, hs]
    · by_cases h : (driverPart b).isSome = true
      · simp [(hdr (driverPart_isSome.1 h)).2]
      · simp [h]
  simp [State.amend, hbad, ← hr, State.find_of_holdsAt hd, ho, hchange, hstate, LogStore.requesterRefusal_eq ha]

/-- Settles O9: the request reaches its owner at once, which accepts it; the record is the one amended. -/
theorem amendChangesItsParts : Obligations.AmendChangesItsParts := by
  intro s tag b i d e hready hd hr ho hb ha he
  have hamend : d.amend b = e := by
    subst he
    unfold Delivery.amend tripPart driverPart someDriver
    congr 1
    · by_cases h : b.driver = 65535
      · simp only [h, if_true]
      · simp only [h, if_false]
    · split <;> rfl
    · split <;> rfl
  have accepted := State.amend_accepted (s := s.serving .office tag 0x02) hd hr ho hb ha
  rw [hamend] at accepted
  exact congrArg Host.Outcome.next ((State.request_answered (body := .amend b) hready rfl (by simp)
    accepted).trans rfl)

/-! ### CANCEL -/

theorem Delivery.cancelState_iff {d : Delivery} : d.cancelState = false ↔
    d.state ≠ .loaded ∧ d.state ≠ .held
      ∧ ∀ c ∈ d.comps, c.acc.G = 0 ∧ (c.state = .planned ∨ c.state = .done ∨ c.state = .void) := by
  have armed : ∀ x : CompState, x.armed = false ↔ x = .planned ∨ x = .done ∨ x = .void := fun x => by
    cases x <;> simp [CompState.armed]
  simp [Delivery.cancelState, armed, and_assoc]

/-- A CANCEL whose checks pass is accepted (R19, R20). -/
theorem State.cancel_accepted {s : State} {p : Port} {tag : Nat} {i : SlotNo} {d : Delivery} (hd : s.holdsAt i d)
    (ho : s.owned d = false) (hs : d.cancelState = false) (ha : s.deferrableRefusal p tag = none) :
    s.cancel p tag d.ref =
      ((((s.acceptDeferred p tag 0x03 d.ref 0 (.cancel d.state d.bay)).1.setSlot i
        (some { d with state := .cancelling, bay := none })).dismissBay i d.bay),
        .deferredEntry s.log.nextNumber) := by
  simp only [State.cancel, State.find_of_holdsAt hd, ho, hs, ha]
  rfl

/-- The bay's part of an accepted CANCEL (R20). -/
theorem State.dismissBay_some (s : State) (i : SlotNo) (b : BayNo) :
    s.dismissBay i (some b) = s.setBay b { s.bay b with
      bound := none
      withdrawn := some i
      outbox := if s.polled b = true ∧ (s.bay b).link ≠ .silent then (s.bay b).outbox ++ [.dismiss]
        else (s.bay b).outbox } := by
  simp only [State.dismissBay, State.queueDismiss, State.enqueue_eq, State.bay_setBay_self, State.setBay_setBay]
  rfl

/-- A deferred request in service at the office port, its entry admitted (R172). -/
theorem State.acceptDeferred_office (s : State) (tag code ref driver : Nat) (x : Payload) :
    ((s.serving .office tag code).acceptDeferred .office tag code ref driver x).1 =
      { s with
        log := (s.admitEntry ref driver x).log
        office := { s.office.holding ⟨tag, code, .delivery ref s.log.nextNumber⟩ with
          inService := some (tag, code) } } := rfl

/-- Settles O10: the request reaches its owner at once, which accepts it. -/
theorem cancelWaitsForItsEntry : Obligations.CancelWaitsForItsEntry := by
  intro s tag i d hready hroom hd ho hl hh hc ha
  have accepted := State.cancel_accepted (s := s.serving .office tag 0x03) hd ho
    (Delivery.cancelState_iff.2 ⟨hl, hh, hc⟩) (State.deferrableRefusal_eq hready hroom ha)
  refine congrArg Host.Outcome.next ((State.request_answered (body := .cancel d.ref) hready rfl (by simp)
    accepted).trans ?_)
  rw [State.acceptDeferred_office]
  cases d.bay with
  | none => rfl
  | some b =>
    rw [State.dismissBay_some]
    rfl

/-! ### The end of a session -/

theorem Delivery.isLoaded_false {d : Delivery} : d.isLoaded = false ↔
    ∀ c ∈ d.comps, c.state ≠ .interrupted ∧ (c.state = .done → c.acc.G = 0) := by
  simp only [Delivery.isLoaded, List.any_eq_false]
  refine forall₂_congr fun c _ => ?_
  cases hs : c.state <;> simp

theorem CompState.onPaper_iff (x : CompState) : x.onPaper = true ↔ x = .done ∨ x = .interrupted := by
  cases x <;> simp [CompState.onPaper]

theorem Compartment.voided_interrupted (c : Compartment) :
    ((if c.state = .planned then { c with state := .void } else c : Compartment).state == .interrupted)
      = (c.state == .interrupted) := by
  by_cases h : c.state = .planned
  · rw [if_pos h, h]; rfl
  · rw [if_neg h]

theorem Delivery.paperReadouts_eq (d : Delivery) : d.paperReadouts = d.withReadouts := by
  refine congrArg (fun cs => { d with comps := cs }) (List.map_congr_left fun c _ => ?_)
  simp only [CompState.onPaper_iff]
  rfl

/-- A first issue by a delivery whose slot and bay have been written (R125 to R127). -/
theorem State.firstIssue_eq {s t : State} {i : SlotNo} {e : Delivery} (hp : s.log.paperCounter < 4294967295)
    (ht : t = { s with dispatch := s.dispatch.set i.val (some e) i.isLt, bays := t.bays }) :
    t.firstIssue i e =
      let paper : Paper := ⟨s.log.paperCounter + 1, 1, s.now, e.comps.any fun c => c.state == .interrupted,
        s.paperLines e⟩
      { s with
        dispatch := s.dispatch.set i.val (some { e.withReadouts with paper := some paper }) i.isLt
        bays := t.bays
        log := (State.offer { s with log := { s.log with paperCounter := s.log.paperCounter + 1 } }
          e.ref (e.driver.getD 0) (.paper paper.number 1 paper.provisional paper.lines.length
            (paper.lines.map PaperLine.net).sum (paper.lines.map PaperLine.gross).sum)).log } := by
  have hx : ¬ t.log.papersExhausted = true := by
    rw [ht]
    simpa [LogStore.papersExhausted] using hp
  rw [State.firstIssue, if_neg hx]
  dsimp only
  rw [State.issuePaper, State.offer_frame, Delivery.paperReadouts_eq]
  rw [ht]
  have logged := fun dispatch x => State.offer_log_congr
    (s := { s with log := { s.log with paperCounter := s.log.paperCounter + 1 } })
    (t := { s with
      dispatch := dispatch
      bays := t.bays
      log := { s.log with paperCounter := s.log.paperCounter + 1 } }) rfl rfl rfl rfl e.ref (e.driver.getD 0) x
  simp only [State.setSlot, Vector.set_set]
  rw [logged]
  rfl

/-- The end of a session leaves what R8 and R125 to R127 say. -/
theorem State.endSession_eq {s : State} {i : SlotNo} {d : Delivery} {b : BayNo} (hd : s.slot i = some d)
    (hb : d.bay = some b) : s.endSession i = s.sessionOver i d b := by
  unfold State.endSession State.sessionOver
  simp only [hd, hb]
  by_cases hl : d.isLoaded = true
  · have hn : ¬ ∀ c ∈ d.comps, c.state ≠ .interrupted ∧ (c.state = .done → c.acc.G = 0) := fun h => by
      rw [Delivery.isLoaded_false.2 h] at hl
      cases hl
    have after : d.afterSession = { d with comps := d.voidPlanned, bay := none, state := .loaded } := by
      simp only [Delivery.afterSession, hl, if_true]
    rw [if_pos hl, if_neg hn, after]
    by_cases hp : s.log.paperCounter < 4294967295
    · rw [if_pos hp, State.firstIssue_eq hp rfl]
      have provisional : (d.voidPlanned.any fun c => c.state == .interrupted)
          = d.comps.any fun c => c.state == .interrupted := by
        rw [Delivery.voidPlanned, List.any_map]
        exact congrArg (List.any d.comps) (funext Compartment.voided_interrupted)
      simp only [provisional]
      rfl
    · have exhausted : s.log.papersExhausted = true := by simpa [LogStore.papersExhausted] using hp
      rw [if_neg hp, State.firstIssue]
      exact (if_pos exhausted).trans rfl
  · have hn := Delivery.isLoaded_false.1 (Bool.eq_false_iff.2 hl)
    have after : d.afterSession = { d with comps := d.voidPlanned, bay := none, state := .arrived } := by
      simp only [Delivery.afterSession, hl]
      rfl
    rw [if_neg hl, if_pos hn, after]
    rfl

/-- The end of a session reads nothing of the ports and leaves them. -/
theorem State.sessionOver_office (s : State) (x : PortState) (i : SlotNo) (d : Delivery) (b : BayNo) :
    State.sessionOver { s with office := x } i d b = { s.sessionOver i d b with office := x } := by
  have logged := fun r n p => State.offer_log_congr
    (s := { s with log := { s.log with paperCounter := s.log.paperCounter + 1 } })
    (t := { s with office := x, log := { s.log with paperCounter := s.log.paperCounter + 1 } }) rfl rfl rfl rfl r n p
  unfold State.sessionOver
  dsimp only
  split
  · rfl
  · split
    · rw [logged]
      rfl
    · rfl

/-- The paper with which a session ends: the one issued then, or the one the delivery has. -/
theorem State.paper_sessionOver (s : State) (i : SlotNo) (d : Delivery) (b : BayNo) :
    ∃ e, (s.sessionOver i d b).slot i = some e ∧ e.paper.map (fun p => (p.number, p.version)) =
      if d.isLoaded && !s.log.papersExhausted then some (s.log.paperCounter + 1, 1)
      else d.paper.map fun p => (p.number, p.version) := by
  unfold State.sessionOver
  by_cases hl : d.isLoaded = true
  · rw [if_neg fun h => by rw [Delivery.isLoaded_false.2 h] at hl; cases hl]
    by_cases hp : s.log.paperCounter < 4294967295
    · rw [if_pos hp]
      exact ⟨_, State.slot_setSlot_self .., by simp [hl, LogStore.papersExhausted, hp]⟩
    · rw [if_neg hp]
      exact ⟨_, State.slot_setSlot_self .., by simp [LogStore.papersExhausted, hp]⟩
  · rw [if_pos (Delivery.isLoaded_false.1 (Bool.eq_false_iff.2 hl))]
    exact ⟨_, State.slot_setSlot_self .., by simp [hl]⟩

/-- A DETACH whose checks pass is accepted (R22). -/
theorem State.detach_accepted {s : State} {i : SlotNo} {d : Delivery} {b : BayNo} (hd : s.holdsAt i d)
    (ho : s.owned d = false) (hs : d.state = .atBay) (hb : d.bay = some b) (hl : (s.bay b).link = .silent)
    (ha : s.log.accepts) :
    s.detach d.ref = ((s.admitEntry d.ref 0 (s.detachPayload d)).sessionOver i d b,
      .done (.detached d.afterSession.state (if d.isLoaded && !s.log.papersExhausted then
        some (s.log.paperCounter + 1, 1) else d.paper.map fun p => (p.number, p.version)))) := by
  have hstate : s.detachState d = false := by simp [State.detachState, hs, hb, hl]
  have ended := State.endSession_eq (s := s.admitEntry d.ref 0 (s.detachPayload d)) hd.1 hb
  obtain ⟨e, he, hpaper⟩ := State.paper_sessionOver (s.admitEntry d.ref 0 (s.detachPayload d)) i d b
  have counter : (s.admitEntry d.ref 0 (s.detachPayload d)).log.paperCounter = s.log.paperCounter :=
    LogStore.admit_paperCounter ..
  simp only [State.detach, State.find_of_holdsAt hd, ho, hstate, LogStore.requesterRefusal_eq ha, ended, he, hpaper,
    LogStore.papersExhausted, counter]
  rfl

/-- Settles O11: the request reaches its owner at once, which accepts it; the three cases are those of the paper. -/
theorem detachEndsTheSession : Obligations.DetachEndsTheSession := by
  intro s tag i d b hready hd ho hs hb hl ha
  have accepted := State.detach_accepted (s := s.serving .office tag 0x04) hd ho hs hb hl ha
  have answered : exec (.detach .office tag d.ref) s = .next
      { (s.admitEntry d.ref 0 (s.detachPayload d)).sessionOver i d b with
        office := s.office.respond tag 0x04 (.done (.detached d.afterSession.state
          (if d.isLoaded && !s.log.papersExhausted then some (s.log.paperCounter + 1, 1)
            else d.paper.map fun p => (p.number, p.version)))) } := by
    refine congrArg Host.Outcome.next ((State.request_answered (body := .detach d.ref) hready rfl (by simp)
      accepted).trans ?_)
    have ended := State.sessionOver_office (s.admitEntry d.ref 0 (s.detachPayload d))
      { s.office with inService := some (tag, 0x04) } i d b
    exact (congrArg (fun x : State => x.push .office _) ended).trans rfl
  rw [answered]
  simp only [State.detachPayload, State.numberToIssue, Delivery.afterSession, hb, LogStore.papersExhausted]
  refine ⟨fun h => ?_, fun h => ?_⟩
  · have notInterrupted : d.comps.countP (fun c => c.state == .interrupted) = 0 :=
      List.countP_eq_zero.2 fun c hc => by simpa using (h c hc).1
    simp [Delivery.isLoaded_false.2 h, notInterrupted]
  · have hload : d.isLoaded = true := by
      rw [← Bool.not_eq_false, Delivery.isLoaded_false]
      intro hn
      obtain ⟨c, hc, hi | ⟨hdone, hG⟩⟩ := h
      · exact (hn c hc).1 hi
      · exact absurd ((hn c hc).2 hdone) hG.ne'
    refine ⟨fun hp => ?_, fun hp => ?_⟩
    · simp [hload, hp]
    · simp [hload, hp]

/-! ### FINISH -/

theorem decodeAnswer_finish (b : BayNo) : decodeAnswer b (answerWords b .finish) = some .finish := by
  revert b
  decide +kernel

/-- A valid answer of the visited bay, not SILENT: taken in the state that has heard it, and the exchange is over. -/
theorem exec_answerReceived {s : State} {v : Visit} {sent : Option Message} {ws : List RxWord} {a : Answer}
    (h : s.exchanging v sent) (hl : (s.bay v.bay).link ≠ .silent) (hd : decodeAnswer v.bay ws = some a) :
    exec (.answerReceived ws) s = .next (((s.heard v sent).takeAnswer v.bay a).exchangeOver v) := by
  obtain ⟨hp, hv, hdrop, e, he, rfl⟩ := h
  have running : s.running = true := by simp [State.running, hp]
  change execAnswerReceived ws s = _
  simp only [execAnswerReceived, hv, he, running, if_true, State.endByAnswer, hdrop, hd, State.validAnswer,
    State.answered_removeSent hl, State.afterExchange_eq hdrop]
  rfl

/-- A VERDICT for a bay that can be told, and the exchange is over (R74). -/
theorem State.exchangeOver_queueVerdict {s : State} {v : Visit} (hp : s.polled v.bay = true)
    (hl : (s.bay v.bay).link ≠ .silent) (q : BayRequest) (x : Option Arm) (r : Option DenyReason) :
    (s.queueVerdict v.bay q x r).exchangeOver v = s.judged v q x r := by
  rw [State.queueVerdict, State.enqueue_told hp hl]
  rfl

theorem State.takes_finish {r : BayRecord} (h : ∀ m ∈ r.outbox, m.isVerdict = false) : r.takes false = true :=
  BayRecord.takes_iff.2 ⟨List.any_eq_false.2 fun m hm => by simp [h m hm], nofun⟩

/-- The end of a session at a bay leaves the settings, and of the bay's record all but its binding. -/
theorem State.sessionOver_bay (s : State) (i : SlotNo) (d : Delivery) (b : BayNo) :
    (s.sessionOver i d b).settings = s.settings ∧ (s.sessionOver i d b).bay b = { s.bay b with bound := none } := by
  unfold State.sessionOver
  dsimp only
  split
  · exact ⟨rfl, State.bay_setBay_self ..⟩
  · split
    · exact ⟨rfl, State.bay_setBay_self ..⟩
    · exact ⟨rfl, State.bay_setBay_self ..⟩

/-- Settles O33: the request is taken in the state that has heard it, and its VERDICT queued. -/
theorem finishesEndTheSession : Obligations.FinishesEndTheSession := by
  rintro s u v sent r hex hpolled hlink rfl rfl hv
  have hbay : (s.heard v sent).bay v.bay = (s.bay v.bay).heard sent := State.bay_setBay_self ..
  have taken : exec (.answerReceived (answerWords v.bay .finish)) s =
      .next (((s.heard v sent).takeFinish v.bay).exchangeOver v) := by
    rw [exec_answerReceived hex hlink (decodeAnswer_finish _), State.takeAnswer, hbay, if_pos (State.takes_finish hv)]
  have denied : ∀ x, ((s.heard v sent).deny v.bay .finish none x).exchangeOver v =
      (s.heard v sent).judged v .finish none (some x) := fun x =>
    State.exchangeOver_queueVerdict (s := s.heard v sent) hpolled (by rw [hbay]; exact nofun) _ _ _
  rw [taken]
  refine ⟨fun hb => ?_, fun i d hb hd => ⟨fun ho => ?_, fun ho hc => ?_, fun ho hbay' hc => ?_⟩⟩
  · simp only [State.takeFinish, hbay, hb, denied]
  · have ho' : (s.heard v sent).owned d = true := ho
    have hd' : (s.heard v sent).slot i = some d := hd
    simp only [State.takeFinish, hbay, hb, hd', ho', if_true, denied]
  · have ho' : (s.heard v sent).owned d = false := ho
    have hd' : (s.heard v sent).slot i = some d := hd
    have active : (d.comps.any fun c => c.state.active) = true := by
      obtain ⟨c, hm, hs⟩ := hc
      exact List.any_eq_true.2 ⟨c, hm, by rcases hs with hs | hs | hs <;> rw [hs] <;> rfl⟩
    simp only [State.takeFinish, hbay, hb, hd', ho', active, Bool.false_eq_true, if_true, if_false, denied]
  · have ho' : (s.heard v sent).owned d = false := ho
    have hd' : (s.heard v sent).slot i = some d := hd
    have inactive : (d.comps.any fun c => c.state.active) = false := List.any_eq_false.2 fun c hm => by
      obtain ⟨h1, h2, h3⟩ := hc c hm
      cases hs : c.state <;> simp_all [CompState.active]
    obtain ⟨hset, hover⟩ := State.sessionOver_bay (s.heard v sent) i d v.bay
    simp only [State.takeFinish, hbay, hb, hd', ho', inactive, Bool.false_eq_true, if_false,
      State.endSession_eq hd' hbay']
    rw [State.exchangeOver_queueVerdict]
    · rw [State.polled, hset]
      exact hpolled
    · rw [hover, hbay]
      exact nofun

/-! ### Refusals in order -/

/-- A check that is passed over. -/
theorem firstFailing.skip {p : Prop} {a y : FrameBody} {rest : List (Prop × FrameBody)}
    (h : firstFailing ((p, a) :: rest) y) (hp : ¬ p) : firstFailing rest y :=
  (h.resolve_left fun h => hp h.1).2

/-- A check that fails gives its answer. -/
theorem firstFailing.answer {p : Prop} {a y : FrameBody} {rest : List (Prop × FrameBody)}
    (h : firstFailing ((p, a) :: rest) y) (hp : p) : y = a :=
  (h.resolve_right fun h => h.1 hp).2

/-- A check made as the first of the list: it answers, or the checks after it do. -/
theorem firstFailing.ite {p q : Prop} [Decidable q] {s : State} {a y : FrameBody} {rest : List (Prop × FrameBody)}
    {x : State × FrameBody} (h : firstFailing ((p, a) :: rest) y) (hpq : p ↔ q)
    (hx : ¬ p → firstFailing rest y → x = (s, y)) : (if q then (s, a) else x) = (s, y) := by
  by_cases hp : p
  · rw [if_pos (hpq.1 hp), h.answer hp]
  · rw [if_neg (mt hpq.2 hp)]
    exact hx hp (h.skip hp)

theorem State.holdsOne_iff {s : State} {ref : Nat} {i : SlotNo} {d : Delivery} (hu : s.refsDiffer)
    (hf : s.find ref = some (i, d)) {P : Delivery → Prop} : s.holdsOne ref P ↔ P d := by
  obtain ⟨hd, hr⟩ := State.find_some hf
  constructor
  · rintro ⟨j, e, he, her, hp⟩
    obtain rfl := hu j i e d he hd (her.trans hr.symm)
    rwa [Option.some.inj (hd.symm.trans he)]
  · exact fun hp => ⟨i, d, hd, hr, hp⟩

theorem State.not_holdsOne {s : State} {ref : Nat} (hf : s.find ref = none) (P : Delivery → Prop) :
    ¬ s.holdsOne ref P := fun ⟨j, e, he, her, _⟩ => State.find_none hf j e he her

theorem LogStore.requesterRefusal_failing {l : LogStore} {y : FrameBody} (h : firstFailing l.requesterChecks y) :
    l.requesterRefusal = some y := by
  unfold LogStore.requesterRefusal
  by_cases hq : 16 ≤ l.queue.length
  · rw [h.answer hq]
    exact if_pos hq
  · have hf : l.freeSpace < 65 := by_contra fun hf => (h.skip hq).skip hf
    rw [(h.skip hq).answer hf]
    exact (if_neg hq).trans (if_pos hf)

theorem State.deferrableRefusal_failing {s : State} {p : Port} {tag : Nat} {y : FrameBody}
    (h : firstFailing ((s.port p).deferralChecks tag ++ s.log.requesterChecks) y) :
    s.deferrableRefusal p tag = some y := by
  have used : ((s.port p).deferred.any fun e => e.tag == tag) = true ↔ ∃ e ∈ (s.port p).deferred, e.tag = tag := by
    simp
  unfold State.deferrableRefusal PortState.deferralRefusal
  by_cases ht : ∃ e ∈ (s.port p).deferred, e.tag = tag
  · rw [if_pos (used.2 ht), h.answer ht]
  · rw [if_neg (mt used.1 ht)]
    by_cases hl : 8 ≤ (s.port p).deferred.length
    · rw [if_pos hl, (h.skip ht).answer hl]
    · rw [if_neg hl]
      exact LogStore.requesterRefusal_failing ((h.skip ht).skip hl)

theorem State.freeSlot_none {s : State} : s.freeSlot = none ↔ ∀ i, s.slot i ≠ none := by
  simp [State.freeSlot, List.find?_eq_none]

theorem State.book_refused {s : State} {b : BookBody} {y : FrameBody} (hu : s.refsDiffer)
    (h : firstFailing (s.bookChecks b ++ s.log.requesterChecks) y) : s.book b = (s, y) := by
  have bad : ¬ bookable b ↔ badBook b = true := by rw [← badBook_iff, Bool.not_eq_false]
  refine firstFailing.ite h bad fun _ h => ?_
  cases hf : s.find b.ref with
  | some x =>
    dsimp only
    by_cases ho : s.owned x.2 = true
    · rw [h.answer ((State.holdsOne_iff hu hf).2 ho), if_pos ho]
    · rw [(h.skip (mt (State.holdsOne_iff hu hf).1 ho)).answer ((State.holdsOne_iff hu hf).2 trivial), if_neg ho]
  | none =>
    have unusable : (∃ c ∈ b.comps, (s.product c.product).state ≠ .enabled) ↔
        (!b.comps.all fun c => (s.product c.product).state == .enabled) = true := by simp
    refine firstFailing.ite ((h.skip (State.not_holdsOne hf _)).skip (State.not_holdsOne hf _)) unusable fun _ h => ?_
    cases ht : s.time with
    | none => rw [h.answer ht]
    | some now =>
      have h := h.skip (by rw [ht]; exact nofun)
      cases hi : s.freeSlot with
      | none => rw [h.answer (State.freeSlot_none.1 hi)]
      | some i =>
        have h := h.skip fun hn => by rw [State.freeSlot_none.2 hn] at hi; cases hi
        rw [LogStore.requesterRefusal_failing h]

/-- Check 1 of AMEND, as R17 words it. -/
theorem badAmend_eq_true {b : AmendBody} : ((b.driving = 0 ∧ b.duty = 0 ∧ b.driver = 65535 ∧ b.changes = [])
      ∨ ((b.driving ≠ 0 ∨ b.duty ≠ 0)
        ∧ ¬ ((1 ≤ b.driving ∧ b.driving ≤ 900) ∧ b.driving ≤ b.duty ∧ b.duty ≤ 1200))
      ∨ 6 < b.changes.length ∨ ¬ (b.changes.map PlanChange.index).Nodup
      ∨ (∃ x ∈ b.changes, x.planned < 100 ∨ 40000 < x.planned) ∨ 65535 < b.driver) ↔ badAmend b = true := by
  have planned : (∃ x ∈ b.changes, x.planned < 100 ∨ 40000 < x.planned) ↔
      ¬ ∀ x ∈ b.changes, 100 ≤ x.planned ∧ x.planned ≤ 40000 := by
    simp only [not_forall, not_and_or, not_le, exists_prop]
  rw [← Bool.not_eq_false, badAmend_iff, planned]
  simp only [not_and_or, not_or, not_not, Classical.not_imp, not_le, ne_eq]

theorem Delivery.badChange_iff {d : Delivery} {x : PlanChange} : d.badChange x = true ↔
    ∀ c, d.comp x.index = some c → c.capacity < x.planned := by
  unfold Delivery.badChange
  cases d.comp x.index <;> simp

theorem Delivery.amendState_iff {d : Delivery} {b : AmendBody} :
    (((b.driving ≠ 0 ∨ b.duty ≠ 0) ∧ d.state ∉ [.booked, .arrived, .atBay, .loaded, .held])
      ∨ (∃ x ∈ b.changes, ∃ c, d.comp x.index = some c ∧ c.state ≠ .planned)
      ∨ (b.driver ≠ 65535 ∧ d.state ≠ .booked)) ↔ d.amendState b = true := by
  have owning : d.state.owning = true ↔ d.state ∉ [.booked, .arrived, .atBay, .loaded, .held] := by
    cases d.state <;> simp [DelState.owning]
  simp only [Delivery.amendState, Bool.or_eq_true, Bool.and_eq_true, tripPart_isSome, driverPart_isSome, owning,
    bne_iff_ne, List.any_eq_true, Option.any_eq_true, or_assoc]

theorem State.amend_refused {s : State} {b : AmendBody} {y : FrameBody} (hu : s.refsDiffer)
    (h : firstFailing (s.amendChecks b ++ s.log.requesterChecks) y) : s.amend b = (s, y) := by
  refine firstFailing.ite h badAmend_eq_true fun _ h => ?_
  cases hf : s.find b.ref with
  | none => rw [h.answer (State.not_holdsOne hf _)]
  | some x =>
    have change : (∃ z ∈ b.changes, ∀ c, x.2.comp z.index = some c → c.capacity < z.planned) ↔
        b.changes.any x.2.badChange = true := by
      simp only [List.any_eq_true, Delivery.badChange_iff]
    refine firstFailing.ite (h.skip (not_not.2 ((State.holdsOne_iff hu hf).2 trivial))) (State.holdsOne_iff hu hf)
      fun _ h => ?_
    refine firstFailing.ite h ((State.holdsOne_iff hu hf).trans change) fun _ h => ?_
    refine firstFailing.ite h ((State.holdsOne_iff hu hf).trans Delivery.amendState_iff) fun _ h => ?_
    rw [LogStore.requesterRefusal_failing h]

theorem Delivery.cancelState_eq_true {d : Delivery} : (d.state = .loaded ∨ d.state = .held ∨ ∃ c ∈ d.comps,
    0 < c.acc.G ∨ c.state ∈ [.permitted, .flowing, .stopping, .interrupted]) ↔ d.cancelState = true := by
  have armed : ∀ x : CompState, x.armed = true ↔ x ∈ [.permitted, .flowing, .stopping, .interrupted] := fun x => by
    cases x <;> simp [CompState.armed]
  simp only [Delivery.cancelState, Bool.or_eq_true, beq_iff_eq, List.any_eq_true, decide_eq_true_eq, armed, or_assoc]

theorem State.cancel_refused {s : State} {p : Port} {tag ref : Nat} {y : FrameBody} (hu : s.refsDiffer)
    (h : firstFailing (s.cancelChecks ref ++ (s.port p).deferralChecks tag ++ s.log.requesterChecks) y) :
    s.cancel p tag ref = (s, y) := by
  rw [List.append_assoc] at h
  unfold State.cancel
  cases hf : s.find ref with
  | none => rw [h.answer (State.not_holdsOne hf _)]
  | some x =>
    refine firstFailing.ite (h.skip (not_not.2 ((State.holdsOne_iff hu hf).2 trivial))) (State.holdsOne_iff hu hf)
      fun _ h => ?_
    refine firstFailing.ite h ((State.holdsOne_iff hu hf).trans Delivery.cancelState_eq_true) fun _ h => ?_
    rw [State.deferrableRefusal_failing h]

theorem State.detachState_eq_true {s : State} {d : Delivery} :
    ¬ (d.state = .atBay ∧ ∃ b, d.bay = some b ∧ (s.bay b).link = .silent) ↔ s.detachState d = true := by
  unfold State.detachState
  cases d.bay <;> simp [imp_iff_not_or]

theorem State.detach_refused {s : State} {ref : Nat} {y : FrameBody} (hu : s.refsDiffer)
    (h : firstFailing (s.detachChecks ref ++ s.log.requesterChecks) y) : s.detach ref = (s, y) := by
  unfold State.detach
  cases hf : s.find ref with
  | none => rw [h.answer (State.not_holdsOne hf _)]
  | some x =>
    refine firstFailing.ite (h.skip (not_not.2 ((State.holdsOne_iff hu hf).2 trivial))) (State.holdsOne_iff hu hf)
      fun _ h => ?_
    refine firstFailing.ite h ((State.holdsOne_iff hu hf).trans State.detachState_eq_true) fun _ h => ?_
    rw [LogStore.requesterRefusal_failing h]

/-- The sets that an OVERRIDE can name are those of five bits (section 11.1). -/
theorem ofOverrideMask_none {n : Nat} : HoldSet.ofOverrideMask n = none ↔ 32 ≤ n := by
  unfold HoldSet.ofOverrideMask
  split <;> simp_all

theorem State.override_refused {s : State} {p : Port} {tag ref set sup : Nat} {y : FrameBody} (hu : s.refsDiffer)
    (h : firstFailing (s.overrideChecks ref set sup ++ (s.port p).deferralChecks tag ++ s.log.requesterChecks) y) :
    s.override p tag ref set sup = (s, y) := by
  rw [List.append_assoc] at h
  unfold State.override
  cases hm : HoldSet.ofOverrideMask set with
  | none => rw [h.answer (.inr (.inr (ofOverrideMask_none.1 hm)))]
  | some new =>
    have small : ¬ 32 ≤ set := fun hs => by rw [ofOverrideMask_none.2 hs] at hm; cases hm
    refine firstFailing.ite h (by simp [small]) fun _ h => ?_
    cases hf : s.find ref with
    | none => rw [h.answer (State.not_holdsOne hf _)]
    | some x =>
      refine firstFailing.ite (h.skip (not_not.2 ((State.holdsOne_iff hu hf).2 trivial))) (State.holdsOne_iff hu hf)
        fun _ h => ?_
      refine firstFailing.ite h (State.holdsOne_iff hu hf) fun _ h => ?_
      rw [State.deferrableRefusal_failing h]

/-- A request whose owner refuses it, at a free port. -/
theorem State.request_refused {s : State} {p : Port} {tag code : Nat} {body : ReqBody} {y : FrameBody}
    (h : s.portFree p) (hc : (knownCode code && belongsTo p code) = true) (hl : body ≠ .badLength)
    (ht : deferrable code = true ∨ ∀ e ∈ (s.port p).deferred, e.tag ≠ tag)
    (ho : (s.serving p tag code).owner p tag body = (s.serving p tag code, y)) :
    s.request p ⟨tag, code, body⟩ = s.responded p tag code y := by
  rw [State.request_served h.1 h.2.2.1 h.2.2.2 (State.portRefusal_none h.1 hc hl (.inl h.2.1) ht), ho,
    State.answer_unchanged]

/-- Settles O6: each request reaches its owner, whose checks are those of its rule. -/
theorem officeRequestsAreRefusedInOrder : Obligations.OfficeRequestsAreRefusedInOrder := by
  intro s tag y hfree hu
  refine ⟨fun b ht h => ?_, fun b ht h => ?_, fun ref h => ?_, fun ref ht h => ?_, fun ref set sup h => ?_⟩
  · exact congrArg Host.Outcome.next (State.request_refused (body := .book b) hfree rfl (by simp) (.inr ht)
      (State.book_refused (s := s.serving .office tag 0x01) hu h))
  · exact congrArg Host.Outcome.next (State.request_refused (body := .amend b) hfree rfl (by simp) (.inr ht)
      (State.amend_refused (s := s.serving .office tag 0x02) hu h))
  · exact congrArg Host.Outcome.next (State.request_refused (body := .cancel ref) hfree rfl (by simp) (.inl rfl)
      (State.cancel_refused (s := s.serving .office tag 0x03) (p := .office) hu h))
  · exact congrArg Host.Outcome.next (State.request_refused (body := .detach ref) hfree rfl (by simp) (.inr ht)
      (State.detach_refused (s := s.serving .office tag 0x04) hu h))
  · exact congrArg Host.Outcome.next (State.request_refused (body := .override ref set sup) hfree rfl (by simp)
      (.inl rfl) (State.override_refused (s := s.serving .office tag 0x05) (p := .office) hu h))

/-! ### Booking deadlines reached in slot order -/

theorem State.expiriesAdmitted_cons {s : State} {i : SlotNo} {d : Delivery} (hd : s.slot i = some d)
    (is : List SlotNo) (u : State) : s.expiriesAdmitted (i :: is) u =
      s.expiriesAdmitted is (u.admitEntry d.ref 0 (.expire d.deadline d.vehicle)) := by
  simp only [State.expiriesAdmitted, List.foldl_cons, hd]

/-- The log after expiries depends on the log before them, the clocks and the phase alone. -/
theorem State.expiriesAdmitted_log_congr {s u v : State} (is : List SlotNo) (hl : v.log = u.log)
    (hp : v.phase = u.phase) (he : v.elapsed = u.elapsed) (ht : v.time = u.time) :
    (s.expiriesAdmitted is v).log = (s.expiriesAdmitted is u).log := by
  induction is generalizing u v with
  | nil => exact hl
  | cons i is ih =>
    simp only [State.expiriesAdmitted, List.foldl_cons] at ih ⊢
    cases s.slot i with
    | none => exact ih hl hp he ht
    | some d => exact ih (State.admit_log_congr hl hp he ht ..) hp he ht

/-- What the reaching of the deadlines of the slots `due` leaves of `u`, with the records of `s`: the first `n` are
taken, up to the first whose entry is not admitted (R14, R15). -/
structure State.Expired (s u t : State) (due : List SlotNo) (n : Nat) : Prop where
  frame : t = { u with dispatch := t.dispatch, log := (s.expiriesAdmitted (due.take n) u).log }
  count : n ≤ due.length
  admitted : ∀ k, k < n → (s.expiriesAdmitted (due.take k) u).log.admitsAutomatic = true
  stopped : n < due.length → t.log.admitsAutomatic = false
  taken : ∀ i ∈ due.take n, t.slot i = (s.slot i).map fun d => { d with state := .expiring }
  kept : ∀ i, i ∉ due.take n → t.slot i = u.slot i

theorem State.Expired.zero (s u : State) {due : List SlotNo} (h : due ≠ [] → u.log.admitsAutomatic = false) :
    s.Expired u u due 0 where
  frame := rfl
  count := Nat.zero_le _
  admitted := nofun
  stopped hn := h (List.ne_nil_of_length_pos hn)
  taken := nofun
  kept _ _ := rfl

/-- A deadline not reached, or one whose entry is not admitted, changes nothing. -/
theorem State.expireSlot_of_not {s : State} {i : SlotNo}
    (h : ∀ d, s.slot i = some d → ¬ (d.due s.now = true ∧ s.log.admitsAutomatic = true)) : s.expireSlot i = s := by
  unfold State.expireSlot
  split
  · rfl
  · exact if_neg (h _ ‹_›)

/-- While the queue admits no entry, no delivery expires. -/
theorem State.expireSlots_full {u : State} (h : u.log.admitsAutomatic = false) (is : List SlotNo) :
    is.foldl State.expireSlot u = u := by
  induction is with
  | nil => rfl
  | cons i is ih =>
    rw [List.foldl_cons, State.expireSlot_of_not fun d _ hd => by simp [h] at hd]
    exact ih

/-- The first due delivery taken, and then the others. -/
theorem State.Expired.cons {s u t : State} {i : SlotNo} {d : Delivery} {due : List SlotNo} {n : Nat}
    (hd : s.slot i = some d) (hi : i ∉ due) (ha : u.log.admitsAutomatic = true)
    (h : s.Expired ((u.admitEntry d.ref 0 (.expire d.deadline d.vehicle)).setSlot i
      (some { d with state := .expiring })) t due n) : s.Expired u t (i :: due) (n + 1) := by
  have logs : ∀ is, (s.expiriesAdmitted is ((u.admitEntry d.ref 0 (.expire d.deadline d.vehicle)).setSlot i
      (some { d with state := .expiring }))).log = (s.expiriesAdmitted (i :: is) u).log := fun is => by
    rw [State.expiriesAdmitted_cons hd]
    exact State.expiriesAdmitted_log_congr is rfl rfl rfl rfl
  constructor
  · have hf := h.frame
    rw [logs] at hf
    exact hf
  · exact Nat.succ_le_succ h.count
  · rintro (_ | k) hk
    · exact ha
    · rw [List.take_succ_cons, ← logs]
      exact h.admitted k (Nat.lt_of_succ_lt_succ hk)
  · exact fun hn => h.stopped (Nat.lt_of_succ_lt_succ hn)
  · intro j hj
    rw [List.take_succ_cons] at hj
    rcases List.mem_cons.1 hj with rfl | hj
    · rw [h.kept j fun hm => hi (List.mem_of_mem_take hm), State.slot_setSlot_self, hd]
      rfl
    · exact h.taken j hj
  · intro j hj
    rw [List.take_succ_cons, List.mem_cons, not_or] at hj
    rw [h.kept j hj.2, State.slot_setSlot, if_neg hj.1]
    rfl

/-- Deadlines reached in the order of a list of slots. -/
theorem State.expireSlots_eq {s : State} (now : Nat) (is : List SlotNo) (hnd : is.Nodup) (u : State)
    (hnow : u.now = now) (hs : ∀ i ∈ is, u.slot i = s.slot i) :
    ∃ n, s.Expired u (is.foldl State.expireSlot u) (is.filter fun i => (s.slot i).any (Delivery.due now)) n := by
  induction is generalizing u with
  | nil => exact ⟨0, .zero s u (absurd rfl)⟩
  | cons i is ih =>
    obtain ⟨hi, hnd'⟩ := List.nodup_cons.1 hnd
    have later : ∀ j ∈ is, u.slot j = s.slot j := fun j hj => hs j (List.mem_cons_of_mem _ hj)
    rw [List.foldl_cons]
    by_cases hdue : (s.slot i).any (Delivery.due now) = true
    · rw [List.filter_cons_of_pos (by exact hdue)]
      obtain ⟨d, hd, hdd⟩ := (Option.any_eq_true ..).1 hdue
      cases ha : u.log.admitsAutomatic with
      | false =>
        rw [State.expireSlot_of_not fun e _ he => by simp [ha] at he, State.expireSlots_full ha]
        exact ⟨0, .zero s u fun _ => ha⟩
      | true =>
        have taken : u.expireSlot i = (u.admitEntry d.ref 0 (.expire d.deadline d.vehicle)).setSlot i
            (some { d with state := .expiring }) := by
          simp only [State.expireSlot, hs i (List.mem_cons_self ..), hd]
          exact if_pos ⟨by rw [hnow]; exact hdd, ha⟩
        rw [taken]
        obtain ⟨n, hn⟩ := ih hnd' ((u.admitEntry d.ref 0 (.expire d.deadline d.vehicle)).setSlot i
          (some { d with state := .expiring })) hnow fun j hj => by
            rw [State.slot_setSlot, if_neg (ne_of_mem_of_not_mem hj hi)]
            exact later j hj
        exact ⟨n + 1, .cons hd (fun hm => hi (List.mem_filter.1 hm).1) ha hn⟩
    · rw [List.filter_cons_of_neg (by exact hdue), State.expireSlot_of_not fun d hd h => hdue ?_]
      · exact ih hnd' u hnow later
      · rw [← hs i (List.mem_cons_self ..), hd]
        exact hnow ▸ h.1

/-- Terminal time becomes a value, and the deadlines that it meets or passes are reached. -/
theorem State.moveTime_eq {s v : State} (hs : ∀ i, v.slot i = s.slot i) (value : Nat) :
    ∃ n, s.Expired { v with time := some value } (v.moveTime value)
      ((List.finRange 16).filter fun i => (s.slot i).any (Delivery.due value)) n :=
  State.expireSlots_eq value _ (List.nodup_finRange 16) { v with time := some value } rfl fun i _ => hs i

/-- Settles O12: the advance moves terminal time, and reaches deadlines only while the part runs. -/
theorem timeReachesBookingDeadlines : Obligations.TimeReachesBookingDeadlines := by
  intro s
  refine ⟨?_, fun now ht hlt => ⟨fun hp => ?_, fun hp due u hdue hu => ?_⟩⟩
  · rintro (ht | ht)
    · exact congrArg Host.Outcome.next (by simp only [State.advanceTime, ht])
    · exact congrArg Host.Outcome.next (by simp [State.advanceTime, ht, Config.lastTime])
  · exact congrArg Host.Outcome.next (by simp [State.advanceTime, ht, Config.lastTime, hlt, hp])
  · obtain ⟨n, hn⟩ := State.moveTime_eq (v := s) (fun _ => rfl) (now + 1)
    subst hdue hu
    exact ⟨n, s.moveTime (now + 1),
      congrArg Host.Outcome.next (by simp [State.advanceTime, ht, Config.lastTime, hlt, hp]),
      hn.frame, hn.count, hn.admitted, hn.stopped, hn.taken, hn.kept⟩

/-! ### TIME_SET -/

theorem State.timeSet_refused {s : State} {value : Nat} {y : FrameBody}
    (h : firstFailing (s.timeSetChecks value ++ s.log.requesterChecks) y) : s.timeSet value = (s, y) := by
  have backwards : (∃ now, s.time = some now ∧ value < now) ↔ (s.time.any fun now => decide (value < now)) = true := by
    simp only [Option.any_eq_true, decide_eq_true_eq]
  refine firstFailing.ite h Iff.rfl fun _ h => firstFailing.ite h backwards fun _ h => ?_
  rw [LogStore.requesterRefusal_failing h]

/-- A TIME_SET whose checks pass: its entry is admitted at the old time, and a forward step moves the time. -/
theorem State.timeSet_accepted {s x : State} {value : Nat} (hv : 0 < value) (ha : s.log.accepts)
    (ht : ∀ now, s.time = some now → now ≤ value)
    (hx : x = if s.time = some value then s.admitEntry 0 0 (.timeSet value (s.time.map fun now => value - now))
      else (s.admitEntry 0 0 (.timeSet value (s.time.map fun now => value - now))).moveTime value) :
    s.timeSet value = (x, .done (.timeSet value (value / Config.daySeconds))) := by
  have forward : (s.time.any fun now => decide (value < now)) = false := by
    rw [Bool.eq_false_iff]
    intro h
    obtain ⟨now, hn, hlt⟩ := (Option.any_eq_true ..).1 h
    exact absurd (of_decide_eq_true hlt) (not_lt.2 (ht now hn))
  simp [State.timeSet, hv.ne', forward, LogStore.requesterRefusal_eq ha, hx]

/-- Settles O19: TIME_SET reaches its owner, and a forward step reaches deadlines as the advance of time does. -/
theorem timeSetMovesForwardOnly : Obligations.TimeSetMovesForwardOnly := by
  intro s tag value hready
  obtain ⟨hp, hf, hs, hq, ht⟩ := hready
  have hready : s.ready .office tag := ⟨hp, hf, hs, hq, ht⟩
  refine ⟨fun y h => ?_, fun hv ha htime => ?_, fun hv ha htime due hdue u hu => ?_⟩
  · exact congrArg Host.Outcome.next (State.request_refused (body := .timeSet value) ⟨hp, hf, hs, hq⟩ rfl (by simp)
      (.inr ht) (State.timeSet_refused (s := s.serving .office tag 0x0F) h))
  · have accepted := State.timeSet_accepted (s := s.serving .office tag 0x0F)
      (x := (s.serving .office tag 0x0F).admitEntry 0 0 (.timeSet value (some 0))) hv ha
      (fun now hn => (Option.some.inj (hn.symm.trans htime)).le) ?_
    · exact congrArg Host.Outcome.next ((State.request_answered (body := .timeSet value) hready rfl (by simp)
        accepted).trans rfl)
    · have htime' : (s.serving .office tag 0x0F).time = some value := htime
      rw [if_pos htime', htime', Option.map_some, Nat.sub_self]
  · obtain ⟨v, hv'⟩ : ∃ v, v = (s.serving .office tag 0x0F).admitEntry 0 0
        (.timeSet value (s.time.map fun now => value - now)) := ⟨_, rfl⟩
    obtain ⟨x, hx⟩ : ∃ x, x = v.moveTime value := ⟨_, rfl⟩
    have accepted := State.timeSet_accepted (s := s.serving .office tag 0x0F) (x := x) hv ha
      (fun now hn => (htime now hn).le) (by
        have moved : (s.serving .office tag 0x0F).time ≠ some value := fun h => absurd (htime value h) (lt_irrefl _)
        rw [if_neg moved, hx, hv']
        rfl)
    have answered := State.request_answered (body := .timeSet value) hready rfl (by simp) accepted
    obtain ⟨n, hn⟩ := State.moveTime_eq (s := s) (v := v) (fun i => by rw [hv']; rfl) value
    rw [← hx, show ((List.finRange 16).filter fun i => (s.slot i).any (Delivery.due value)) = due from hdue.symm] at hn
    have logs : ∀ is, (s.expiriesAdmitted is { v with time := some value }).log = (s.expiriesAdmitted is u).log :=
      fun is => by
        subst hu hv'
        exact State.expiriesAdmitted_log_congr is rfl rfl rfl rfl
    refine ⟨n, x.push .office ⟨tag, 0x0F, .done (.timeSet value (value / Config.daySeconds))⟩,
      congrArg Host.Outcome.next answered, ?_, hn.count, fun k hk => logs _ ▸ hn.admitted k hk, hn.stopped,
      hn.taken, fun i hi => (hn.kept i hi).trans (by rw [hv']; rfl)⟩
    have frame := hn.frame
    rw [logs, hv'] at frame
    exact (congrArg (fun x : State => x.push .office _) frame).trans rfl

/-! ### Resets -/

theorem Latch.sample_eq (l : Latch) (input : Bool) : l.sample input = { l with input := l.input || input } := by
  cases input
  · simp [Latch.sample]
  · simp [Latch.sample, Latch.add]

theorem Compartment.interrupt_eq (c : Compartment) : c.interrupt = afterStart c := by
  have active : c.state.active = true ↔ c.state = .permitted ∨ c.state = .flowing ∨ c.state = .stopping := by
    cases c.state <;> simp [CompState.active]
  simp only [Compartment.interrupt, afterStart, active]

/-- The tables after a warm start (R24, R60, R62). -/
theorem State.warm_tables (s : State) :
    (∀ i, s.warmState.slot i = (s.slot i).map fun d => { d with comps := d.comps.map afterStart })
      ∧ ∀ b, s.warmState.bay b = ⟨.silent, 3, (s.bay b).bound, (s.bay b).withdrawn, armAfterStart (s.bay b).armA,
        armAfterStart (s.bay b).armB, [], 0, 0⟩ := by
  have arm : ∀ x : ArmRecord, x.restarted = armAfterStart x := fun x => by cases x <;> rfl
  refine ⟨fun i => (get_mapTable ..).trans ?_, fun b => (get_mapTable ..).trans ?_⟩
  · refine congrArg (fun f => (s.slot i).map f) (funext fun d => ?_)
    simp only [Delivery.restarted, funext Compartment.interrupt_eq]
  · simp only [BayRecord.restarted, arm]
    rfl

/-- A warm start: what it keeps, and what it writes (R24, R175, R183, R189). -/
theorem State.warmState_eq (s : State) : s.warmState = { s with
    lastStart := .warm
    startErased := 0
    startBad := 0
    elapsed := 0
    dispatch := s.warmState.dispatch
    bays := s.warmState.bays
    rack := ⟨[], none, none, false, false, []⟩
    latch := { s.latch with input := s.latch.input || s.shutdownInput }
    log := { s.log with
      writing := false
      cutWrite := if s.log.writing then s.log.queue.head? else s.log.cutWrite
      engine := ⟨.idle, [], none, none⟩ }
    office := ⟨none, none, [], [], [], 0, []⟩
    gate := ⟨none, none, [], [], [], 0, []⟩ } := by
  unfold State.warmState
  rw [Latch.sample_eq]
  rfl

/-- Settles O46: the assertion begins a warm start, which stands at step 1; the deassertion goes on from there. -/
theorem resetWarmStartsThePart : Obligations.ResetWarmStartsThePart := by
  intro s
  refine ⟨fun hr hp => ?_, fun hp phase pages h => ?_⟩
  · have powered : s.powered = true := by simpa [State.powered] using hp
    obtain ⟨hslot, hbay⟩ := State.warm_tables { s with resetInput := true }
    have asserted : s.assertReset = { State.warmState { s with resetInput := true } with phase := .step1 } := by
      simp only [State.assertReset, hr, powered]
      rfl
    refine ⟨_, congrArg Host.Outcome.next asserted, ?_, hslot, hbay⟩
    rw [State.warmState_eq]
  · refine congrArg Host.Outcome.next ?_
    simp only [State.deassertReset, hp, if_true]
    exact State.enterStep2_eq (s := { s with resetInput := false }) h

/-! ### The loss and return of power -/

/-- A part that has power loses it. -/
theorem exec_powerLoss {s : State} (hp : s.phase ≠ .unpowered) (cut : EventCut) :
    exec (.powerLoss cut) s = .next { s with phase := .unpowered, log := s.cutAt cut } := by
  have powered : s.powered = true := by simpa [State.powered] using hp
  exact congrArg Host.Outcome.next ((State.losePower_frame s cut).trans (if_pos powered))

theorem State.issueInProgress_eq {s : State} {i : SlotNo} {d : Delivery} (hp : s.phase = .running)
    (hc : s.log.paperCounter < 4294967295) (hd : s.slot i = some d) (hs : d.state = .atBay) :
    s.issueInProgress = true := by
  have any : ((List.finRange 16).any fun i => (s.slot i).any fun d => d.state == .atBay) = true :=
    List.any_eq_true.2 ⟨i, List.mem_finRange i, by simp [hd, hs]⟩
  simp [State.issueInProgress, hp, LogStore.papersExhausted, hc, any]

/-- Whether a page just erased is filled at once (R163). -/
theorem LogStore.fillsAtOnce_iff {l : LogStore} {p : PageNo} : l.fillsAtOnce p = true ↔
    (∀ f, (l.page f).state ≠ .filling) ∧ ∃ tail, l.pageOf l.lastWritten = some tail ∧ l.nextPage tail = some p := by
  have none_iff : l.filling.isNone = true ↔ ∀ f, (l.page f).state ≠ .filling := by
    simp [LogStore.filling, List.find?_eq_none]
  simp only [LogStore.fillsAtOnce, Bool.and_eq_true, none_iff]
  refine and_congr_right fun h => ?_
  rw [LogStore.tail, LogStore.filling_none h]
  cases l.pageOf l.lastWritten <;> simp

/-- The medium after the scan of a slot that holds something, on a page with room (R191). -/
theorem LogStore.scan_found {l : LogStore} {p : PageNo} {e : Entry} {found : CutWrite} {u : PageSlot}
    (hc : l.cutWrite = some e) (hu : cutSlot e found = some u) (hp : (l.page p).state = .filling)
    (hq : ∀ q, (l.page q).state = .filling → q = p) (hn : (l.page p).used.length < 31) :
    l.scan found =
      let after := l.setPage p ⟨.filling, (l.page p).used ++ [u]⟩
      { after with
        cutWrite := none
        everWritten := l.everWritten || u != .void
        lastWritten := after.lastFound (some p) } := by
  have hfill := LogStore.filling_unique hp hq
  have page : (l.setPage p ⟨.filling, (l.page p).used ++ [u]⟩).page p = ⟨.filling, (l.page p).used ++ [u]⟩ := by
    rw [LogStore.page, LogStore.setPage, get_set, if_pos rfl]
  have room : ¬ Config.pageSlots ≤ ((l.setPage p ⟨.filling, (l.page p).used ++ [u]⟩).page p).used.length := by
    rw [page]
    simp [Config.pageSlots]
    omega
  have slot : l.foundSlot found = some u := by simp only [LogStore.foundSlot, hc, hu]
  simp only [LogStore.scan, slot, hfill, LogStore.scanned, LogStore.rollOver, if_neg room]
  rfl

/-- What a slot that is not empty holds (R191, R196). -/
theorem cutSlot_slotTest (e : Entry) {slot : List Byte} (h : ∃ b ∈ slot, b ≠ 0xFF#8) :
    cutSlot e (slotTest slot) =
      some (if crc16 (slot.take 30) = number (slot.drop 30) then .entry e else .void) := by
  rw [(slotTest_spec slot).2 h]
  split <;> rfl

/-- Settles O47: power is lost between events or inside one, and comes back cold or warm. -/
theorem powerReturnsWarmOrCold : Obligations.PowerReturnsWarmOrCold := by
  intro s
  refine ⟨fun hp => exec_powerLoss hp _, fun hp hc hd => ?_, fun p rest hp he hset x marked hm => ?_,
    fun slot p e hp hc hfill hq hn hb => ?_, fun hp phase pages h => ⟨fun failed hf => ?_, fun hv t ht => ?_⟩⟩
  · obtain ⟨i, d, hd, hs⟩ := hd
    rw [exec_powerLoss (by rw [hp]; exact nofun), State.cutAt, State.issueInProgress_eq hp hc hd hs]
    rfl
  · have erasing : s.erasing = true := by simp [State.erasing, hp, he]
    have lost := fun cut => exec_powerLoss (s := s) (by rw [hp]; exact nofun) cut
    subst hm
    refine ⟨fun hx next => ?_, fun fills hfills hx next => ?_⟩
    · rw [lost, State.cutAt, State.cutErase_eq erasing hset, hx]
      cases next <;> rfl
    · have freed : s.log.freePage p = { s.log with pages := s.log.pages.set p.val ⟨x, []⟩ p.isLt } := by
        have hiff := (@LogStore.fillsAtOnce_iff s.log p).trans (iff_of_eq hfills.symm)
        unfold LogStore.freePage
        rcases hx with ⟨rfl, hx⟩ | ⟨rfl, hx⟩
        · rw [if_pos (hiff.2 hx)]
          rfl
        · rw [if_neg (mt hiff.1 hx)]
          rfl
      rw [lost, State.cutAt, State.cutErase_eq erasing hset, freed]
      cases next <;> rfl
  · rw [exec_powerLoss (by rw [hp]; exact nofun), State.cutAt, if_pos hp, LogStore.scanRecorded,
      LogStore.scan_found hc (cutSlot_slotTest e hb) hfill hq hn]
    by_cases hg : crc16 (slot.take 30) = number (slot.drop 30)
    · simp only [hg, if_true]
      rfl
    · simp only [hg, if_false]
      rfl
  · have unpowered : s.powered = false := by simp [State.powered, hp]
    have cold : (s.checkWordValid && !failed) = false := by rcases hf with hf | hf <;> simp [hf]
    refine congrArg Host.Outcome.next ?_
    simp only [State.regainPower, unpowered, cold]
    refine (State.enterStep1_eq (s := s.coldState) h).trans ?_
    unfold State.coldState
    rw [Latch.sample_eq]
    rfl
  · have unpowered : s.powered = false := by simp [State.powered, hp]
    refine congrArg Host.Outcome.next ?_
    simp only [State.regainPower, unpowered, hv]
    obtain rfl := Host.Outcome.next.inj ht
    exact (State.enterStep1_eq (s := s.warmState) h).trans rfl

/-! ### The write completion -/

/-- A completion neither reads nor writes the log store. -/
theorem State.complete_log (s : State) (l : LogStore) (e : Entry) :
    { s with log := l }.complete e = { s.complete e with log := l } := by
  have find : { s with log := l }.find e.ref = s.find e.ref := rfl
  unfold State.complete
  rw [find]
  split
  · rfl
  · rename_i i d _
    unfold State.completeFor
    split
    · split
      · unfold State.commit
        split <;> rfl
      · rfl
    · split <;> rfl
    · split <;> rfl
    all_goals rfl

/-- Once a write is over, an erase that waited goes on or the next write begins (R154, R162). -/
theorem LogStore.onward_eq {l : LogStore} (h : l.writing = false) : l.resume.beginWrite true = l.onward := by
  obtain ⟨resumed, written⟩ := LogStore.beginWrite_spec true l
  unfold LogStore.onward
  split
  · rename_i hq
    unfold LogStore.resume
    split
    · rename_i hr
      rw [if_pos hr.1]
      exact (LogStore.beginWrite_spec ..).1 (.inl hq)
    · rename_i hr
      rw [if_neg fun he => hr ⟨he, hq, h⟩, resumed (.inl hq)]
  · rename_i e rest hq
    have waits : l.resume = l := by simp [LogStore.resume, hq]
    rw [waits]
    split
    · exact resumed (.inr (.inr (.inr ‹_›)))
    · obtain ⟨whole, fresh⟩ := written e rest hq rfl h ‹_›
      split
      · exact whole _ ‹_›
      · exact fresh ‹_›

/-- A write completion: the table at its part, and the store at the next moment. -/
theorem exec_writeComplete {s : State} {e : Entry} {rest : List Entry} (hp : s.phase = .running)
    (hw : s.log.writing = true) (hq : s.log.queue = e :: rest) :
    exec .writeComplete s = .next { s.complete e with log := (s.log.written e rest).onward } := by
  obtain ⟨-, phase, -⟩ := State.complete_frame s e
  have running : ((s.complete e).phase == .running) = true := by simp [phase, hp]
  have written : (s.log.written e rest).writing = false := rfl
  refine congrArg Host.Outcome.next ((if_pos ⟨hp, hw⟩).trans ?_)
  rw [← LogStore.onward_eq written, ← running]
  simp only [State.writeDone, hq, State.complete_log]
  rfl

/-- The store after a write into a page with another empty slot (R154). -/
theorem LogStore.written_eq {l : LogStore} {p : PageNo} (e : Entry) (rest : List Entry)
    (hp : (l.page p).state = .filling) (hq : ∀ q, (l.page q).state = .filling → q = p)
    (hn : (l.page p).used.length < 31) :
    l.written e rest =
      l.stored e rest (l.pages.set p.val ⟨.filling, (l.page p).used ++ [.entry e]⟩ p.isLt) := by
  have room : ¬ Config.pageSlots
      ≤ ((l.setPage p ⟨.filling, (l.page p).used ++ [.entry e]⟩).page p).used.length := by
    rw [LogStore.page, LogStore.setPage, get_set, if_pos rfl]
    simp [Config.pageSlots]
    omega
  simp only [LogStore.written, LogStore.filling_unique hp hq, LogStore.rollOver, if_neg room]
  rfl

/-- `onward` leaves the last written number. -/
theorem LogStore.onward_lastWritten (l : LogStore) : l.onward.lastWritten = l.lastWritten := by
  unfold LogStore.onward
  split
  · split <;> rfl
  · split
    · rfl
    · split <;> rfl

/-- What the delivery of an entry's reference does at the write of the entry. -/
theorem State.complete_eq {s : State} {i : SlotNo} {d : Delivery} {e : Entry} (hd : s.holdsAt i d)
    (he : e.ref = d.ref) : s.complete e = s.completeFor e i d := by
  simp only [State.complete, he, State.find_of_holdsAt hd]

/-- An entry of another kind, or one that its delivery does not wait for, completes nothing. -/
theorem State.completeFor_other (s : State) {e : Entry} {i : SlotNo} {d : Delivery} (h9 : e.payload.code ≠ 9)
    (h10 : d.state = .releasing → e.payload.code ≠ 10) (h11 : d.state = .cancelling → e.payload.code ≠ 11)
    (h12 : d.state = .expiring → e.payload.code ≠ 12) : s.completeFor e i d = s := by
  unfold State.completeFor
  split <;> rename_i hx <;> simp only [hx, Payload.code] at h9 h10 h11 h12
  · exact if_neg fun h => h10 h rfl
  · exact if_neg fun h => h11 h rfl
  · exact if_neg fun h => h12 h rfl
  · exact absurd rfl h9
  · rfl

/-- The kinds whose write ends a delivery, by their codes (section 11.5). -/
theorem Payload.code_release {x : Payload} (h : x.code = 10) :
    ∃ number version prov set driving duty net gross,
      x = .release number version prov set driving duty net gross := by
  cases x <;> simp_all [Payload.code]

theorem Payload.code_cancel {x : Payload} (h : x.code = 11) : ∃ a b, x = .cancel a b := by
  cases x <;> simp_all [Payload.code]

theorem Payload.code_expire {x : Payload} (h : x.code = 12) : ∃ a b, x = .expire a b := by
  cases x <;> simp_all [Payload.code]

/-- The ring after a commit, by what its slot for the day held before (R121). -/
theorem commitRing_eq (ring : Vector DayEntry 14) (d driving duty : Nat) : commitRing ring d driving duty =
    ring.set (d % 14)
      (if (ring.get ⟨d % 14, Nat.mod_lt _ (by decide)⟩).day = d then
        ⟨d, min 1440 ((ring.get ⟨d % 14, Nat.mod_lt _ (by decide)⟩).driving + driving),
          min 1440 ((ring.get ⟨d % 14, Nat.mod_lt _ (by decide)⟩).duty + duty)⟩
      else ⟨d, min 1440 driving, min 1440 duty⟩) (Nat.mod_lt _ (by decide)) := by
  by_cases h : (ring.get (ringIndex d)).day = d
  · rw [if_pos (by exact h), commitRing, if_pos h]
    rfl
  · rw [if_neg (by exact h), commitRing, if_neg h, Nat.zero_add, Nat.zero_add]
    rfl

/-- Settles O44: an entry is stored first; then its delivery's part is done by the kind of the entry. -/
theorem writtenEntriesCompleteTheirOperations : Obligations.WrittenEntriesCompleteTheirOperations := by
  intro s e rest i d hp hw hq hd he
  refine ⟨_, exec_writeComplete hp hw hq, LogStore.onward_lastWritten _,
    fun p hfill huniq hn => congrArg LogStore.onward (LogStore.written_eq e rest hfill huniq hn),
    fun n hs hdriver hcode => ?_, fun hs hcode => ?_, fun hs hcode => ?_, fun new old sup hx => ?_,
    fun h9 h10 h11 h12 => ?_⟩
  all_goals rw [State.complete_eq hd he]
  · obtain ⟨_, _, _, _, _, _, _, _, hx⟩ := Payload.code_release hcode
    simp only [State.completeFor, hx, if_pos hs, State.commit, hdriver, commitRing_eq]
    rw [← hdriver]
    rfl
  · obtain ⟨_, _, hx⟩ := Payload.code_cancel hcode
    simp only [State.completeFor, hx, if_pos hs]
    exact ⟨rfl, fun b => State.bay_takeLeave _ i b⟩
  · obtain ⟨_, _, hx⟩ := Payload.code_expire hcode
    simp only [State.completeFor, hx, if_pos hs]
    rfl
  · simp only [State.completeFor, hx]
    rfl
  · rw [State.completeFor_other s h9 h10 h11 h12]

/-! ### Steps 4 to 6 of start-up -/

/-- An entry offered while the ports are closed joins the back of the queue, or is lost. -/
theorem State.offer_starting {s : State} (hp : s.phase = .step3) (he : s.log.engine = ⟨.idle, [], none, none⟩)
    (ref driver : Nat) (x : Payload) :
    (s.offer ref driver x).log = s.log.lose ∨ (s.offer ref driver x).log = { s.log with
      queue := s.log.queue ++ [⟨s.log.nextNumber, none, s.now, ref, driver, x⟩]
      nextNumber := nextSeq s.log.nextNumber } := by
  unfold State.offer
  split
  · refine .inr ?_
    simp only [State.admitEntry, LogStore.admitEntry, hp, he]
    exact (LogStore.beginWrite_spec ..).1 (.inr (.inl rfl))
  · exact .inl rfl

/-- The store status by the pages that are not BAD (R192). -/
theorem LogStore.statusOf_eq (l : LogStore) : statusOf l.goodPages =
    if l.goodPages = 64 then .ready else if 4 ≤ l.goodPages then .degraded else .failed := by
  have bound : l.goodPages ≤ 64 := List.countP_le_length
  simp only [statusOf, show 64 ≤ l.goodPages ↔ l.goodPages = 64 by omega]

/-- The state in which the START_UP entry is offered: status and latch decided (R192, R193). -/
def State.decided (s : State) : State :=
  { s with
    log := { s.log with status := statusOf s.log.goodPages }
    latch := { s.latch with
      input := s.latch.input || s.shutdownInput
      store := s.latch.store || decide (statusOf s.log.goodPages = .failed) } }

/-- The START_UP entry of a start (log entry 20). -/
def State.startEntry (s : State) (voided dropped : Nat) : Payload :=
  .startUp s.lastStart s.decided.log.status s.decided.latch s.startErased s.startBad voided dropped

theorem State.logStart_eq (s : State) (v d : Nat) :
    s.decideStatus.logStart v d = s.decided.offer 0 0 (s.startEntry v d) := by
  have same : { s.decideStatus with latch := s.decideStatus.latch.sample s.decideStatus.shutdownInput } =
      s.decided := by
    simp only [State.decideStatus, State.decided, Latch.sample_eq]
    split <;> rename_i h <;> simp [h, Latch.add]
  have latch : s.decideStatus.latch.sample s.decideStatus.shutdownInput = s.decided.latch := congrArg State.latch same
  rw [State.logStart, same, latch]
  rfl

theorem State.opened_eq (s : State) (v d : Nat) : s.opened v d = { s.decided with
    phase := .running
    rack := ⟨s.polledBays, none, none, false, s.decided.latch.isSet && !s.polledBays.isEmpty, []⟩
    log := (s.decided.offer 0 0 (s.startEntry v d)).log.onward } := by
  have status := s.log.statusOf_eq
  simp only [LogStore.goodPages] at status
  have offered : (s.decided.offer 0 0 (s.startEntry v d)).log =
      (State.offer { s with log := s.decided.log } 0 0 (s.startEntry v d)).log :=
    State.offer_log_congr (s := { s with log := s.decided.log }) (t := s.decided) rfl rfl rfl rfl ..
  rw [offered, State.polledBays_isEmpty]
  simp only [State.opened, State.startEntry, State.decided, LogStore.goodPages, status]
  rfl

/-- The store before the ports open is at rest, with the START_UP entry at the back of its queue or lost. -/
theorem State.decided_offer {s : State} (hp : s.phase = .step3) (he : s.log.engine = ⟨.idle, [], none, none⟩)
    (x : Payload) : (s.decided.offer 0 0 x).log = s.decided.log.lose ∨
      (s.decided.offer 0 0 x).log = { s.decided.log with
        queue := s.log.queue ++ [⟨s.log.nextNumber, none, s.now, 0, 0, x⟩]
        nextNumber := nextSeq s.log.nextNumber } :=
  State.offer_starting (s := s.decided) hp he 0 0 x

/-- Steps 4 to 6 of start-up, but for the line (R192, R193). -/
theorem State.opening_eq {s : State} (hp : s.phase = .step3) (hw : s.log.writing = false)
    (he : s.log.engine = ⟨.idle, [], none, none⟩) (v d : Nat) :
    (s.decideStatus.logStart v d).openPorts = State.settleRound { s.opened v d with rack := s.rack } := by
  obtain ⟨t, ht⟩ : ∃ t, t = s.decided.offer 0 0 (s.startEntry v d) := ⟨_, rfl⟩
  have rest : t.log.writing = false ∧ t.log.engine.state = .idle := by
    rcases State.decided_offer hp he (s.startEntry v d) with h | h <;> rw [ht, h] <;> exact ⟨hw, congrArg _ he⟩
  have onward : t.log.beginWrite true = t.log.onward := by
    rw [← LogStore.onward_eq rest.1, LogStore.resume, if_neg (by simp [rest.2])]
  have frame : t = { s.decided with log := t.log } := ht ▸ State.offer_frame ..
  rw [State.logStart_eq, State.opened_eq, ← ht, ← onward, State.openPorts, frame]
  rfl

/-- Steps 4 to 6 of start-up on a quiet line (R192, R193). -/
theorem State.opening_quiet {s : State} (hp : s.phase = .step3) (hw : s.log.writing = false)
    (he : s.log.engine = ⟨.idle, [], none, none⟩) (hr : s.rack = ⟨[], none, none, false, false, []⟩) (v d : Nat) :
    (s.decideStatus.logStart v d).openPorts = s.opened v d := by
  rw [State.opening_eq hp hw he, hr, State.opened_eq]
  rfl

/-! ### The erases of step 2 -/

/-- The end of an erase of step 2 (R190). -/
theorem exec_startUpEraseEnd {s : State} {p : PageNo} {phase : Phase} {pages : Vector Page 64} {verified : Bool}
    (hp : s.phase = .step2) (hr : (s.log.page p).state = .reclaiming)
    (hl : ∀ q, q < p → (s.log.page q).state ≠ .reclaiming)
    (hg : LogStore.goesOn { s.log with
      pages := s.log.pages.set p.val ⟨if verified then .free else .bad, []⟩ p.isLt } phase pages) :
    exec (.startUpEraseEnd verified) s = .next { s with
      phase := phase
      log := { s.log with pages := pages }
      startErased := if verified then s.startErased + 1 else s.startErased
      startBad := if verified then s.startBad else s.startBad + 1 } := by
  have lowest : s.log.reclaiming.head? = some p := by
    rw [LogStore.reclaiming, List.head?_filter]
    exact find_lowest _ p (by simp [hr]) fun q hq => by simpa using hl q hq
  obtain ⟨rest, hrest⟩ : ∃ rest, s.log.reclaiming = p :: rest := List.head?_eq_some_iff.1 lowest
  refine congrArg Host.Outcome.next ((if_pos hp).trans ?_)
  rw [State.startErase, hrest]
  cases verified
  · exact State.enterStep2_eq (s := { s with
      log := s.log.setPage p ⟨.bad, []⟩, startBad := s.startBad + 1 }) hg
  · exact State.enterStep2_eq (s := { s with
      log := s.log.setPage p Page.free, startErased := s.startErased + 1 }) hg

/-! ### The scan -/

/-- The end of the scan: steps 3 to 6 of start-up (R191 to R193). -/
theorem exec_startUpScanEnd {s : State} (hp : s.phase = .step3) (slot : List Byte) :
    exec (.startUpScanEnd slot) s = .next (s.scanEnd (slotTest slot)) :=
  congrArg Host.Outcome.next (if_pos hp)

/-- A scan with nothing queued and no write cut short fixes the two numbers (R191). -/
theorem State.scanStep_clean {s : State} {n : Nat} (found : CutWrite) (hc : s.log.cutWrite = none)
    (hq : s.log.queue = []) (hn : s.log.scanFinds n) : s.scanStep found = { s with log := { s.log with
      lastWritten := n
      nextNumber := (n + 1) % 4294967296 } } := by
  simp only [State.scanStep, LogStore.scan_eq found hc hn, hq, State.dropWritten, State.dropBack, LogStore.number]
  rfl

/-! ### The scan of a page with room -/

theorem State.settleRound_frame (s : State) : s.settleRound = { s with rack := s.settleRound.rack } := by
  unfold State.settleRound
  split <;> rfl

/-- The bytes stored in a slot's check (R196). -/
theorem field_check {slot : List Byte} (h : slot.length = 32) : field slot 30 2 = number (slot.drop 30) := by
  rw [field, List.take_of_length_le]
  simp [h]

theorem atOrBefore_refl (n : Nat) : atOrBefore n n = true := by
  rw [atOrBefore_iff]
  omega

/-- The next number is not at or before its number (R149). -/
theorem atOrBefore_next (n : Nat) : atOrBefore ((n + 1) % 4294967296) n = false := by
  rw [Bool.eq_false_iff, ne_eq, atOrBefore_iff]
  omega

theorem Page.lastEntry_void (x : Page) (state : PageState) :
    (⟨state, x.used ++ [.void]⟩ : Page).lastEntry = x.lastEntry := by
  simp [Page.lastEntry, Page.entries]

theorem Page.lastEntry_entry (x : Page) (state : PageState) (e : Entry) :
    (⟨state, x.used ++ [.entry e]⟩ : Page).lastEntry = some e := by
  simp [Page.lastEntry, Page.entries]

/-- The last entry of the page scanned gives the last written number (R191). -/
theorem LogStore.lastFound_entry {l : LogStore} {p : PageNo} {e : Entry} (h : (l.page p).lastEntry = some e) :
    l.lastFound (some p) = e.seq := by
  simp only [LogStore.lastFound, h]

section
variable {l : LogStore} {p : PageNo} {e y : Entry}

/-- The slot of the cut write stayed empty (R191). -/
theorem LogStore.scan_blank (hc : l.cutWrite = some e) (hp : (l.page p).state = .filling)
    (hu : ∀ q, (l.page q).state = .filling → q = p) (hn : (l.page p).used.length < 32)
    (hy : (l.page p).lastEntry = some y) :
    l.scan .blank = { l with cutWrite := none, lastWritten := y.seq } := by
  have room : ¬ Config.pageSlots ≤ (l.page p).used.length := by simp [Config.pageSlots]; omega
  simp only [LogStore.scan, LogStore.foundSlot, hc, cutSlot, LogStore.filling_unique hp hu, LogStore.scanned,
    LogStore.rollOver, if_neg room, LogStore.lastFound_entry hy]
  simp

/-- The slot of the cut write is void (R191). -/
theorem LogStore.scan_torn (hc : l.cutWrite = some e) (hp : (l.page p).state = .filling)
    (hu : ∀ q, (l.page q).state = .filling → q = p) (hn : (l.page p).used.length < 31)
    (hy : (l.page p).lastEntry = some y) :
    l.scan .torn = { l with
      pages := l.pages.set p.val ⟨.filling, (l.page p).used ++ [.void]⟩ p.isLt
      cutWrite := none
      lastWritten := y.seq } := by
  have last : (l.setPage p ⟨.filling, (l.page p).used ++ [.void]⟩).lastFound (some p) = y.seq :=
    LogStore.lastFound_entry (by rw [LogStore.page_setPage_self, Page.lastEntry_void, hy])
  simp only [LogStore.scan_found (found := .torn) hc rfl hp hu hn, last]
  simp [LogStore.setPage]

/-- The slot of the cut write holds its entry (R191, log entry 12). -/
theorem LogStore.scan_whole (hc : l.cutWrite = some e) (hp : (l.page p).state = .filling)
    (hu : ∀ q, (l.page q).state = .filling → q = p) (hn : (l.page p).used.length < 31) :
    l.scan .whole = { l with
      pages := l.pages.set p.val ⟨.filling, (l.page p).used ++ [.entry e]⟩ p.isLt
      cutWrite := none
      everWritten := true
      lastWritten := e.seq } := by
  have last : (l.setPage p ⟨.filling, (l.page p).used ++ [.entry e]⟩).lastFound (some p) = e.seq :=
    LogStore.lastFound_entry (by rw [LogStore.page_setPage_self, Page.lastEntry_entry])
  simp only [LogStore.scan_found (found := .whole) hc rfl hp hu hn, last]
  simp [LogStore.setPage]

end

/-! ### The queue after the scan -/

/-- An entry not found written stays, and with it every one behind it (R191). -/
theorem State.dropWritten_kept {s : State} {e : Entry} (rest : List Entry)
    (h : atOrBefore e.seq s.log.lastWritten = false) : State.dropWritten (e :: rest) s = s :=
  if_neg (by simp [h])

theorem LogStore.overdrawn_iff {l : LogStore} :
    l.overdrawn = true ↔ l.emptySlots + 32 * l.usablePages < l.queue.length := decide_eq_true_iff

/-- The queue stays whole where the store has room for it (R191). -/
theorem State.dropBack_fits {s : State}
    (h : s.log.queue.length ≤ s.log.emptySlots + 32 * s.log.usablePages) : s.dropBack = s := by
  unfold State.dropBack
  split
  · rfl
  · exact if_neg fun drawn => absurd (LogStore.overdrawn_iff.1 drawn) (Nat.not_lt.2 h)

/-- The entry at the back is dropped where the queue is overdrawn (R191). -/
theorem State.dropBack_drops {s : State} {rest : List Entry} {x : Entry} (hq : s.log.queue = rest ++ [x])
    (h : s.log.emptySlots + 32 * s.log.usablePages < s.log.queue.length) :
    s.dropBack = { s with log := { s.log with
      queue := rest
      lostCount := min 255 (s.log.lostCount + 1) } }.withdrawExpiry x := by
  have drawn : s.log.overdrawn = true := LogStore.overdrawn_iff.2 h
  have back : s.log.queue.getLast? = some x := by simp [hq]
  have front : s.log.queue.dropLast = rest := by simp [hq]
  simp only [State.dropBack, back, if_pos drawn, front]
  rfl

theorem State.withdrawExpiry_frame (s : State) (x : Entry) :
    s.withdrawExpiry x = { s with dispatch := (s.withdrawExpiry x).dispatch } := by
  unfold State.withdrawExpiry
  split
  · split <;> rfl
  · rfl

/-- The delivery of a dropped EXPIRE entry is BOOKED again (R191). -/
theorem State.slot_withdrawExpiry {s : State} (hr : s.refsDiffer) (x : Entry) (j : SlotNo) :
    (s.withdrawExpiry x).slot j = (s.slot j).map (Delivery.withdrawnBy x) := by
  have unchanged : (∀ d, s.slot j = some d → ¬ (x.payload.code = 12 ∧ d.ref = x.ref ∧ d.state = .expiring)) →
      (s.slot j).map (Delivery.withdrawnBy x) = s.slot j := by
    intro h
    cases hd : s.slot j with
    | none => rfl
    | some d => exact congrArg some (if_neg (h d hd))
  unfold State.withdrawExpiry
  split
  · rename_i i d hx hfind
    obtain ⟨hd, href⟩ := State.find_some hfind
    split
    · rename_i hs
      rw [State.slot_setSlot]
      split
      · rename_i hj
        rw [hj, hd]
        exact congrArg some (if_pos ⟨by simp [hx, Payload.code], href, hs⟩).symm
      · rename_i hj
        exact (unchanged fun e he hw => hj (hr j i e d he hd (hw.2.1.trans href.symm))).symm
    · rename_i hs
      refine (unchanged fun e he hw => hs ?_).symm
      obtain rfl := hr j i e d he hd (hw.2.1.trans href.symm)
      rw [hd] at he
      exact Option.some.inj he ▸ hw.2.2
  · rename_i hx
    refine (unchanged fun e he hw => ?_).symm
    obtain ⟨a, b, hp⟩ := Payload.code_expire hw.1
    cases hf : s.find x.ref with
    | none => exact State.find_none hf j e he hw.2.1
    | some y => exact hx a b y.1 y.2 hp hf

/-! ### The end of the scan -/

/-- The slot found of a cut write, voided or not, where a page is FILLING. -/
theorem LogStore.voids_eq {l : LogStore} {p : PageNo} {e : Entry} (hc : l.cutWrite = some e)
    (hp : (l.page p).state = .filling) (found : CutWrite) :
    l.voids found = (cutSlot e found == some .void) := by
  obtain ⟨q, hq⟩ := LogStore.filling_some ⟨p, hp⟩
  simp only [LogStore.voids, LogStore.foundSlot, hc, hq, Option.isSome_some, Bool.true_and]

section
variable {s after : State} {found : CutWrite} (hscan : s.scanStep found = after) (ha : after.phase = .step3)
  (hw : after.log.writing = false) (he : after.log.engine = ⟨.idle, [], none, none⟩)
include hscan ha hw he

/-- The end of the scan, but for the line (R191 to R193). -/
theorem State.scanEnd_eq : s.scanEnd found = State.settleRound
    { after.opened (s.log.voids found).toNat (s.log.queue.length - after.log.queue.length) with
      rack := after.rack } := by
  rw [State.scanEnd, hscan]
  exact State.opening_eq ha hw he ..

/-- The end of the scan on a quiet line (R191 to R193). -/
theorem State.scanEnd_quiet (hr : after.rack = ⟨[], none, none, false, false, []⟩) : s.scanEnd found =
    after.opened (s.log.voids found).toNat (s.log.queue.length - after.log.queue.length) := by
  rw [State.scanEnd, hscan]
  exact State.opening_quiet ha hw he hr ..

end

theorem State.scanEnd_phase (s : State) (found : CutWrite) : (s.scanEnd found).phase = .running := by
  rw [State.scanEnd, State.openPorts, State.settleRound_frame]
  rfl

/-! ### Step 3 with a write cut short -/

/-- With the front entry not found written, only the back of the queue can leave it (R191). -/
theorem State.scanStep_kept {s : State} {found : CutWrite} {l : LogStore} {e : Entry} {rest : List Entry}
    (hscan : s.log.scan found = l) (hq : l.queue = e :: rest) (ha : atOrBefore e.seq l.lastWritten = false) :
    s.scanStep found = { { s with log := l }.dropBack with log := { s with log := l }.dropBack.log.number } := by
  rw [State.scanStep, hscan]
  simp only [hq]
  rw [State.dropWritten_kept (s := { s with log := l }) rest ha]

/-- With the entry of the cut write not found written and room for the queue, the queue stays (R191). -/
theorem State.scanStep_fits {s : State} {found : CutWrite} {l : LogStore} {e : Entry} {rest : List Entry}
    (hscan : s.log.scan found = l) (hq : l.queue = e :: rest) (ha : atOrBefore e.seq l.lastWritten = false)
    (hf : l.queue.length ≤ l.emptySlots + 32 * l.usablePages) :
    s.scanStep found = { s with log := l.number } := by
  rw [State.scanStep_kept hscan hq ha, State.dropBack_fits (s := { s with log := l }) hf]

/-- The one queued entry found written leaves the queue and completes (R24, R191). -/
theorem State.scanStep_whole {s : State} {p : PageNo} {e : Entry} (hc : s.log.cutWrite = some e)
    (hq : s.log.queue = [e]) (hp : (s.log.page p).state = .filling)
    (hu : ∀ q, (s.log.page q).state = .filling → q = p) (hn : (s.log.page p).used.length < 31) :
    s.scanStep .whole = { s.complete e with log := { s.log with
      pages := s.log.pages.set p.val ⟨.filling, (s.log.page p).used ++ [.entry e]⟩ p.isLt
      queue := []
      cutWrite := none
      everWritten := true
      lastWritten := e.seq
      nextNumber := (e.seq + 1) % 4294967296 } } := by
  rw [State.scanStep, LogStore.scan_whole hc hp hu hn]
  simp only [hq, State.dropWritten, atOrBefore_refl, if_true, State.complete_log]
  rfl

/-! ### The parts of the scan's end -/

/-- The FILLING page with room for one entry is room for a queue of one. -/
theorem LogStore.one_fits {l : LogStore} {p : PageNo} {e : Entry} (hp : (l.page p).state = .filling)
    (hu : ∀ q, (l.page q).state = .filling → q = p) (hn : (l.page p).used.length < 32) (hq : l.queue = [e]) :
    l.queue.length ≤ l.emptySlots + 32 * l.usablePages := by
  have empty : l.emptySlots = 32 - (l.page p).used.length := by
    simp only [LogStore.emptySlots, LogStore.filling_unique hp hu]
    rfl
  simp only [hq, empty, List.length_singleton]
  omega

section
variable {s : State} (hp : s.phase = .step3) (he : s.log.engine = ⟨.idle, [], none, none⟩)
include hp he

/-- An entry whose write was cut short is written again, with its number and lost count (R191, R193). -/
theorem State.opened_resumes {e : Entry} {n : Nat} (hq : s.log.queue = [e]) (hl : e.lost = some n) (v d : Nat) :
    (s.opened v d).log.pages = s.log.pages ∧ (s.opened v d).log.queue.head? = some e
      ∧ (s.opened v d).log.writing = true := by
  have log : ∃ rest, (s.decided.offer 0 0 (s.startEntry v d)).log.queue = e :: rest
      ∧ (s.decided.offer 0 0 (s.startEntry v d)).log.pages = s.log.pages
      ∧ (s.decided.offer 0 0 (s.startEntry v d)).log.engine = s.log.engine := by
    rcases State.decided_offer hp he (s.startEntry v d) with h | h <;> rw [h]
    · exact ⟨[], hq, rfl, rfl⟩
    · exact ⟨_, by rw [hq]; rfl, rfl, rfl⟩
  obtain ⟨rest, queue, pages, engine⟩ := log
  have resumes : (s.decided.offer 0 0 (s.startEntry v d)).log.onward =
      { (s.decided.offer 0 0 (s.startEntry v d)).log with writing := true } := by
    simp only [LogStore.onward, queue, engine, he, hl]
    rfl
  rw [State.opened_eq]
  dsimp only
  rw [resumes]
  exact ⟨pages, by simp [queue], rfl⟩

/-- With nothing left in the queue, no entry but the START_UP entry joins it (R193). -/
theorem State.opened_empty (hq : s.log.queue = []) (v d : Nat) :
    (s.opened v d).log.pages = s.log.pages ∧ (s.opened v d).log.lastWritten = s.log.lastWritten
      ∧ ∀ x ∈ (s.opened v d).log.queue, x.seq = s.log.nextNumber := by
  rw [State.opened_eq]
  dsimp only
  rcases State.decided_offer hp he (s.startEntry v d) with h | h <;> rw [h]
  · have same : s.decided.log.lose.onward = s.decided.log.lose := by
      simp only [LogStore.onward, LogStore.lose_queue, LogStore.lose_engine, State.decided, hq, he]
      rfl
    rw [same]
    exact ⟨rfl, rfl, by simp [State.decided, hq]⟩
  · simp only [LogStore.onward, State.decided, hq, he]
    simp

end

/-! ### A cut write: the entry itself (R191) -/

/-- An entry that no operation waits for completes nothing (R155). -/
theorem State.complete_other (s : State) {e : Entry} (h : e.payload.code ∉ [9, 10, 11, 12]) : s.complete e = s := by
  simp only [List.mem_cons, List.not_mem_nil, or_false, not_or] at h
  obtain ⟨h9, h10, h11, h12⟩ := h
  unfold State.complete
  split
  · rfl
  · exact State.completeFor_other s h9 (fun _ => h10) (fun _ => h11) fun _ => h12

/-- An entry that the scan does not find written is written again (R191, R193). -/
theorem State.scanEnd_resumes {s : State} {found : CutWrite} {l : LogStore} {p : PageNo} {e : Entry} {n : Nat}
    (hp : s.phase = .step3) (hscan : s.log.scan found = l) (hq : l.queue = [e]) (hl : e.lost = some n)
    (hw : l.writing = false) (he : l.engine = ⟨.idle, [], none, none⟩) (hf : (l.page p).state = .filling)
    (hu : ∀ q, (l.page q).state = .filling → q = p) (hn : (l.page p).used.length < 32)
    (ha : atOrBefore e.seq l.lastWritten = false) :
    (s.scanEnd found).log.pages = l.pages ∧ (s.scanEnd found).log.queue.head? = some e
      ∧ (s.scanEnd found).log.writing = true := by
  have kept := State.scanStep_fits hscan hq ha (LogStore.one_fits hf hu hn hq)
  rw [State.scanEnd_eq kept hp hw he, State.settleRound_frame]
  exact State.opened_resumes (s := { s with log := l.number }) hp he hq hl ..

section
variable {s : State} {p : PageNo} {e y : Entry} {n : Nat} (hp : s.phase = .step3) (hc : s.log.cutWrite = some e)
  (hq : s.log.queue = [e]) (hw : s.log.writing = false) (he : s.log.engine = ⟨.idle, [], none, none⟩)
  (hf : (s.log.page p).state = .filling) (hu : ∀ q, (s.log.page q).state = .filling → q = p)
  (hn : (s.log.page p).used.length < 30)
include hp hc hq hw he hf hu hn

/-- With an empty slot the entry is written again (R191). -/
theorem State.scanEnd_blank (hl : e.lost = some n) (hy : (s.log.page p).lastEntry = some y)
    (hs : e.seq = (y.seq + 1) % 4294967296) :
    (s.scanEnd .blank).log.pages = s.log.pages ∧ (s.scanEnd .blank).log.queue.head? = some e
      ∧ (s.scanEnd .blank).log.writing = true := by
  exact State.scanEnd_resumes (l := { s.log with cutWrite := none, lastWritten := y.seq }) hp
    (LogStore.scan_blank hc hf hu (by omega) hy) hq hl hw he hf hu (hn.trans (by decide))
    (hs ▸ atOrBefore_next y.seq)

/-- With a void slot the entry is written again (R191). -/
theorem State.scanEnd_torn (hl : e.lost = some n) (hy : (s.log.page p).lastEntry = some y)
    (hs : e.seq = (y.seq + 1) % 4294967296) :
    (s.scanEnd .torn).log.pages = s.log.pages.set p.val ⟨.filling, (s.log.page p).used ++ [.void]⟩ p.isLt
      ∧ (s.scanEnd .torn).log.queue.head? = some e ∧ (s.scanEnd .torn).log.writing = true := by
  obtain ⟨l, hl'⟩ : ∃ l, l = { s.log with
      pages := s.log.pages.set p.val ⟨.filling, (s.log.page p).used ++ [PageSlot.void]⟩ p.isLt
      cutWrite := none
      lastWritten := y.seq } := ⟨_, rfl⟩
  have page : ∀ q, l.page q = if q = p then ⟨.filling, (s.log.page p).used ++ [.void]⟩ else s.log.page q :=
    fun q => hl' ▸ LogStore.page_setPage s.log p q _
  have filled : (l.page p).state = .filling ∧ (l.page p).used.length < 32 := by
    rw [page, if_pos rfl]
    refine ⟨rfl, ?_⟩
    rw [List.length_append, List.length_singleton]
    omega
  have alone : ∀ q, (l.page q).state = .filling → q = p := by
    intro q h
    rw [page] at h
    split at h
    · assumption
    · exact hu q h
  have resumes := State.scanEnd_resumes hp ((LogStore.scan_torn hc hf hu (by omega) hy).trans hl'.symm)
    (by rw [hl', ← hq]) hl (by rw [hl']; exact hw) (by rw [hl']; exact he) filled.1 alone filled.2
    (by rw [hl', hs]; exact atOrBefore_next y.seq)
  rw [hl'] at resumes
  exact resumes

/-- With a good check the entry stands in the store (R191, log entry 12). -/
theorem State.scanEnd_whole (hk : e.payload.code ∉ [9, 10, 11, 12]) :
    (s.scanEnd .whole).log.pages = s.log.pages.set p.val ⟨.filling, (s.log.page p).used ++ [.entry e]⟩ p.isLt
      ∧ (s.scanEnd .whole).log.lastWritten = e.seq ∧ e ∉ (s.scanEnd .whole).log.queue := by
  have scanned := State.scanStep_whole hc hq hf hu (by omega)
  rw [State.complete_other s hk] at scanned
  obtain ⟨l, hl⟩ : ∃ l, l = { s.log with
      pages := s.log.pages.set p.val ⟨.filling, (s.log.page p).used ++ [PageSlot.entry e]⟩ p.isLt
      queue := []
      cutWrite := none
      everWritten := true
      lastWritten := e.seq
      nextNumber := (e.seq + 1) % 4294967296 } := ⟨_, rfl⟩
  rw [← hl] at scanned
  rw [State.scanEnd_eq scanned hp (by rw [hl]; exact hw) (by rw [hl]; exact he), State.settleRound_frame]
  obtain ⟨pages, written, queue⟩ := State.opened_empty (s := { s with log := l }) hp (by rw [hl]; exact he)
    (by rw [hl]) (s.log.voids .whole).toNat (s.log.queue.length - l.queue.length)
  refine ⟨pages.trans (by rw [hl]), written.trans (by rw [hl]), fun hm => ?_⟩
  have next : e.seq = (e.seq + 1) % 4294967296 := (queue e hm).trans (by rw [hl])
  omega

end

/-- A write that a start cut short is decided by the bytes of its slot (R191, R196). -/
theorem scan_decides_cutWrite (s : State) (slot : List Byte) (p : PageNo) (e : Entry) (n : Nat)
    (hp : s.phase = .step3) (hc : s.log.cutWrite = some e) (hq : s.log.queue = [e]) (hl : e.lost = some n)
    (hw : s.log.writing = false) (he : s.log.engine = ⟨.idle, [], none, none⟩)
    (hf : (s.log.page p).state = .filling) (hu : ∀ q, (s.log.page q).state = .filling → q = p)
    (hn : (s.log.page p).used.length < 30)
    (hy : ∃ y, (s.log.page p).lastEntry = some y ∧ e.seq = (y.seq + 1) % 4294967296)
    (hk : e.payload.code ∉ [9, 10, 11, 12]) (hlen : slot.length = 32) :
    ∃ t, exec (.startUpScanEnd slot) s = .next t ∧ t.phase = .running
      ∧ ((∀ b ∈ slot, b = 0xFF#8) → t.log.page p = s.log.page p ∧ t.log.queue.head? = some e
        ∧ t.log.writing = true)
      ∧ ((∃ b ∈ slot, b ≠ 0xFF#8) → crc16 (slot.take 30) ≠ field slot 30 2 →
        t.log.page p = ⟨.filling, (s.log.page p).used ++ [.void]⟩
          ∧ t.log.queue.head? = some e ∧ t.log.writing = true)
      ∧ ((∃ b ∈ slot, b ≠ 0xFF#8) → crc16 (slot.take 30) = field slot 30 2 →
        t.log.page p = ⟨.filling, (s.log.page p).used ++ [.entry e]⟩
          ∧ t.log.lastWritten = e.seq ∧ e ∉ t.log.queue) := by
  obtain ⟨y, hy, hs⟩ := hy
  obtain ⟨blank, used⟩ := slotTest_spec slot
  rw [field_check hlen]
  refine ⟨_, exec_startUpScanEnd hp slot, State.scanEnd_phase s _, fun hb => ?_, fun hb hcrc => ?_, fun hb hcrc => ?_⟩
  · obtain ⟨pages, again⟩ := State.scanEnd_blank hp hc hq hw he hf hu hn hl hy hs
    rw [blank hb]
    exact ⟨congrArg (Vector.get · p) pages, again⟩
  · obtain ⟨pages, again⟩ := State.scanEnd_torn hp hc hq hw he hf hu hn hl hy hs
    rw [used hb, if_neg hcrc]
    exact ⟨(congrArg (Vector.get · p) pages).trans ((get_set ..).trans (if_pos rfl)), again⟩
  · obtain ⟨pages, stands⟩ := State.scanEnd_whole hp hc hq hw he hf hu hn hk
    rw [used hb, if_pos hcrc]
    exact ⟨(congrArg (Vector.get · p) pages).trans ((get_set ..).trans (if_pos rfl)), stands⟩

/-! ### A clean scan (R191 to R193) -/

/-- The scan with nothing cut short and nothing queued: the ports open. -/
theorem scan_clean_opens (s : State) (slot : List Byte) (n : Nat) (hp : s.phase = .step3)
    (hc : s.log.cutWrite = none) (hq : s.log.queue = []) (hw : s.log.writing = false)
    (he : s.log.engine = ⟨.idle, [], none, none⟩) (hn : s.log.scanFinds n)
    (hr : s.rack = ⟨[], none, none, false, false, []⟩) :
    exec (.startUpScanEnd slot) s = .next (State.opened { s with log := { s.log with
      lastWritten := n
      nextNumber := (n + 1) % 4294967296 } } 0 0) := by
  have voids : s.log.voids (slotTest slot) = false := by simp [LogStore.voids, LogStore.foundSlot, hc]
  refine (exec_startUpScanEnd hp slot).trans (congrArg Host.Outcome.next ?_)
  rw [State.scanEnd_quiet (State.scanStep_clean (slotTest slot) hc hq hn) hp hw he hr, voids, hq]
  rfl

/-! ### An entry found written completes within the scan (R24, R191) -/

/-- With nobody waiting, no reply is made (R173). -/
theorem State.replyAwaited_none {s : State} (ho : s.office.deferred = []) (hg : s.gate.deferred = []) (n : Nat)
    (b : FrameBody) : s.replyAwaited n b = s := by
  have same : ∀ x : PortState, x.deferred = [] → x.reply (Deferred.awaits n) b = x := by
    intro x hx
    simp only [PortState.reply, hx, List.filter_nil, List.map_nil, List.append_nil]
    rw [← hx]
  rw [State.replyAwaited, same _ ho, same _ hg]

/-- A queued entry found written stands in the store and completes; then the ports open. -/
theorem scan_whole_opens {s : State} {slot : List Byte} {p : PageNo} {e : Entry} (hp : s.phase = .step3)
    (hc : s.log.cutWrite = some e) (hq : s.log.queue = [e]) (hw : s.log.writing = false)
    (he : s.log.engine = ⟨.idle, [], none, none⟩) (hr : s.rack = ⟨[], none, none, false, false, []⟩)
    (hf : (s.log.page p).state = .filling) (hu : ∀ q, (s.log.page q).state = .filling → q = p)
    (hn : (s.log.page p).used.length < 31) (hb : ∃ b ∈ slot, b ≠ 0xFF#8)
    (hcrc : crc16 (slot.take 30) = field slot 30 2) (hlen : slot.length = 32) :
    exec (.startUpScanEnd slot) s = .next (State.opened { s.complete e with log := { s.log with
      pages := s.log.pages.set p.val ⟨.filling, (s.log.page p).used ++ [.entry e]⟩ p.isLt
      queue := []
      cutWrite := none
      everWritten := true
      lastWritten := e.seq
      nextNumber := (e.seq + 1) % 4294967296 } } 0 1) := by
  have whole : slotTest slot = .whole := by
    rw [(slotTest_spec slot).2 hb, if_pos (hcrc.trans (field_check hlen))]
  obtain ⟨-, phase, rack⟩ := State.complete_frame s e
  refine (exec_startUpScanEnd hp slot).trans (congrArg Host.Outcome.next ?_)
  rw [whole, State.scanEnd_quiet (State.scanStep_whole hc hq hf hu hn) (phase.trans hp) hw he (rack.trans hr),
    LogStore.voids_eq hc hf, hq]
  rfl

/-! ### A torn slot and the queue (R191) -/

theorem LogStore.number_concat {l : LogStore} {rest : List Entry} {x : Entry} (h : l.queue = rest ++ [x]) :
    l.number = { l with nextNumber := (x.seq + 1) % 4294967296 } := by
  simp only [LogStore.number, h, List.getLast?_concat]
  rfl

/-- The queue after a scan that finds it overdrawn: its back is dropped, and withdrawn (R191, log entry 38). -/
theorem State.scanStep_drops {s : State} {found : CutWrite} {l kept : LogStore} {e x : Entry} {more : List Entry}
    (hscan : s.log.scan found = l) (hq : l.queue = e :: (more ++ [x]))
    (ha : atOrBefore e.seq l.lastWritten = false) (hd : l.emptySlots + 32 * l.usablePages < l.queue.length)
    (hk : kept = { l with queue := e :: more, lostCount := min 255 (l.lostCount + 1) }) :
    s.scanStep found = { s with
      dispatch := (State.withdrawExpiry { s with log := kept } x).dispatch
      log := { kept with nextNumber := (((e :: more).getLast (List.cons_ne_nil e more)).seq + 1) % 4294967296 } } := by
  have number : kept.number =
      { kept with nextNumber := (((e :: more).getLast (List.cons_ne_nil e more)).seq + 1) % 4294967296 } :=
    LogStore.number_concat (by rw [hk]; exact (List.dropLast_append_getLast _).symm)
  rw [State.scanStep_kept hscan hq ha, State.dropBack_drops (s := { s with log := l }) (rest := e :: more) hq hd,
    State.withdrawExpiry_frame, ← number, hk]

/-- After a torn slot, with the queue decided, the ports open (R191 to R193). -/
theorem scan_torn_opens {s after : State} {slot : List Byte} {p : PageNo} {e : Entry} (hp : s.phase = .step3)
    (hc : s.log.cutWrite = some e) (hf : (s.log.page p).state = .filling)
    (hb : ∃ b ∈ slot, b ≠ 0xFF#8) (hcrc : crc16 (slot.take 30) ≠ field slot 30 2) (hlen : slot.length = 32)
    (hscan : s.scanStep .torn = after) (ha : after.phase = .step3) (hw : after.log.writing = false)
    (he : after.log.engine = ⟨.idle, [], none, none⟩) (hr : after.rack = ⟨[], none, none, false, false, []⟩) :
    exec (.startUpScanEnd slot) s = .next (after.opened 1 (s.log.queue.length - after.log.queue.length)) := by
  have torn : slotTest slot = .torn := by
    rw [(slotTest_spec slot).2 hb, if_neg fun h => hcrc (h.trans (field_check hlen).symm)]
  refine (exec_startUpScanEnd hp slot).trans (congrArg Host.Outcome.next ?_)
  rw [torn, State.scanEnd_quiet hscan ha hw he hr, LogStore.voids_eq hc hf]
  rfl

/-- Settles O48: the erases of step 2, a clean scan, and a scan that finds a cut write by what its slot holds. -/
theorem startUpScansAndOpensThePorts : Obligations.StartUpScansAndOpensThePorts := by
  refine ⟨fun s p verified phase pages hp hr hl hg => exec_startUpEraseEnd hp hr hl hg,
    fun s slot n status l counted hp hc hq hw he hn hr hs hl hcount => ?_,
    fun s slot p e n hp hc hq hl hw he hf hu hn _ => scan_decides_cutWrite s slot p e n hp hc hq hl hw he hf hu hn,
    fun s found slot p e i d hp hc hq hw he hr ho hg hf hu hn hd href hb hcrc hlen hfound => ?_,
    fun s found kept slot p e x y more hp hc hq hw he hr hdiff hf hu hn hy ha hb hcrc hlen hfound => ⟨fun hfits => ?_,
      fun hdrawn hkept hslots => ?_⟩⟩
  · rw [scan_clean_opens s slot n hp hc hq hw he hn hr, hcount, hl, hs]
    rfl
  · rw [scan_whole_opens hp hc hq hw he hr hf hu hn hb hcrc hlen, State.complete_eq hd href]
    refine ⟨fun n hs hdriver hcode => ?_, fun hs hcode left hleft hbays => ?_, fun hs hcode => ?_,
      fun new old sup hx => ?_⟩
    · obtain ⟨_, _, _, _, _, _, _, _, hx⟩ := Payload.code_release hcode
      simp only [State.completeFor, hx, if_pos hs]
      rw [State.replyAwaited_none, State.commit, hdriver]
      · simp only [State.updDriver, commitRing_eq, hfound]
        rfl
      · rw [State.commit_frame]; exact ho
      · rw [State.commit_frame]; exact hg
    · obtain ⟨_, _, hx⟩ := Payload.code_cancel hcode
      simp only [State.completeFor, hx, if_pos hs]
      rw [State.replyAwaited_none (s := (s.unbind i).takeLeave i) ho hg]
      have bays : left.bays = ((s.unbind i).takeLeave i).bays :=
        vector_ext fun b => (hbays b).trans (State.bay_takeLeave (s.unbind i) i b).symm
      rw [hleft, hfound, bays]
      rfl
    · obtain ⟨_, _, hx⟩ := Payload.code_expire hcode
      simp only [State.completeFor, hx, if_pos hs, hfound]
      rfl
    · simp only [State.completeFor, hx, hfound]
      rw [State.replyAwaited_none (s := s.setSlot i (some { d with overrides := new, supervisor := some sup })) ho hg]
      rfl
  · have scanned : s.log.scan .torn = found.log := by rw [LogStore.scan_torn hc hf hu hn hy, hfound]
    have queue : found.log.queue = (e :: more) ++ [x] := by rw [hfound]; exact hq
    have step := State.scanStep_fits scanned queue (by rw [hfound]; exact ha)
      (by rw [queue]; simpa only [List.length_append, List.length_cons, List.length_nil] using hfits)
    have after : s.scanStep .torn =
        { found with log := { found.log with nextNumber := (x.seq + 1) % 4294967296 } } := by
      rw [step, LogStore.number_concat queue, hfound]
    rw [scan_torn_opens hp hc hf hb hcrc hlen after (by rw [hfound]; exact hp) (by rw [hfound]; exact hw)
      (by rw [hfound]; exact he) (by rw [hfound]; exact hr), queue, hq]
    simp
  · have scanned : s.log.scan .torn = found.log := by rw [LogStore.scan_torn hc hf hu hn hy, hfound]
    have queue : found.log.queue = e :: (more ++ [x]) := by rw [hfound]; exact hq
    have step := State.scanStep_drops scanned queue (by rw [hfound]; exact ha)
      (by rw [queue]; simpa [Nat.lt_succ_iff] using hdrawn) rfl
    obtain ⟨l, hl⟩ : ∃ l, l = { found.log with
      queue := e :: more
      lostCount := min 255 (found.log.lostCount + 1) } := ⟨_, rfl⟩
    rw [← hl] at step
    have tables : kept.dispatch = (State.withdrawExpiry { s with log := l } x).dispatch :=
      vector_ext fun j => (hslots j).trans (State.slot_withdrawExpiry (s := { s with log := l }) hdiff x j).symm
    have after : s.scanStep .torn = kept := by
      rw [step, ← tables, hkept, hl, hfound]
    rw [scan_torn_opens hp hc hf hb hcrc hlen after (by rw [hkept, hfound]; exact hp) (by rw [hkept, hfound]; exact hw)
      (by rw [hkept, hfound]; exact he) (by rw [hkept, hfound]; exact hr), hq]
    have shorter : (e :: (more ++ [x])).length - kept.log.queue.length = 1 := by rw [hkept]; simp
    rw [shorter]

/-! ### Reads that leave the state as it is -/

/-- A request whose owner answers and changes nothing. -/
theorem State.request_read {s : State} {p : Port} {tag code : Nat} {body : ReqBody} {y : FrameBody}
    (h : s.ready p tag) (hc : (knownCode code && belongsTo p code) = true) (hl : body ≠ .badLength)
    (ho : (s.serving p tag code).owner p tag body = (s.serving p tag code, y)) :
    s.request p ⟨tag, code, body⟩ = s.responded p tag code y := by
  obtain ⟨hp, hstore, hs, hq, ht⟩ := h
  exact State.request_refused ⟨hp, hstore, hs, hq⟩ hc hl (.inr ht) ho

theorem badDriver_iff {n : Nat} : badDriver n = true ↔ ¬ driverNumber n := by
  simp only [badDriver, within, driverNumber, Bool.not_eq_true', Bool.and_eq_false_iff, decide_eq_false_iff_not]
  omega

/-- DRIVER_READ answers with the entry, or by its checks (R111). -/
theorem State.driverRead_eq {s : State} {n : Nat} {x : Driver} (hn : driverNumber n) (hx : s.driver n = some x) :
    s.driverRead n = (s, .done (.driver (s.driverView x))) := by
  rw [State.driverRead, if_neg (mt badDriver_iff.1 (not_not.2 hn)), hx]

theorem State.driverRead_failing {s : State} {n : Nat} {y : FrameBody} (h : firstFailing (s.driverReadChecks n) y) :
    s.driverRead n = (s, y) := by
  refine h.ite badDriver_iff.symm fun _ h => ?_
  cases hx : s.driver n with
  | none => rw [h.answer hx]
  | some x => exact ((h.skip (by simp [hx])).elim)

/-- HOURS_QUERY answers with the hours of the driver, or by its checks (R120). -/
theorem State.hoursQuery_eq {s : State} {n now : Nat} {x : Driver} (hn : driverNumber n) (ht : s.time = some now)
    (hx : s.driver n = some x) : s.hoursQuery n = (s, .done (s.hours x now)) := by
  simp only [State.hoursQuery, if_neg (mt badDriver_iff.1 (not_not.2 hn)), ht, hx]

theorem State.hoursQuery_failing {s : State} {n : Nat} {y : FrameBody}
    (h : firstFailing (s.hoursQueryChecks n) y) : s.hoursQuery n = (s, y) := by
  refine h.ite badDriver_iff.symm fun _ h => ?_
  cases ht : s.time with
  | none => rw [h.answer ht]
  | some now =>
    replace h := h.skip (by simp [ht])
    cases hx : s.driver n with
    | none => rw [h.answer hx]
    | some x => exact (h.skip (by simp [hx])).elim

theorem DelState.papered_iff {x : DelState} : x.papered = true ↔ x = .loaded ∨ x = .held ∨ x = .releasing := by
  cases x <;> simp [DelState.papered]

/-- PAPER_READ answers with the paper, or by its checks (R131). -/
theorem State.paperRead_eq {s : State} {i : SlotNo} {d : Delivery} {paper : Paper} (hd : s.holdsAt i d)
    (hr : d.ref ≠ 0) (hp : d.paper = some paper) (hs : d.state = .loaded ∨ d.state = .held ∨ d.state = .releasing) :
    s.paperRead d.ref = (s, .done (.paper ⟨d.ref, d.driver, d.vehicle, d.state, d.holds, paper⟩)) := by
  simp only [State.paperRead, if_neg hr, State.find_of_holdsAt hd, hp, if_pos (DelState.papered_iff.2 hs)]

theorem State.paperRead_failing {s : State} {ref : Nat} {y : FrameBody} (hu : s.refsDiffer)
    (h : firstFailing (s.paperReadChecks ref) y) : s.paperRead ref = (s, y) := by
  refine h.ite Iff.rfl fun _ h => ?_
  cases hf : s.find ref with
  | none => rw [h.answer (State.not_holdsOne hf _)]
  | some y =>
    obtain ⟨i, d⟩ := y
    replace h := h.skip (not_not.2 ((State.holdsOne_iff hu hf).2 trivial))
    have unloaded := (State.holdsOne_iff hu hf).1 (by_contra fun hn => h.skip hn)
    rw [h.answer ((State.holdsOne_iff hu hf).2 unloaded)]
    dsimp only
    split
    · rfl
    · rename_i paper hp
      refine if_neg fun hs => ?_
      have loaded := DelState.papered_iff.1 hs
      rcases unloaded with hn | hn
      · exact hn (by simpa using loaded)
      · simp [hp] at hn

/-! ### LOG_READ (R157) -/

/-- The entry of a number that the store holds. -/
theorem LogStore.entryOf_stored {l : LogStore} {p : PageNo} {e : Entry} (hu : l.seqsDiffer)
    (he : .entry e ∈ (l.page p).used) : l.entryOf e.seq = some e := by
  have mem : ∀ f, f ∈ l.entries ↔ ∃ q, .entry f ∈ (l.page q).used := by
    simp [LogStore.entries, mem_page_entries]
  cases hf : l.entryOf e.seq with
  | none => simpa using List.find?_eq_none.1 hf e ((mem e).2 ⟨p, he⟩)
  | some f =>
    obtain ⟨q, hq⟩ := (mem f).1 (List.mem_of_find?_eq_some hf)
    rw [hu q p f e hq he (by simpa using List.find?_some hf)]

/-- The entries that LOG_READ gives. -/
theorem LogStore.readFrom_eq {l : LogStore} {n count : Nat} {es : List Entry} (hw : l.everWritten = true)
    (hu : l.seqsDiffer) (h : l.reads n count es) : l.readFrom n count = es := by
  obtain ⟨hlen, each, last⟩ := h
  have seqs : (List.range es.length).map (fun k => (n + k) % 4294967296) = es.map Entry.seq := by
    refine List.ext_getElem (by simp) fun j h1 h2 => ?_
    have hj : j < es.length := by simpa using h2
    simpa using (each j es[j] (List.getElem?_eq_getElem hj)).1.symm
  have written : ∀ m ∈ es.map Entry.seq, l.isWritten m = true := by
    intro m hm
    obtain ⟨e, he, rfl⟩ := List.mem_map.1 hm
    obtain ⟨j, hj⟩ := List.mem_iff_getElem?.1 he
    simp [LogStore.isWritten, hw, (each j e hj).2.1]
  obtain ⟨k, rfl⟩ := Nat.exists_eq_add_of_le hlen
  have tail : (((List.range k).map (es.length + ·)).map fun j => (n + j) % 4294967296).takeWhile l.isWritten = [] := by
    cases k with
    | zero => rfl
    | succ k =>
      have stop : l.isWritten ((n + es.length) % 4294967296) = false := by
        simp [LogStore.isWritten, last.resolve_left (by omega)]
      simp [List.range_succ_eq_map, stop]
  have taken : ((List.range (es.length + k)).map fun j => (n + j) % Config.wrap32).takeWhile l.isWritten =
      es.map Entry.seq := by
    rw [List.range_add, List.map_append]
    exact (congrArg _ (congrArg (· ++ _) seqs)).trans
      ((List.takeWhile_append_of_pos written).trans ((congrArg _ tail).trans (List.append_nil _)))
  rw [LogStore.readFrom, taken, List.filterMap_map]
  refine (List.filterMap_congr fun e he => ?_).trans List.filterMap_some
  obtain ⟨j, hj⟩ := List.mem_iff_getElem?.1 he
  obtain ⟨-, -, p, hp⟩ := each j e hj
  exact LogStore.entryOf_stored hu hp

theorem within_iff {lo hi n : Nat} : within lo hi n = true ↔ lo ≤ n ∧ n ≤ hi := by simp [within]

/-- LOG_READ answers with the entries, or by its checks (R157). -/
theorem State.logRead_eq {s : State} {n count : Nat} {page : PageNo} {es : List Entry} (h1 : 1 ≤ count)
    (h8 : count ≤ 8) (he : s.log.everWritten = true) (hn : atOrBefore n s.log.lastWritten = true)
    (hp : s.log.pageOf n = some page) (hr : (s.log.page page).state ≠ .reclaiming) (hu : s.log.seqsDiffer)
    (hes : s.log.reads n count es) :
    s.logRead n count = (s, .done (.log n es s.log.lastWritten s.log.exportMark)) := by
  have counted : within 1 8 count = true := within_iff.2 ⟨h1, h8⟩
  have written : s.log.isWritten n = true := by simp [LogStore.isWritten, he, hn]
  simp only [State.logRead, counted, written, hp, if_neg hr, LogStore.readFrom_eq he hu hes]
  rfl

theorem State.logRead_failing {s : State} {n count : Nat} {y : FrameBody}
    (h : firstFailing (s.log.readChecks n count) y) : s.logRead n count = (s, y) := by
  refine h.ite ?_ fun _ h => h.ite ?_ fun _ h => ?_
  · rw [Bool.not_eq_true', Bool.eq_false_iff, ne_eq, within_iff]
    omega
  · simp [LogStore.isWritten]
  · cases hp : s.log.pageOf n with
    | none => rw [(h.skip (by simp [hp])).answer hp]
    | some p =>
      refine h.ite ⟨?_, fun hr => ⟨p, hp, hr⟩⟩ fun _ h => (h.skip (by simp [hp])).elim
      rintro ⟨q, hq, hr⟩
      rwa [Option.some.inj (hp.symm.trans hq)]

/-! ### DELIVERY_READ and BAY_READ: readouts that can limit (R51) -/

/-- The readouts of a set: LIMITED where A or G is above what they can show (R48, R49). -/
theorem Acc.afterReadouts_eq (a : Acc) : a.afterReadouts = { a with flags := { a.flags with
    limited := a.flags.limited || decide (42949345280 ≤ a.A) || decide (655355 ≤ a.G) } } := by
  have net : 65535 < a.rawNet ↔ 42949345280 ≤ a.A := by unfold Acc.rawNet; omega
  have gross : 65535 < a.rawGross ↔ 655355 ≤ a.G := by unfold Acc.rawGross; omega
  simp only [Acc.afterReadouts, net, gross]

theorem Compartment.afterReadouts_eq : Compartment.afterReadouts = fun c =>
    { c with acc := { c.acc with flags := { c.acc.flags with
      limited := c.acc.flags.limited || decide (42949345280 ≤ c.acc.A) || decide (655355 ≤ c.acc.G) } } } :=
  funext fun c => by rw [Compartment.afterReadouts, Acc.afterReadouts_eq]

/-- An arm record after the readout of its orphan, if it holds one (R51, R77). -/
def ArmRecord.readOut : ArmRecord → ArmRecord
  | .orphan o => .orphan { o with acc := o.acc.afterReadouts }
  | x => x

/-- The readouts of a bay's orphans write its arm records alone. -/
theorem State.orphanReadouts_eq (s : State) (b : BayNo) : s.orphanReadouts b = s.setBay b { s.bay b with
    armA := (s.bay b).armA.readOut
    armB := (s.bay b).armB.readOut } := by
  have read : ∀ (t : State) (a : Arm), t.updOrphan b a (fun o => { o with acc := o.acc.afterReadouts }) =
      t.setBay b ((t.bay b).setArmRecord a ((t.bay b).armRecord a).readOut) := by
    intro t a
    rw [State.updOrphan_eq]
    rfl
  rw [State.orphanReadouts, read, read]
  simp [BayRecord.setArmRecord, BayRecord.armRecord]

/-- BAY_READ of a bay (R77). -/
theorem State.bayRead_bay (s : State) (b : BayNo) : s.bayRead (b.val + 1) =
    (s.orphanReadouts b, .done (.bay ((s.orphanReadouts b).bayView b))) := dif_pos ⟨by omega, by omega⟩

theorem State.bayRead_out {s : State} {n : Nat} (h : 12 < n) : s.bayRead n = (s, .refused .badField) := by
  rw [State.bayRead, dif_neg (by omega), if_neg (by omega)]

/-- Settles O16: each request reaches its owner, which answers from the state or by the first check that fails. -/
theorem readsAnswerFromTheState : Obligations.ReadsAnswerFromTheState := by
  refine ⟨fun s tag i d e h hd he => ?_, fun s tag h => ⟨fun b t read hread ht => ?_, ?_⟩, fun s tag =>
    ⟨fun p h => ?_, fun h => ⟨?_, fun n x h1 h2 hx => ?_, fun code h1 h2 => ?_, ?_,
      fun n k page es h1 h8 he hn hp hr hu hes => ?_⟩,
      fun h => ⟨fun n x now h1 h2 ht hx => ?_, fun i d paper hd hr hp hs => ?_⟩⟩,
    fun s tag n k y => ⟨fun h => ⟨fun hn => ?_, fun hf => ?_, fun hn => ?_, fun hf => ?_, fun hn => ?_⟩,
      fun h hu => ⟨fun hf => ?_, fun hf => ?_⟩⟩⟩
  all_goals refine congrArg Host.Outcome.next ?_
  · have record : d.readouts = e := by rw [he, Delivery.readouts, Compartment.afterReadouts_eq]
    have find : (s.serving .office tag 0x06).find d.ref = some (i, d) := State.find_of_holdsAt hd
    rw [State.request_answered (body := .deliveryRead d.ref) (x := (s.serving .office tag 0x06).setSlot i (some e))
      h rfl (by simp) (by simp only [State.owner, State.deliveryRead, find, record]; rfl)]
    rfl
  · have same : read = ArmRecord.readOut := funext fun x => by
      rw [hread]
      cases x with
      | orphan o => simp only [ArmRecord.readOut, Acc.afterReadouts_eq]
      | _ => rfl
    rw [State.request_answered (body := .bayRead (b.val + 1)) h rfl (by simp) (State.bayRead_bay _ b), ht, same,
      State.orphanReadouts_eq]
    rfl
  · exact State.request_read (body := .bayRead 0) h rfl (by simp) rfl
  · obtain ⟨hp, hs, hq, ht⟩ := h
    have unchanged : (s.serving p tag 0x16).statusView = s.statusView := by cases p <;> rfl
    rw [State.request_served hp hs hq (State.portRefusal_none hp (by cases p <;> rfl) (by simp) (.inr rfl) (.inr ht)),
      State.owner, State.status, unchanged, State.answer_unchanged]
  · exact State.request_read (body := .settingsRead) h rfl (by simp) rfl
  · exact State.request_read (body := .driverRead n) h rfl (by simp)
      (State.driverRead_eq (s := s.serving .office tag 0x09) ⟨h1, h2⟩ hx)
  · exact State.request_read (body := .productRead code) h rfl (by simp)
      ((if_neg (by omega)).trans (if_neg (by omega)))
  · exact State.request_read (body := .productRead 0) h rfl (by simp) rfl
  · exact State.request_read (body := .logRead n k) h rfl (by simp)
      (State.logRead_eq (s := s.serving .office tag 0x11) h1 h8 he hn hp hr hu hes)
  · exact State.request_read (body := .hoursQuery n) h rfl (by simp)
      (State.hoursQuery_eq (s := s.serving .gate tag 0x21) ⟨h1, h2⟩ ht hx)
  · exact State.request_read (body := .paperRead d.ref) h rfl (by simp)
      (State.paperRead_eq (s := s.serving .gate tag 0x23) hd hr hp hs)
  · have absent : (s.serving .office tag 0x06).find n = none := by
      cases hf : s.find n with
      | none => exact hf
      | some x => exact absurd ⟨x.1, x.2, (State.find_some hf).1, (State.find_some hf).2, trivial⟩ hn
    exact State.request_read (body := .deliveryRead n) h rfl (by simp)
      (by simp only [State.owner, State.deliveryRead, absent])
  · exact State.request_read (body := .driverRead n) h rfl (by simp)
      (State.driverRead_failing (s := s.serving .office tag 0x09) hf)
  · exact State.request_read (body := .productRead n) h rfl (by simp) (if_pos hn)
  · exact State.request_read (body := .logRead n k) h rfl (by simp)
      (State.logRead_failing (s := s.serving .office tag 0x11) hf)
  · exact State.request_read (body := .bayRead n) h rfl (by simp) (State.bayRead_out hn)
  · exact State.request_read (body := .hoursQuery n) h rfl (by simp)
      (State.hoursQuery_failing (s := s.serving .gate tag 0x21) hf)
  · exact State.request_read (body := .paperRead n) h rfl (by simp)
      (State.paperRead_failing (s := s.serving .gate tag 0x23) hu hf)

/-! ### Owners and their refusals -/

/-- An owner's result that, where it answers RETRY or REFUSED, leaves the state as it was. -/
def State.Keeps (s : State) (x : State × FrameBody) : Prop := x.2.kind = 4 ∨ x.2.kind = 5 → x.1 = s

theorem State.Keeps.same {s : State} {y : FrameBody} : s.Keeps (s, y) := fun _ => rfl

theorem State.Keeps.accepted {s : State} {x : State × FrameBody} (h : x.2.kind = 2 ∨ x.2.kind = 3) : s.Keeps x := by
  intro h'
  omega

theorem State.Keeps.done {s t : State} {b : DoneBody} : s.Keeps (t, .done b) := .accepted (.inl rfl)

theorem State.Keeps.ite {s : State} {c : Prop} [Decidable c] {x y : State × FrameBody} (hx : s.Keeps x)
    (hy : s.Keeps y) : s.Keeps (if c then x else y) := by
  split <;> assumption

section
variable (s : State) (p : Port) (tag : Nat)

theorem State.Keeps.book (b : BookBody) : s.Keeps (s.book b) := by
  refine .ite .same ?_
  split
  · exact .same
  · refine .ite .same ?_
    split
    · exact .same
    · exact .same
    · split
      · exact .same
      · exact .done

theorem State.Keeps.amend (b : AmendBody) : s.Keeps (s.amend b) := by
  refine .ite .same ?_
  split
  · exact .same
  · refine .ite .same (.ite .same (.ite .same ?_))
    split
    · exact .same
    · exact .done

theorem State.Keeps.cancel (ref : Nat) : s.Keeps (s.cancel p tag ref) := by
  unfold State.cancel
  split
  · exact .same
  · refine .ite .same (.ite .same ?_)
    split
    · exact .same
    · exact .accepted (.inr rfl)

theorem State.Keeps.detach (ref : Nat) : s.Keeps (s.detach ref) := by
  unfold State.detach
  split
  · exact .same
  · refine .ite .same (.ite .same ?_)
    split
    · exact .same
    · exact .done

theorem State.Keeps.override (ref set supervisor : Nat) : s.Keeps (s.override p tag ref set supervisor) := by
  unfold State.override
  split
  · exact .same
  · refine .ite .same ?_
    split
    · exact .same
    · refine .ite .same (.ite .same ?_)
      split
      · exact .same
      · exact .accepted (.inr rfl)

theorem State.Keeps.deliveryRead (ref : Nat) : s.Keeps (s.deliveryRead ref) := by
  unfold State.deliveryRead
  split
  · exact .same
  · exact .done

theorem State.Keeps.driverRegister (n day : Nat) : s.Keeps (s.driverRegister n day) := by
  refine .ite .same ?_
  split
  · exact .ite .same .done
  · exact .ite .same .done

theorem State.Keeps.driverRemove (n : Nat) : s.Keeps (s.driverRemove n) := by
  refine .ite .same ?_
  split
  · exact .same
  · exact .ite .same (.ite .same .done)

theorem State.Keeps.driverRead (n : Nat) : s.Keeps (s.driverRead n) := by
  refine .ite .same ?_
  split <;> exact .same

theorem State.Keeps.productDefine (b : ProductBody) : s.Keeps (s.productDefine b) := by
  unfold State.productDefine
  split
  · exact .same
  · exact .ite .same (.ite .same .done)

theorem State.Keeps.productState (code target : Nat) : s.Keeps (s.productState code target) := by
  unfold State.productState
  split
  · exact .same
  · exact .ite .same (.ite .same .done)

theorem State.Keeps.timeSet (value : Nat) : s.Keeps (s.timeSet value) := by
  refine .ite .same (.ite .same ?_)
  split
  · exact .same
  · exact .done

theorem State.Keeps.logRead (n count : Nat) : s.Keeps (s.logRead n count) := by
  refine .ite .same (.ite .same ?_)
  split
  · exact .same
  · exact .ite .same .same

theorem State.Keeps.reclaim (n : Nat) : s.Keeps (s.reclaim p tag n) := by
  unfold State.reclaim
  split
  · refine .ite .same ?_
    split
    · exact .same
    · exact .accepted (.inr rfl)
  · exact .same

theorem State.Keeps.bayRead (n : Nat) : s.Keeps (s.bayRead n) := by
  unfold State.bayRead
  split
  · exact .done
  · exact .ite .done .same

theorem State.Keeps.restart (kind : Nat) : s.Keeps (s.restart kind) := by
  unfold State.restart
  split
  · exact .same
  · exact .done
  · exact .ite .done .same

theorem State.Keeps.announce (b : ArriveBody) : s.Keeps (s.announce b) := by
  refine .ite .same ?_
  split
  · exact .same
  · split
    · exact .same
    · refine .ite .same (.ite .same ?_)
      split
      · exact .same
      · split
        · exact .same
        · exact .same
        · exact .done

theorem State.Keeps.hoursQuery (n : Nat) : s.Keeps (s.hoursQuery n) := by
  refine .ite .same ?_
  split
  · exact .same
  · split <;> exact .same

theorem State.Keeps.paperRead (ref : Nat) : s.Keeps (s.paperRead ref) := by
  refine .ite .same ?_
  split
  · exact .same
  · split
    · exact .same
    · exact .ite .same .same

/-! ### RELEASE -/

/-- The answers of a RELEASE that leave readouts taken: REFUSED HELD, and those of its last step (R134). -/
def FrameBody.afterReadouts (y : FrameBody) : Prop :=
  y = .refused .tagInUse ∨ y = .retry .deferLimit ∨ y = .retry .logBusy ∨ y = .refused .logFull
    ∨ ∃ holds raised m n k, y = .refusedHeld holds raised m n k

/-- The answers of the deferral checks and the admission test (R151, R172). -/
theorem State.deferrableRefusal_answers {s : State} {p : Port} {tag : Nat} {y : FrameBody}
    (h : s.deferrableRefusal p tag = some y) : y.afterReadouts := by
  unfold State.deferrableRefusal PortState.deferralRefusal LogStore.requesterRefusal at h
  unfold FrameBody.afterReadouts
  grind

/-- A RELEASE refused before its hold computation changes nothing (R134). -/
theorem State.Keeps.release (ref n : Nat) :
    (s.release p tag ref n).2.afterReadouts ∨ s.Keeps (s.release p tag ref n) := by
  have passes : ∀ {c : Prop} [Decidable c] {y : FrameBody} {x : State × FrameBody},
      x.2.afterReadouts ∨ s.Keeps x →
        (if c then (s, y) else x).2.afterReadouts ∨ s.Keeps (if c then (s, y) else x) := by
    intro c _ y x hx
    split
    · exact .inr .same
    · exact hx
  refine passes ?_
  split
  · exact .inr .same
  · refine passes (passes (passes (passes ?_)))
    dsimp only
    split
    · exact .inl (.inr (.inr (.inr (.inr ⟨_, _, _, _, _, rfl⟩))))
    · unfold State.acceptRelease
      dsimp only
      split
      · exact .inl (State.deferrableRefusal_answers ‹_›)
      · exact .inr (.accepted (.inr rfl))

/-- Every owner's refusal leaves the state, but for a RELEASE's after its readouts. -/
theorem State.Keeps.owner (body : ReqBody) : (∃ ref n, body = .release ref n)
    ∧ (s.owner p tag body).2.afterReadouts ∨ s.Keeps (s.owner p tag body) := by
  cases body with
  | release ref n => exact (State.Keeps.release s p tag ref n).imp (fun h => ⟨⟨ref, n, rfl⟩, h⟩) id
  | book b => exact .inr (.book s b)
  | amend b => exact .inr (.amend s b)
  | cancel ref => exact .inr (.cancel s p tag ref)
  | detach ref => exact .inr (.detach s ref)
  | override ref set sup => exact .inr (.override s p tag ref set sup)
  | deliveryRead ref => exact .inr (.deliveryRead s ref)
  | driverRegister n day => exact .inr (.driverRegister s n day)
  | driverRemove n => exact .inr (.driverRemove s n)
  | driverRead n => exact .inr (.driverRead s n)
  | productDefine b => exact .inr (.productDefine s b)
  | productState code st => exact .inr (.productState s code st)
  | productRead code => exact .inr (.ite .same (.ite .done .done))
  | settingsWrite b => exact .inr (.ite .same .done)
  | settingsRead => exact .inr .done
  | timeSet value => exact .inr (.timeSet s value)
  | shutdownClear => exact .inr (.ite .same (.ite .done .done))
  | logRead n count => exact .inr (.logRead s n count)
  | logAck n => exact .inr .done
  | reclaim n => exact .inr (.reclaim s p tag n)
  | bayRead n => exact .inr (.bayRead s n)
  | restart kind => exact .inr (.restart s kind)
  | status => exact .inr .done
  | arrive b => exact .inr (.announce s b)
  | hoursQuery n => exact .inr (.hoursQuery s n)
  | paperRead ref => exact .inr (.paperRead s ref)
  | unknown => exact .inr .same
  | badLength => exact .inr .same

end

/-! ### The port -/

/-- A request command is the arrival of its request. -/
theorem exec_requestOf {c : Instr} {p : Port} {r : Request} (h : requestOf c = some (p, r)) (s : State) :
    exec c s = .next (s.request p r) := by
  cases c <;> simp only [requestOf, Option.some.injEq, Prod.mk.injEq, reduceCtorEq] at h <;>
    obtain ⟨rfl, rfl⟩ := h <;> rfl

theorem requestOf_release {c : Instr} {p : Port} {r : Request} {ref n : Nat} (h : requestOf c = some (p, r))
    (hr : r.body = .release ref n) : r.code = 0x22 := by
  cases c <;> simp only [requestOf, Option.some.injEq, Prod.mk.injEq, reduceCtorEq] at h <;>
    obtain ⟨rfl, rfl⟩ := h <;> simp_all

/-- At a port with none in service and none waiting a request enters service at once (R168). -/
theorem State.request_serve {s : State} {p : Port} (r : Request) (hp : s.phase ≠ .unpowered)
    (hs : (s.port p).inService = none) (hq : (s.port p).queue = []) : s.request p r = s.serve p r := by
  have powered : s.powered = true := by simpa [State.powered] using hp
  simp [State.request, powered, State.arrive, hs, hq]

/-- The answer stands last on the port's outgoing list (R169). -/
theorem State.answer_last {p : Port} {tag code : Nat} {x : State × FrameBody} {f : OutFrame}
    (h : ((State.answer p tag code x).port p).outgoing.getLast? = some f) : f = ⟨tag, code, x.2⟩ := by
  simpa [State.answer, State.push, eq_comm] using h

/-- Settles O5: the port's own refusals and every owner's leave the state, and the answer is made on the port. -/
theorem refusedRequestsChangeNothing : Obligations.RefusedRequestsChangeNothing := by
  intro c p r s t f hc hp hs hq ht hf hk hr
  rw [exec_requestOf hc, State.request_serve r hp hs hq] at ht
  obtain rfl := Host.Outcome.next.inj ht
  have kept : ∀ x : State × FrameBody, State.answer p r.tag r.code x = s.serve p r → x.1 = s.serving p r.tag r.code →
      s.serve p r = s.responded p r.tag r.code f.body := by
    intro x hx h1
    obtain rfl := State.answer_last (x := x) (by rw [hx]; exact hf)
    rw [← hx, ← State.answer_unchanged, ← h1]
  have serve : s.serve p r = State.answer p r.tag r.code
      (match (s.serving p r.tag r.code).portRefusal p r with
      | some y => (s.serving p r.tag r.code, y)
      | none => (s.serving p r.tag r.code).owner p r.tag r.body) := rfl
  cases href : (s.serving p r.tag r.code).portRefusal p r with
  | some y => exact kept (s.serving p r.tag r.code, y) (by rw [serve, href]) rfl
  | none =>
    have served : State.answer p r.tag r.code ((s.serving p r.tag r.code).owner p r.tag r.body) = s.serve p r := by
      rw [serve, href]
    have answer := State.answer_last (by rw [served]; exact hf)
    refine kept _ served ?_
    rcases State.Keeps.owner (s.serving p r.tag r.code) p r.tag r.body with ⟨⟨ref, n, hb⟩, hx⟩ | keeps
    · obtain ⟨h1, h2, h3, h4, h5⟩ := hr (requestOf_release hc hb)
      rw [answer] at h1 h2 h3 h4 h5
      rcases hx with h | h | h | h | ⟨_, _, _, _, _, h⟩
      · exact absurd h h1
      · exact absurd h h2
      · exact absurd h h3
      · exact absurd h h4
      · exact (h5 _ _ _ _ _ h).elim
    · exact keeps (by rw [answer] at hk; exact hk)

end Sys2Proof.Machine

namespace Sys2Proof.Machine

/-! ### Accumulator sets through an increment -/

theorem Acc.zero_lawful : Acc.zero.lawful := by
  unfold Acc.lawful
  decide

/-- Stages 4 to 6 stop every total at its bound (R46). -/
theorem accumulate_lawful {a : Acc} (hL : a.L ≤ 16777215) (dg f : Nat) (t : Int) : (accumulate a dg f t).lawful := by
  simp only [Acc.lawful, accumulate, boundS]
  omega

/-- An increment of a report's cumulative leaves a set within its bounds, whatever its table gives (R42, R46). -/
theorem increment_lawful {a : Acc} (h : a.lawful) {c : Nat} (hc : c ≤ 16777215) (points : List CorrPoint) (t : Int) :
    (increment points a c t).acc.lawful := by
  obtain ⟨hL, hA, hG, hlo, hhi⟩ := h
  have hmax : max a.L c ≤ 16777215 := max_le hL hc
  unfold increment
  dsimp only
  split
  · exact ⟨hmax, hA, hG, hlo, hhi⟩
  · exact accumulate_lawful hmax ..

theorem judgeReport_lawful {a : Acc} (h : a.lawful) {x : Report} (hx : x.cumulative ≤ 16777215)
    (points : List CorrPoint) (planned capacity allowance : Nat) :
    (judgeReport points a planned capacity allowance x).acc.lawful :=
  increment_lawful h hx points x.temp

/-- The cumulatives of a STATUS answer are numbers of 24 bits (R195). -/
def Answer.bounded : Answer → Prop
  | .status reports => ∀ x ∈ reports, x.cumulative ≤ 16777215
  | _ => True

theorem reportOf_bounded (v w : RxWord) : (reportOf v w).cumulative ≤ 16777215 := by
  simp only [reportOf, bits]
  omega

theorem answerOf_bounded {head : RxWord} {data : List RxWord} {a : Answer} (h : answerOf head data = some a) :
    a.bounded := by
  unfold answerOf at h
  split at h <;> cases h <;> simp [Answer.bounded, reportOf_bounded]

theorem decodeAnswer_bounded {b : BayNo} {words : List RxWord} {a : Answer} (h : decodeAnswer b words = some a) :
    a.bounded := by
  unfold decodeAnswer at h
  split at h
  · cases h
  · dsimp only at h
    split at h
    · exact answerOf_bounded h
    · cases h

/-! ### What keeps the sets and the products named with them -/

/-- A set within its bounds, beside a code that the product table of `r` defines (R29, R40). -/
def State.sound (r : State) (code : Nat) (a : Acc) : Prop := a.lawful ∧ (r.product code).state ≠ .undefined

/-- A state with the product table of `r`, in which every compartment and orphan has a set within its bounds and
names a code that this table defines. -/
structure Metered (r s : State) : Prop where
  products : s.products = r.products
  comps : ∀ i d, s.slot i = some d → ∀ c ∈ d.comps, r.sound c.product c.acc
  orphans : ∀ b x o, s.arm b x = .orphan o → r.sound o.product o.acc

namespace Metered

variable {r s t : State}

theorem product (m : Metered r s) (code : Nat) : s.product code = r.product code := by
  simp only [State.product, m.products]

/-- The dispatch table, the arm records and the product table are all that it reads. -/
theorem sameArms (m : Metered r s) (hd : t.dispatch = s.dispatch) (ha : ∀ b x, t.arm b x = s.arm b x)
    (hp : t.products = s.products) : Metered r t where
  products := hp.trans m.products
  comps i d h := m.comps i d (by rwa [State.slot, hd] at h)
  orphans b x o h := m.orphans b x o ((ha b x).symm.trans h)

theorem frame (m : Metered r s) (hd : t.dispatch = s.dispatch) (hb : t.bays = s.bays)
    (hp : t.products = s.products) : Metered r t :=
  m.sameArms hd (fun b x => by rw [State.arm, State.bay, hb]; rfl) hp

theorem comp (m : Metered r s) {i : SlotNo} {k : Nat} {c : Compartment} (h : s.comp i k = some c) :
    r.sound c.product c.acc := by
  obtain ⟨d, hd, hc, -⟩ := State.comp_eq_some h
  exact m.comps i d hd c hc

/-- A slot written with a record whose compartments are sound, or freed. -/
theorem setSlot {i : SlotNo} {x : Option Delivery} (m : Metered r s)
    (h : ∀ d ∈ x, ∀ c ∈ d.comps, r.sound c.product c.acc) : Metered r (s.setSlot i x) where
  products := m.products
  comps j d hd := by
    rcases State.slot_setSlot_some hd with ⟨-, hd⟩ | ⟨-, hd⟩
    · exact m.comps j d hd
    · exact h d hd
  orphans := m.orphans

theorem freeSlot {i : SlotNo} (m : Metered r s) : Metered r (s.setSlot i none) := m.setSlot (by simp)

theorem setRecord {i : SlotNo} {e : Delivery} (m : Metered r s) (h : ∀ c ∈ e.comps, r.sound c.product c.acc) :
    Metered r (s.setSlot i (some e)) := m.setSlot (by simpa using h)

/-- A record whose compartments stay as they are in the record of a slot. -/
theorem sameComps {i : SlotNo} {d e : Delivery} (m : Metered r s) (hd : s.slot i = some d) (hc : e.comps = d.comps) :
    ∀ c ∈ e.comps, r.sound c.product c.acc := hc ▸ m.comps i d hd

theorem setBay {b : BayNo} {q : BayRecord} (m : Metered r s)
    (h : ∀ x o, q.armRecord x = .orphan o → r.sound o.product o.acc) : Metered r (s.setBay b q) where
  products := m.products
  comps := m.comps
  orphans c x o ho := by
    unfold State.arm at ho
    rw [State.bay_setBay] at ho
    split at ho
    · exact h x o ho
    · exact m.orphans c x o ho

/-- A bay's record changed in something else than its arms. -/
theorem setBay_arms {b : BayNo} {q : BayRecord} (m : Metered r s)
    (h : ∀ x, q.armRecord x = (s.bay b).armRecord x) : Metered r (s.setBay b q) :=
  m.setBay fun x o ho => m.orphans b x o ((h x).symm.trans ho)

theorem setArm {b : BayNo} {x : Arm} {y : ArmRecord} (m : Metered r s)
    (h : ∀ o, y = .orphan o → r.sound o.product o.acc) : Metered r (s.setArm b x y) :=
  m.setBay fun z o ho => by
    rw [BayRecord.armRecord_setArmRecord] at ho
    split at ho
    · exact h o ho
    · exact m.orphans b z o ho

theorem updComp {i : SlotNo} {k : Nat} {f : Compartment → Compartment} (m : Metered r s)
    (hf : ∀ c, r.sound c.product c.acc → r.sound (f c).product (f c).acc) : Metered r (s.updComp i k f) := by
  cases hd : s.slot i with
  | none => rwa [State.updComp, State.updDelivery, hd]
  | some d =>
    rw [State.updComp_of_some hd]
    refine m.setSlot fun e he y hy => ?_
    obtain rfl := Option.some.inj he
    obtain ⟨c, hc, rfl⟩ := List.mem_map.1 hy
    split
    · exact hf c (m.comps i d hd c hc)
    · exact m.comps i d hd c hc

theorem updOrphan {b : BayNo} {x : Arm} {f : Orphan → Orphan} (m : Metered r s)
    (hf : ∀ o, r.sound o.product o.acc → r.sound (f o).product (f o).acc) : Metered r (s.updOrphan b x f) := by
  unfold State.updOrphan
  split
  · rename_i o ho
    exact m.setArm (by simpa using hf o (m.orphans b x o ho))
  · exact m

theorem freeArm {x : Option ArmRef} (m : Metered r s) : Metered r (s.freeArm x) := by
  cases x with
  | none => exact m
  | some x => exact m.setArm (by simp)

theorem foldl {α : Type} {f : State → α → State} (hf : ∀ s x, Metered r s → Metered r (f s x)) {xs : List α} (m : Metered r s) : Metered r (xs.foldl f s) := by
  induction xs generalizing s with
  | nil => exact m
  | cons x xs ih => exact ih (hf s x m)

theorem admitEntry {ref driver : Nat} {x : Payload} (m : Metered r s) : Metered r (s.admitEntry ref driver x) :=
  m.frame rfl rfl rfl

theorem offer {ref driver : Nat} {x : Payload} (m : Metered r s) : Metered r (s.offer ref driver x) := by
  rw [State.offer_frame]
  exact m.frame rfl rfl rfl

theorem setPort {p : Port} {x : PortState} (m : Metered r s) : Metered r (s.setPort p x) := by
  cases p <;> exact m.frame rfl rfl rfl

theorem enqueue {b : BayNo} {rule : List Message → List Message} (m : Metered r s) :
    Metered r (s.enqueue b rule) := by
  rw [State.enqueue_eq]
  exact m.setBay_arms fun x => by cases x <;> rfl

theorem stopIf {x : Bool} {b : BayNo} {a : Arm} (m : Metered r s) : Metered r (s.stopIf x b a) := by
  unfold State.stopIf
  split
  · exact m.enqueue
  · exact m

theorem settleRound (m : Metered r s) : Metered r s.settleRound := by
  unfold State.settleRound
  split
  · exact m.frame rfl rfl rfl
  · exact m

theorem endVisit (m : Metered r s) : Metered r s.endVisit := by
  rw [State.endVisit_eq]
  exact m.frame rfl rfl rfl

/-! ### Papers and the end of a session -/

/-- Readouts change flags alone (R51). -/
theorem paperReadouts {d : Delivery} (h : ∀ c ∈ d.comps, r.sound c.product c.acc) :
    ∀ c ∈ d.paperReadouts.comps, r.sound c.product c.acc := by
  intro y hy
  obtain ⟨c, hc, rfl⟩ := List.mem_map.1 hy
  split <;> exact h c hc

theorem issuePaper {i : SlotNo} {d : Delivery} {n v : Nat} (m : Metered r s)
    (h : ∀ c ∈ d.comps, r.sound c.product c.acc) : Metered r (s.issuePaper i d n v) :=
  .offer (m.setRecord (paperReadouts h))

theorem rebuild {i : SlotNo} (m : Metered r s) : Metered r (s.rebuild i) := by
  unfold State.rebuild
  split
  · exact m
  · rename_i d hd
    split
    · exact m
    · exact m.issuePaper (m.comps i d hd)

theorem endSession {i : SlotNo} (m : Metered r s) : Metered r (s.endSession i) := by
  unfold State.endSession
  split
  · exact m
  · rename_i d hd
    have sound : ∀ c ∈ d.afterSession.comps, r.sound c.product c.acc := by
      intro y hy
      obtain ⟨c, hc, rfl⟩ := List.mem_map.1 hy
      split <;> exact m.comps i d hd c hc
    have ended : Metered r ((s.setSlot i (some d.afterSession)).unbindBay d.bay) := by
      have written := m.setRecord (i := i) sound
      unfold State.unbindBay
      split
      · exact written
      · exact written.setBay_arms fun x => by cases x <;> rfl
    dsimp only
    split
    · unfold State.firstIssue
      split
      · exact ended
      · exact .issuePaper (ended.frame rfl rfl rfl) sound
    · exact ended

/-! ### Reports -/

theorem reachDone {i : SlotNo} {k : Nat} (m : Metered r s) : Metered r (s.reachDone i k) := by
  unfold State.reachDone
  split
  · exact m
  · rename_i d hd
    split
    · exact m
    · rename_i c hc
      have freed : Metered r ((s.updComp i k fun _ => c.ended).freeArm c.arm) :=
        .freeArm (.updComp m fun _ _ => m.comps i d hd c (Delivery.comp_mem hc).1)
      dsimp only
      split
      · refine .rebuild ?_
        split
        · exact freed
        · exact freed.offer
      · split
        · exact freed
        · exact freed.offer

theorem clearOrphan {b : BayNo} {x : Arm} (m : Metered r s) : Metered r (s.clearOrphan b x) := by
  unfold State.clearOrphan
  split
  · exact m.offer.setArm (by simp)
  · exact m

theorem moveComp {b : BayNo} {x : Arm} {i : SlotNo} {k : Nat} {y : Move} (m : Metered r s) :
    Metered r (s.moveComp b x i k y) := by
  cases y with
  | keep => exact m
  | flow | await | settle => exact m.updComp fun _ => id
  | reopen => exact .enqueue (.updComp m fun _ => id)
  | finish => exact m.reachDone

theorem moveOrphan {b : BayNo} {x : Arm} {y : Move} (m : Metered r s) : Metered r (s.moveOrphan b x y) := by
  cases y with
  | keep | flow => exact m
  | await | settle => exact m.updOrphan fun _ => id
  | reopen => exact .enqueue (.updOrphan m fun _ => id)
  | finish => exact m.clearOrphan

/-- The set that a report leaves, with the GAP of one that ends an interruption. -/
theorem judged {a : Acc} {x : Report} {p : Prop} [Decidable p] {points : List CorrPoint}
    {planned capacity allowance : Nat} (h : a.lawful) (hx : x.cumulative ≤ 16777215) :
    (if p then (judgeReport points a planned capacity allowance x).acc.withGap
      else (judgeReport points a planned capacity allowance x).acc).lawful := by
  split <;> exact judgeReport_lawful h hx points planned capacity allowance

theorem report {b : BayNo} {x : Report} (m : Metered r s) (hx : x.cumulative ≤ 16777215) :
    Metered r (s.report b x) := by
  unfold State.report
  split
  · unfold State.reportFree
    split
    · exact m.offer.enqueue
    · exact m
  · rename_i i k _
    unfold State.reportComp
    split
    · exact m
    · rename_i c hc
      split
      · exact .moveComp (.stopIf (.updComp m fun _ h => ⟨judged (m.comp hc).1 hx, h.2⟩))
      · exact m
  · rename_i o ho
    exact .moveOrphan (.stopIf (.updOrphan m fun _ h => ⟨judged (m.orphans b x.arm o ho).1 hx, h.2⟩))

/-! ### Interruption, the latch, and loading deadlines -/

theorem interrupt {c : Compartment} (h : r.sound c.product c.acc) : r.sound c.interrupt.product c.interrupt.acc := by
  unfold Compartment.interrupt
  split <;> exact h

theorem interruptArm {b : BayNo} {x : Arm} (m : Metered r s) : Metered r (s.interruptArm b x) := by
  unfold State.interruptArm
  split
  · exact m
  · exact m.updComp fun _ => interrupt
  · exact m.updOrphan fun _ => id

theorem latchArm {c : Compartment} (m : Metered r s) : Metered r (s.latchArm c) := by
  unfold State.latchArm
  split
  · exact m
  · split
    · exact (m.setArm (by simp)).enqueue
    · exact m.enqueue

/-- Every record of the dispatch table changed alike in its compartments. -/
theorem mapComps {f : Delivery → Delivery} {g : Compartment → Compartment} (m : Metered r s)
    (hf : ∀ d, (f d).comps = d.comps.map g)
    (hg : ∀ c, r.sound c.product c.acc → r.sound (g c).product (g c).acc) :
    Metered r { s with dispatch := mapTable (Option.map f) s.dispatch } where
  products := m.products
  comps i e he := by
    rw [slot_mapTable] at he
    obtain ⟨d, hd, rfl⟩ := Option.map_eq_some_iff.1 he
    intro y hy
    rw [hf] at hy
    obtain ⟨c, hc, rfl⟩ := List.mem_map.1 hy
    exact hg c (m.comps i d hd c hc)
  orphans := m.orphans

theorem underLatch {c : Compartment} (h : r.sound c.product c.acc) {y : Deadline} :
    r.sound (c.underLatch y).product (c.underLatch y).acc := by
  unfold Compartment.underLatch
  split <;> exact h

theorem latchEvent (m : Metered r s) : Metered r s.latchEvent :=
  .foldl (fun _ _ m => m.latchArm) (.frame (m.mapComps (g := Compartment.underLatch s.stopDeadline) (fun _ => rfl)
    fun _ h => underLatch h) rfl rfl rfl)

theorem addCause {c : Cause} (m : Metered r s) : Metered r (s.addCause c) := by
  have latched : Metered r { s with latch := s.latch.add c } := m.frame rfl rfl rfl
  unfold State.addCause
  split
  · exact m
  · dsimp only
    split
    · exact latched.offer
    · exact latched.latchEvent.offer

theorem permitExpired {i : SlotNo} {k : Nat} (m : Metered r s) : Metered r (s.permitExpired i k) := by
  unfold State.permitExpired
  split
  · exact m
  · rename_i c _
    have back := (m.updComp (i := i) (k := k) (f := fun y => { y with state := .planned, deadline := none, arm := none })
      fun _ => id).freeArm (x := c.arm)
    dsimp only
    split
    · exact back
    · exact back.enqueue

theorem flowingExpired {i : SlotNo} {k : Nat} (m : Metered r s) : Metered r (s.flowingExpired i k) := by
  unfold State.flowingExpired
  split
  · exact m
  · dsimp only
    split
    · exact m.updComp fun _ => id
    · exact .enqueue (.updComp m fun _ => id)

theorem settleExpired {x : DeadlineOf} (m : Metered r s) : Metered r (s.settleExpired x) := by
  cases x with
  | compartment i k => exact m.reachDone
  | orphan b x => exact m.clearOrphan

theorem stopExpired {x : DeadlineOf} (m : Metered r s) : Metered r (s.stopExpired x) := by
  cases x with
  | compartment i k => exact .addCause (.reachDone (.updComp m fun _ => id))
  | orphan b x => exact .addCause (.clearOrphan (.updOrphan m fun _ => id))

theorem expire {x : Option Deadline} {k : DeadlineKind} {f : State → State} (m : Metered r s)
    (hf : ∀ t, Metered r t → Metered r (f t)) : Metered r (s.expire x k f) := by
  unfold State.expire
  split
  · exact m
  · split
    · exact hf _ (m.frame rfl rfl rfl)
    · exact m

theorem assertInput (m : Metered r s) : Metered r s.assertInput := by
  have asserted : Metered r { s with shutdownInput := true } := m.frame rfl rfl rfl
  unfold State.assertInput
  dsimp only
  split
  · exact asserted.addCause
  · exact asserted

/-! ### Bay requests -/

theorem takeClaim {b : BayNo} {ref : Nat} (m : Metered r s) : Metered r (s.takeClaim b ref) := by
  unfold State.takeClaim
  split
  · exact m.enqueue
  · rename_i i d hf
    iterate 4 (split; · exact m.enqueue)
    exact .enqueue (.offer (.setBay_arms (.setRecord m (m.sameComps (State.find_some hf).1 rfl))
          fun x => by cases x <;> rfl))

theorem takeStart {b : BayNo} {x : Arm} {k p : Nat} (m : Metered r s) : Metered r (s.takeStart b x k p) := by
  unfold State.takeStart
  iterate 4 (split; · exact m.enqueue)
  split
  · unfold State.logDeny
    split
    · exact m.offer.enqueue
    · exact m.enqueue
  · exact .enqueue (.enqueue (.setArm (.updComp m fun c h => ⟨⟨Nat.zero_le _, h.1.2⟩, h.2⟩) (by simp)))

theorem takeFinish {b : BayNo} (m : Metered r s) : Metered r (s.takeFinish b) := by
  unfold State.takeFinish
  iterate 4 (split; · exact m.enqueue)
  exact m.endSession.enqueue

theorem faultArm {b : BayNo} {x : Arm} (m : Metered r s) : Metered r (s.faultArm b x) := by
  unfold State.faultArm
  split
  · exact m
  · rename_i i k _
    have flagged := m.updComp (i := i) (k := k) (f := fun y => { y with acc := y.acc.withFault }) fun _ => id
    split
    · exact m
    · dsimp only
      split
      · exact .enqueue (.updComp flagged fun _ => id)
      · exact .enqueue (.updComp flagged fun _ => id)
      · exact flagged.enqueue
      · exact flagged
      all_goals exact m
  · have flagged := m.updOrphan (b := b) (x := x) (f := fun y => { y with acc := y.acc.withFault }) fun _ => id
    dsimp only
    split
    · exact flagged.enqueue
    · exact flagged

theorem grantFault {b : BayNo} {code : Nat} (m : Metered r s) : Metered r (s.grantFault b code) :=
  m.faultArm.faultArm.offer.enqueue

theorem takeFault {b : BayNo} {code : Nat} (m : Metered r s) : Metered r (s.takeFault b code) := by
  unfold State.takeFault
  split
  · exact m.grantFault
  · split
    · exact m.grantFault
    · split
      · exact m.enqueue
      · exact m.grantFault

/-! ### Exchanges -/

theorem silence {b : BayNo} (m : Metered r s) : Metered r (s.silence b) :=
  (m.setBay_arms fun x => by cases x <;> rfl).interruptArm.interruptArm.offer

theorem miss {b : BayNo} {x : Bool} (m : Metered r s) : Metered r (s.miss b x) := by
  have counted : ∀ {q : BayRecord}, q.armA = (s.bay b).armA → q.armB = (s.bay b).armB → Metered r (s.setBay b q) :=
    fun hA hB => m.setBay_arms fun a => by cases a <;> assumption
  unfold State.miss
  dsimp only
  split
  · exact counted rfl rfl
  · split
    · exact counted rfl rfl
    · exact .silence (counted rfl rfl)
  · exact counted rfl rfl

theorem answered {b : BayNo} (m : Metered r s) : Metered r (s.answered b) := by
  have online : Metered r (s.setOnline b) := m.setBay_arms fun x => by cases x <;> rfl
  unfold State.answered
  split
  · have stops : Metered r (s.returnStops b) := online.offer.stopIf.stopIf
    rw [State.bayReturn_eq]
    split
    · exact stops.enqueue
    · exact stops
  · exact online

theorem removeSent {b : BayNo} {x : Option Message} (m : Metered r s) : Metered r (s.removeSent b x) := by
  rw [State.removeSent_eq]
  exact m.setBay_arms fun a => by cases a <;> rfl

theorem reports {b : BayNo} (xs : List Report) (hx : ∀ x ∈ xs, x.cumulative ≤ 16777215) (m : Metered r s) :
    Metered r (xs.foldl (fun t x => t.report b x) s) := by
  induction xs generalizing s with
  | nil => exact m
  | cons x xs ih =>
    obtain ⟨hx, hxs⟩ := List.forall_mem_cons.1 hx
    exact ih hxs (m.report hx)

theorem ite {p : Prop} [Decidable p] (m : Metered r s) (h : p → Metered r t) : Metered r (if p then t else s) := by
  split
  · exact h ‹_›
  · exact m

theorem takeAnswer {b : BayNo} {a : Answer} (m : Metered r s) (ha : a.bounded) : Metered r (s.takeAnswer b a) := by
  cases a with
  | status xs => exact .reports xs ha m
  | claim ref => exact m.ite fun _ => m.takeClaim
  | start x k p => exact m.ite fun _ => m.takeStart
  | finish => exact m.ite fun _ => m.takeFinish
  | fault code => exact m.ite fun _ => m.takeFault

/-! ### The requests of the office and the gate -/

theorem acceptDeferred {p : Port} {tag code ref driver : Nat} {x : Payload} (m : Metered r s) :
    Metered r (s.acceptDeferred p tag code ref driver x).1 := .setPort m.admitEntry

/-- A BOOK's compartments begin with an empty set and name ENABLED products (R12, R40). -/
theorem book {b : BookBody} (m : Metered r s) : Metered r (s.book b).1 := by
  unfold State.book
  iterate 2 (split; · exact m)
  split
  · exact m
  · rename_i he
    have enabled : ∀ c ∈ b.comps, (s.product c.product).state = .enabled := by simpa using he
    split
    · exact m
    · exact m
    · split
      · exact m
      · refine .setRecord m.admitEntry fun y hy => ?_
        obtain ⟨c, hc, rfl⟩ := List.mem_map.1 hy
        refine ⟨Acc.zero_lawful, ?_⟩
        rw [← m.product]
        simp [newComp, enabled c hc]

theorem amend {b : AmendBody} (m : Metered r s) : Metered r (s.amend b).1 := by
  unfold State.amend
  split
  · exact m
  · split
    · exact m
    · rename_i i d hf
      iterate 4 (split; · exact m)
      refine .setRecord m.admitEntry fun y hy => ?_
      obtain ⟨c, hc, rfl⟩ := List.mem_map.1 hy
      have sound := m.comps i d (State.find_some hf).1 c hc
      unfold amendComp
      split <;> exact sound

theorem dismissBay {i : SlotNo} {b : Option BayNo} (m : Metered r s) : Metered r (s.dismissBay i b) := by
  cases b with
  | none => exact m
  | some b => 
    have unbound : Metered r (s.setBay b { s.bay b with bound := none, withdrawn := some i }) :=
      m.setBay_arms fun x => by cases x <;> rfl
    unfold State.dismissBay State.queueDismiss
    exact unbound.enqueue

theorem cancel {p : Port} {tag ref : Nat} (m : Metered r s) : Metered r (s.cancel p tag ref).1 := by
  unfold State.cancel
  split
  · exact m
  · rename_i hf
    iterate 3 (split; · exact m)
    exact .dismissBay (.setRecord m.acceptDeferred (m.sameComps (State.find_some hf).1 rfl))

theorem detach {ref : Nat} (m : Metered r s) : Metered r (s.detach ref).1 := by
  unfold State.detach
  iterate 4 (split; · exact m)
  exact m.admitEntry.endSession

theorem override {p : Port} {tag ref set supervisor : Nat} (m : Metered r s) :
    Metered r (s.override p tag ref set supervisor).1 := by
  unfold State.override
  iterate 6 (split; · exact m)
  exact m.acceptDeferred

theorem deliveryRead {ref : Nat} (m : Metered r s) : Metered r (s.deliveryRead ref).1 := by
  unfold State.deliveryRead
  split
  · exact m
  · rename_i i d hf
    refine m.setRecord fun y hy => ?_
    obtain ⟨c, hc, rfl⟩ := List.mem_map.1 hy
    exact m.comps i d (State.find_some hf).1 c hc

theorem driverRegister {n day : Nat} (m : Metered r s) : Metered r (s.driverRegister n day).1 := by
  unfold State.driverRegister
  split
  · exact m
  · split
    all_goals
      split
      · exact m
      · exact m.frame rfl rfl rfl

theorem driverRemove {n : Nat} (m : Metered r s) : Metered r (s.driverRemove n).1 := by
  unfold State.driverRemove
  iterate 4 (split; · exact m)
  exact m.frame rfl rfl rfl

theorem settingsWrite {b : SettingsBody} (m : Metered r s) : Metered r (s.settingsWrite b).1 := by
  unfold State.settingsWrite
  split
  · exact m
  · refine .settleRound (m.sameArms rfl (fun b x => ?_) rfl)
    refine (congrArg (BayRecord.armRecord · x) (get_ofFn _ b)).trans ?_
    split
    · cases x <;> rfl
    · rfl

theorem expireSlot {i : SlotNo} (m : Metered r s) : Metered r (s.expireSlot i) := by
  unfold State.expireSlot
  split
  · exact m
  · rename_i hd
    split
    · exact .setRecord m.admitEntry (m.sameComps hd rfl)
    · exact m

theorem moveTime {n : Nat} (m : Metered r s) : Metered r (s.moveTime n) :=
  .foldl (fun _ _ m => m.expireSlot) (m.frame rfl rfl rfl)

theorem timeSet {n : Nat} (m : Metered r s) : Metered r (s.timeSet n).1 := by
  unfold State.timeSet
  iterate 3 (split; · exact m)
  dsimp only
  split
  · exact m.admitEntry
  · exact m.admitEntry.moveTime

theorem advanceTime (m : Metered r s) : Metered r s.advanceTime := by
  unfold State.advanceTime
  split
  · exact m
  · split
    · split
      · exact m.moveTime
      · exact m.frame rfl rfl rfl
    · exact m

theorem shutdownClear (m : Metered r s) : Metered r s.shutdownClear.1 := by
  unfold State.shutdownClear
  split
  · exact m
  · split
    · exact .offer (m.frame rfl rfl rfl)
    · exact m

theorem reclaim {p : Port} {tag n : Nat} (m : Metered r s) : Metered r (s.reclaim p tag n).1 := by
  unfold State.reclaim
  split
  · iterate 2 (split; · exact m)
    exact .setPort (m.frame rfl rfl rfl)
  · exact m

theorem bayRead {n : Nat} (m : Metered r s) : Metered r (s.bayRead n).1 := by
  unfold State.bayRead
  split
  · exact .updOrphan (.updOrphan m fun _ => id) fun _ => id
  · split <;> exact m

theorem restart {n : Nat} (m : Metered r s) : Metered r (s.restart n).1 := by
  unfold State.restart
  split
  · exact m
  · exact m
  · split <;> exact m

theorem offerDeclaration {ref now : Nat} {x : Driver} {y : Option Declaration} (m : Metered r s) :
    Metered r (s.offerDeclaration ref x now y) := by
  cases y with
  | none => exact m
  | some y => exact m.offer

theorem announce {b : ArriveBody} (m : Metered r s) : Metered r (s.announce b).1 := by
  unfold State.announce
  iterate 2 (split; · exact m)
  split
  · exact m
  · rename_i hf
    iterate 3 (split; · exact m)
    split
    · exact m
    · exact m
    · exact .setRecord (.frame m.admitEntry.offerDeclaration rfl rfl rfl) (m.sameComps (State.find_some hf).1 rfl)

theorem makeOrphans {d : Delivery} {cs : List Compartment} (m : Metered r s)
    (h : ∀ c ∈ cs, r.sound c.product c.acc) : Metered r (cs.foldl (State.makeOrphan d) s) := by
  induction cs generalizing s with
  | nil => exact m
  | cons c cs ih =>
    obtain ⟨hc, hcs⟩ := List.forall_mem_cons.1 h
    refine ih ?_ hcs
    unfold State.makeOrphan
    split
    · split
      · exact m
      · exact m.setArm (by simpa [orphanOf] using hc)
    · exact m

theorem release {p : Port} {tag ref driver : Nat} (m : Metered r s) :
    Metered r (s.release p tag ref driver).1 := by
  unfold State.release
  split
  · exact m
  · split
    · exact m
    · rename_i i d hf
      have read := paperReadouts (m.comps i d (State.find_some hf).1)
      iterate 4 (split; · exact m)
      dsimp only
      split
      · have held : Metered r (s.setSlot i (some { (s.computeHolds d).record with
            state := .held, holds := (s.computeHolds d).holds })) := m.setRecord read
        unfold State.hold
        dsimp only
        split
        · exact held
        · exact held.offer
      · unfold State.acceptRelease
        dsimp only
        split
        · exact m.setRecord read
        · exact .makeOrphans (.setRecord (.acceptDeferred (.setRecord m read)) read) read

/-! ### Exchanges, the store and starts -/

theorem afterExchange {v : Visit} (m : Metered r s) : Metered r (s.afterExchange v) := by
  unfold State.afterExchange
  split
  · exact m.endVisit
  · exact m.frame rfl rfl rfl

theorem endByAnswer {v : Visit} {e : Exchange} {words : List RxWord} (m : Metered r s) :
    Metered r (s.endByAnswer v e words) := by
  unfold State.endByAnswer
  split
  · exact m.endVisit
  · split
    · exact m.miss.endVisit
    · rename_i h
      exact .afterExchange (.takeAnswer (.removeSent m.answered) (decodeAnswer_bounded h))

theorem endByWindow {v : Visit} (m : Metered r s) : Metered r (s.endByWindow v) := by
  unfold State.endByWindow
  split
  · exact m.endVisit
  · exact m.miss.endVisit

theorem beginExchange (m : Metered r s) : Metered r s.beginExchange := by
  unfold State.beginExchange
  split
  · exact m
  · exact m.frame rfl rfl rfl

theorem sendAllStop (m : Metered r s) : Metered r s.sendAllStop := by
  unfold State.sendAllStop
  split <;> exact m.frame rfl rfl rfl

theorem commit {d : Delivery} (m : Metered r s) : Metered r (s.commit d) := by
  rw [State.commit_frame]
  exact m.frame rfl rfl rfl

theorem takeLeave {i : SlotNo} (m : Metered r s) : Metered r (s.takeLeave i) :=
  m.sameArms rfl (fun b x => by rw [State.arm, State.bay_takeLeave]; cases x <;> rfl) rfl

theorem replyAwaited {n : Nat} {b : FrameBody} (m : Metered r s) : Metered r (s.replyAwaited n b) :=
  m.frame rfl rfl rfl

theorem replyPage {p : PageNo} {x : PageOutcome} (m : Metered r s) : Metered r (s.replyPage p x) :=
  m.frame rfl rfl rfl

theorem beginWrite (m : Metered r s) : Metered r s.beginWrite := m.frame rfl rfl rfl

theorem complete {e : Entry} (m : Metered r s) : Metered r (s.complete e) := by
  unfold State.complete
  split
  · exact m
  · rename_i hf
    unfold State.completeFor
    split
    · exact m.ite fun _ => .freeSlot m.commit.replyAwaited
    · exact m.ite fun _ => .freeSlot (.replyAwaited (.takeLeave (m.frame rfl rfl rfl)))
    · exact m.ite fun _ => m.freeSlot
    · exact .replyAwaited (m.setRecord (m.sameComps (State.find_some hf).1 rfl))
    · exact m

theorem writeDone (m : Metered r s) : Metered r s.writeDone := by
  unfold State.writeDone
  split
  · exact m
  · rename_i e rest _
    have done : Metered r ({ s with log := s.log.written e rest }.complete e) := .complete (m.frame rfl rfl rfl)
    exact done.frame rfl rfl rfl

theorem takePages {ps : List PageNo} (m : Metered r s) : Metered r (State.takePages ps s) := by
  induction ps generalizing s with
  | nil => exact m.frame rfl rfl rfl
  | cons p ps ih =>
    unfold State.takePages
    split
    · exact ih (m.frame rfl rfl rfl)
    · exact m.frame rfl rfl rfl

theorem eraseDone (m : Metered r s) : Metered r s.eraseDone := by
  unfold State.eraseDone
  split
  · exact m
  · exact .beginWrite (.takePages (m.frame rfl rfl rfl))

theorem eraseFailed (m : Metered r s) : Metered r s.eraseFailed := by
  unfold State.eraseFailed
  split
  · exact m
  · exact .beginWrite (.takePages (.replyPage (.offer (m.frame rfl rfl rfl))))

theorem enterStep2 (m : Metered r s) : Metered r s.enterStep2 := by
  rw [State.enterStep2_frame]
  exact m.frame rfl rfl rfl

theorem enterStep1 (m : Metered r s) : Metered r s.enterStep1 := by
  rw [State.enterStep1_frame]
  exact m.frame rfl rfl rfl

/-- A warm start keeps every set and interrupts what is active (R24, R62). -/
theorem warmState (m : Metered r s) : Metered r s.warmState where
  products := m.products
  comps := (m.mapComps (f := Delivery.restarted) (fun _ => rfl) fun _ h => interrupt h).comps
  orphans b x o ho := by
    have restarted : (s.arm b x).restarted = .orphan o := by
      refine Eq.trans ?_ ((congrArg (BayRecord.armRecord · x) (get_mapTable ..)).symm.trans ho)
      cases x <;> rfl
    unfold ArmRecord.restarted at restarted
    split at restarted
    · rename_i q hq
      obtain rfl := ArmRecord.orphan.inj restarted
      exact m.orphans b x q hq
    · exact m.orphans b x o restarted

theorem startErase {v : Bool} (m : Metered r s) : Metered r (s.startErase v) := by
  unfold State.startErase
  split
  · exact m
  · refine .enterStep2 ?_
    split <;> exact m.frame rfl rfl rfl

theorem dropWritten {es : List Entry} (m : Metered r s) : Metered r (State.dropWritten es s) := by
  induction es generalizing s with
  | nil => exact m
  | cons e es ih =>
    unfold State.dropWritten
    exact m.ite fun _ => ih (.complete (m.frame rfl rfl rfl))

theorem dropBack (m : Metered r s) : Metered r s.dropBack := by
  unfold State.dropBack
  split
  · exact m
  · refine m.ite fun _ => ?_
    have dropped : Metered r { s with log := { s.log with queue := s.log.queue.dropLast }.lose } := m.frame rfl rfl rfl
    unfold State.withdrawExpiry
    split
    · rename_i hf
      exact dropped.ite fun _ => dropped.setRecord (dropped.sameComps (State.find_some hf).1 rfl)
    · exact dropped

theorem scanStep {found : CutWrite} (m : Metered r s) : Metered r (s.scanStep found) := by
  have dropped : Metered r (State.dropWritten (s.log.scan found).queue { s with log := s.log.scan found }).dropBack :=
    .dropBack (.dropWritten (m.frame rfl rfl rfl))
  exact dropped.frame rfl rfl rfl

theorem logStart {n k : Nat} (m : Metered r s) : Metered r (s.logStart n k) := .offer (m.frame rfl rfl rfl)

theorem decideStatus (m : Metered r s) : Metered r s.decideStatus := m.frame rfl rfl rfl

theorem openPorts (m : Metered r s) : Metered r s.openPorts := .settleRound (m.frame rfl rfl rfl)

theorem scanEnd {found : CutWrite} (m : Metered r s) : Metered r (s.scanEnd found) :=
  m.scanStep.decideStatus.logStart.openPorts

theorem deassertReset (m : Metered r s) : Metered r s.deassertReset := by
  have free : Metered r { s with resetInput := false } := m.frame rfl rfl rfl
  exact free.ite fun _ => free.enterStep2

end Metered

/-! ### The two laws together -/

/-- The bounds of every set (R40, R46), with lawful product entries and no undefined product in use (R26 to R29). -/
def SetsLaw (s : State) : Prop := AccumulatorLaw s ∧ ProductLaw s

theorem setsLaw_iff (s : State) : SetsLaw s ↔ (∀ k : Fin 16, (s.products.get k).lawful) ∧ Metered s s := by
  constructor
  · rintro ⟨⟨hac, hao⟩, hp, hpc, hpo⟩
    exact ⟨hp, rfl, fun i d h c hc => ⟨hac i d h c hc, hpc i d h c hc⟩, fun b x o h => ⟨hao b x o h, hpo b x o h⟩⟩
  · rintro ⟨hp, -, hc, ho⟩
    exact ⟨⟨fun i d h c hm => (hc i d h c hm).1, fun b x o h => (ho b x o h).1⟩, hp,
      fun i d h c hm => (hc i d h c hm).2, fun b x o h => (ho b x o h).2⟩

namespace SetsLaw

variable {s t : State}

/-- What keeps the product table and every set beside its product keeps the laws. -/
theorem keep (h : SetsLaw s) (k : Metered s s → Metered s t) : SetsLaw t := by
  obtain ⟨hp, m⟩ := (setsLaw_iff s).1 h
  have kept := k m
  have sound : s.sound = t.sound := by
    funext code a
    simp only [State.sound, kept.product]
  exact (setsLaw_iff t).2 ⟨kept.products ▸ hp, rfl, sound ▸ kept.comps, sound ▸ kept.orphans⟩

end SetsLaw

/-! ### The product table -/

/-- A code in no use is named by no compartment and no orphan (R29). -/
theorem State.inUse_eq_zero {s : State} {code : Nat} (h : s.inUse code = 0) :
    (∀ i d, s.slot i = some d → ∀ c ∈ d.comps, c.product ≠ code)
      ∧ ∀ b x o, s.arm b x = .orphan o → o.product ≠ code := by
  obtain ⟨hc, ho⟩ := Nat.add_eq_zero_iff.1 h
  constructor
  · intro i d hd c hm
    have none := List.sum_eq_zero_iff.1 hc _ (List.mem_map.2 ⟨i, List.mem_finRange i, rfl⟩)
    rw [hd] at none
    simpa using List.countP_eq_zero.1 none c hm
  · intro b x o hx hn
    have none := List.sum_eq_zero_iff.1 ho _ (List.mem_map.2 ⟨b, List.mem_finRange b, rfl⟩)
    cases x <;> simp_all [State.arm, BayRecord.armRecord, ArmRecord.orphanOf]

/-- The table after an entry was written. -/
theorem State.product_setProduct (s : State) (k : Fin 16) (e : Product) (code : Nat) :
    (s.setProduct (k.val + 1) e).product code = if code = k.val + 1 then e else s.product code := by
  rw [State.setProduct_eq]
  unfold State.product
  by_cases hr : 1 ≤ code ∧ code ≤ 16
  · have := get_set s.products k ⟨code - 1, by omega⟩ e
    simp only [hr, and_self, dite_true, this, Fin.ext_iff]
    exact if_congr (by omega) rfl rfl
  · rw [dif_neg hr, dif_neg hr, if_neg (by omega)]

/-- An entry written lawful, and not UNDEFINED where its code is in use (R29). -/
theorem SetsLaw.setProduct {s : State} (h : SetsLaw s) (k : Fin 16) {e : Product} (he : e.lawful)
    (hu : e.state = .undefined → s.inUse (k.val + 1) = 0) : SetsLaw (s.setProduct (k.val + 1) e) := by
  obtain ⟨hp, m⟩ := (setsLaw_iff s).1 h
  have sound : ∀ code a, (e.state = .undefined → code ≠ k.val + 1) → s.sound code a →
      (s.setProduct (k.val + 1) e).sound code a := by
    rintro code a hn ⟨ha, hd⟩
    refine ⟨ha, ?_⟩
    rw [State.product_setProduct]
    split
    · exact fun hs => hn hs ‹_›
    · exact hd
  have unused := fun hs => State.inUse_eq_zero (hu hs)
  rw [setsLaw_iff]
  refine ⟨fun j => ?_, rfl, fun i d hd c hc => ?_, fun b x o hx => ?_⟩
  · rw [← State.product_eq, State.product_setProduct]
    split
    · exact he
    · exact (State.product_eq s j).symm ▸ hp j
  · rw [State.setProduct_eq] at hd
    exact sound _ _ (fun hs => (unused hs).1 i d hd c hc) (m.comps i d hd c hc)
  · rw [State.setProduct_eq] at hx
    exact sound _ _ (fun hs => (unused hs).2 b x o hx) (m.orphans b x o hx)

theorem Product.undefined_lawful : Product.undefined.lawful := by simp [Product.lawful, Product.undefined]

/-- A code from 1 to 16 names an entry of the table. -/
theorem code_entry {n : Nat} (h : ¬ (!within 1 16 n) = true) : ∃ k : Fin 16, n = k.val + 1 := by
  obtain ⟨h1, h16⟩ := within_iff.1 (by simpa using h)
  exact ⟨⟨n - 1, by omega⟩, by simp only; omega⟩

/-- A packing group other than NONE (R27). -/
theorem packingOf_ne_none {n : Nat} (h : 1 ≤ n ∧ n ≤ 3) : (packingOf n).getD .none ≠ .none := by
  obtain rfl | rfl | rfl : n = 1 ∨ n = 2 ∨ n = 3 := by omega
  all_goals decide

/-- Data that pass check 2 of R30 make a defined entry (R27, R28). -/
theorem goodData_defined {d : ProductData} (h : goodData d = true) (st : ProductState) (f : Flash) :
    Product.defined ⟨st, d.name, d.un, d.cls, d.division, (packingOf d.packing).getD .none, f, d.points⟩ := by
  simp only [goodData, Bool.and_eq_true, decide_eq_true_eq] at h
  obtain ⟨⟨⟨⟨name, un⟩, goods⟩, -⟩, table⟩ := h
  refine ⟨name, un, ?_, table⟩
  unfold goodsMatch at goods
  by_cases h0 : d.un = 0
  · simp only [if_pos h0, Bool.and_eq_true, beq_iff_eq] at goods ⊢
    obtain ⟨⟨hc, hd⟩, hp⟩ := goods
    exact ⟨hc, hd, hp ▸ rfl⟩
  · simp only [if_neg h0, within, Bool.and_eq_true, decide_eq_true_eq] at goods ⊢
    obtain ⟨⟨hc, hd⟩, hp⟩ := goods
    exact ⟨hc, hd, packingOf_ne_none hp⟩

/-- The entry that a PRODUCT_DEFINE writes is lawful (R26 to R28, R30). -/
theorem definedEntry_lawful {b : ProductBody} {e : Product} (h : definedEntry b = some e) : e.lawful := by
  unfold definedEntry at h
  split at h
  · obtain rfl := Option.some.inj h
    exact Product.undefined_lawful
  · rename_i st d hn _ _
    split at h
    · obtain rfl := Option.some.inj h
      unfold Product.lawful
      rw [if_neg hn]
      exact goodData_defined ‹_› ..
    · cases h
  · cases h

/-! ### Requests through the ports -/

namespace SetsLaw

variable {s t : State}

theorem productDefine {b : ProductBody} (h : SetsLaw s) : SetsLaw (s.productDefine b).1 := by
  unfold State.productDefine
  split
  · exact h
  · rename_i he
    split
    · exact h
    · rename_i hc
      split
      · exact h
      · rename_i hu
        obtain ⟨k, hk⟩ := code_entry hc
        rw [hk] at hu ⊢
        exact h.setProduct k (definedEntry_lawful he) fun _ => by omega

theorem productState {code target : Nat} (h : SetsLaw s) : SetsLaw (s.productState code target).1 := by
  unfold State.productState
  split
  · exact h
  · rename_i st ht
    split
    · exact h
    · rename_i hc
      obtain ⟨k, rfl⟩ := code_entry hc
      split
      · exact h
      · rename_i hd
        have defined : st ≠ .undefined := by
          rintro rfl
          unfold targetState at ht
          split at ht
          · cases ht
          · exact absurd ht ‹_›
        have lawful := ((setsLaw_iff s).1 h).1 k
        rw [State.product_eq] at hd ⊢
        unfold Product.lawful at lawful
        rw [if_neg hd] at lawful
        refine h.setProduct k ?_ fun hs => absurd hs defined
        unfold Product.lawful
        rw [if_neg defined]
        exact lawful

theorem owner {p : Port} {tag : Nat} {b : ReqBody} (h : SetsLaw s) : SetsLaw (s.owner p tag b).1 := by
  cases b with
  | productDefine b => exact h.productDefine
  | productState code target => exact h.productState
  | book b => exact h.keep fun m => m.book
  | amend b => exact h.keep fun m => m.amend
  | cancel ref => exact h.keep fun m => m.cancel
  | detach ref => exact h.keep fun m => m.detach
  | override ref set supervisor => exact h.keep fun m => m.override
  | deliveryRead ref => exact h.keep fun m => m.deliveryRead
  | driverRegister n day => exact h.keep fun m => m.driverRegister
  | driverRemove n => exact h.keep fun m => m.driverRemove
  | settingsWrite b => exact h.keep fun m => m.settingsWrite
  | timeSet n => exact h.keep fun m => m.timeSet
  | shutdownClear => exact h.keep fun m => m.shutdownClear
  | logAck n => exact h.keep fun m => m.frame rfl rfl rfl
  | reclaim n => exact h.keep fun m => m.reclaim
  | bayRead n => exact h.keep fun m => m.bayRead
  | restart kind => exact h.keep fun m => m.restart
  | arrive b => exact h.keep fun m => m.announce
  | release ref driver => exact h.keep fun m => m.release
  | driverRead n =>
    simp only [State.owner, State.driverRead]
    split
    · exact h
    · split <;> exact h
  | productRead code =>
    simp only [State.owner, State.productRead]
    split
    · exact h
    · split <;> exact h
  | logRead n count =>
    simp only [State.owner, State.logRead]
    iterate 3 (split; · exact h)
    split <;> exact h
  | hoursQuery n =>
    simp only [State.owner, State.hoursQuery]
    iterate 2 (split; · exact h)
    split <;> exact h
  | paperRead ref =>
    simp only [State.owner, State.paperRead]
    iterate 3 (split; · exact h)
    split <;> exact h
  | settingsRead | status | unknown | badLength => exact h

theorem setPort {p : Port} {x : PortState} (h : SetsLaw s) : SetsLaw (s.setPort p x) := h.keep fun m => m.setPort

theorem serve {p : Port} {x : Request} (h : SetsLaw s) : SetsLaw (s.serve p x) := by
  have taken : SetsLaw (s.setService p (some (x.tag, x.code))) := h.setPort
  refine setPort ?_
  split
  · exact taken
  · exact taken.owner

theorem serveNext {p : Port} (h : SetsLaw s) : SetsLaw (s.serveNext p) := by
  unfold State.serveNext
  split
  · exact h
  · dsimp only
    split
    · exact h.setPort.serve
    · exact .setPort (.setPort h.setPort)

theorem arrive {p : Port} {x : Request} (h : SetsLaw s) : SetsLaw (s.arrive p x) := by
  unfold State.arrive
  dsimp only
  split
  · exact h.serve
  · iterate 2 (split; · exact h.setPort)
    exact h.setPort

theorem request {p : Port} {x : Request} (h : SetsLaw s) : SetsLaw (s.request p x) := by
  unfold State.request
  split
  · exact h.arrive
  · exact h

theorem discard {p : Port} (h : SetsLaw s) : SetsLaw (s.discard p) := .setPort h.setPort

theorem frameComplete {p : Port} {xs : List Byte} (h : SetsLaw s) : SetsLaw (s.frameComplete p xs) := by
  unfold State.frameComplete
  split
  · exact h.discard
  · exact h.setPort.arrive

theorem receiveByte {p : Port} {x : Byte} {stop : Bool} (h : SetsLaw s) : SetsLaw (s.receiveByte p x stop) := by
  unfold State.receiveByte
  split
  · split
    · exact h
    · split
      · exact h.setPort
      · exact h.discard
  · split
    · unfold State.frameByte
      split
      · exact h.discard
      · split
        · exact h.setPort
        · exact h.frameComplete
    · exact h.discard

theorem gapExpired {p : Port} (h : SetsLaw s) : SetsLaw (s.gapExpired p) := by
  unfold State.gapExpired
  split
  · exact h
  · exact .discard (h.keep fun m => m.frame rfl rfl rfl)

/-! ### Starts and every step -/

/-- After a cold start there is no set, and every entry is UNDEFINED (R25, R26, R60). -/
theorem coldState : SetsLaw s.coldState := by
  have orphans : ∀ b x o, s.coldState.arm b x ≠ .orphan o := by
    intro b x o h
    have cold : s.coldState.bay b = BayRecord.cold := get_replicate ..
    rw [State.arm, cold] at h
    cases x <;> cases h
  have free : ∀ i d, s.coldState.slot i ≠ some d := by
    intro i d h
    have empty : s.coldState.slot i = none := get_replicate ..
    rw [empty] at h
    cases h
  refine (setsLaw_iff _).2 ⟨fun k => ?_, rfl, fun i d h => absurd h (free i d), fun b x o h => absurd h (orphans b x o)⟩
  rw [show s.coldState.products.get k = Product.undefined from get_replicate ..]
  exact Product.undefined_lawful

theorem begin {kind : StartKind} (h : SetsLaw s) : SetsLaw (s.begin kind) := by
  cases kind with
  | warm => exact h.keep fun m => m.warmState.enterStep1
  | cold => exact coldState.keep fun m => m.enterStep1

theorem frameSent {p : Port} (h : SetsLaw s) : SetsLaw (s.frameSent p) := by
  unfold State.frameSent
  split
  · exact h
  · dsimp only
    split
    · exact h.setPort.begin
    · split
      · exact .serveNext (.setPort h.setPort)
      · exact h.setPort

theorem assertReset (h : SetsLaw s) : SetsLaw s.assertReset := by
  have asserted : SetsLaw { s with resetInput := true } := h.keep fun m => m.frame rfl rfl rfl
  unfold State.assertReset
  split
  · exact h
  · split
    · exact asserted.begin
    · exact asserted

theorem regainPower {x : Bool} (h : SetsLaw s) : SetsLaw (s.regainPower x) := by
  unfold State.regainPower
  split
  · exact h
  · split <;> exact h.begin

theorem losePower {cut : EventCut} (h : SetsLaw s) : SetsLaw (s.losePower cut) :=
  h.keep fun m => m.ite fun _ => m.frame rfl rfl rfl

theorem ite {p : Prop} [Decidable p] (h : SetsLaw s) (k : p → SetsLaw t) : SetsLaw (if p then t else s) := by
  split
  · exact k ‹_›
  · exact h

theorem exec (h : SetsLaw s) (c : Instr) : ∃ t, Machine.exec c s = .next t ∧ SetsLaw t := by
  cases c with
  | frameReceived p xs => exact ⟨_, rfl, h.ite fun _ => h.frameComplete⟩
  | portByteGapExpiry p => exact ⟨_, rfl, h.ite fun _ => h.gapExpired⟩
  | frameSent p => exact ⟨_, rfl, h.ite fun _ => h.frameSent⟩
  | portByteReceived p x stop => exact ⟨_, rfl, h.ite fun _ => h.receiveByte⟩
  | exchangeStart => exact ⟨_, rfl, h.keep fun m => m.ite fun _ => m.beginExchange⟩
  | allStopBroadcast => exact ⟨_, rfl, h.keep fun m => m.ite fun _ => m.sendAllStop⟩
  | answerReceived words =>
    change ∃ t, execAnswerReceived words s = .next t ∧ SetsLaw t
    unfold execAnswerReceived
    split
    · exact ⟨_, rfl, h.keep fun m => m.ite fun _ => m.endByAnswer⟩
    · exact ⟨_, rfl, h⟩
  | answerWindowExpiry =>
    change ∃ t, execAnswerWindowExpiry s = .next t ∧ SetsLaw t
    unfold execAnswerWindowExpiry
    split
    · exact ⟨_, rfl, h.keep fun m => m.ite fun _ => .endByWindow (m.frame rfl rfl rfl)⟩
    · exact ⟨_, rfl, h⟩
  | permitWindowExpiry i k => exact ⟨_, rfl, h.keep fun m => m.expire fun _ m => m.permitExpired⟩
  | flowingLimitExpiry i k => exact ⟨_, rfl, h.keep fun m => m.expire fun _ m => m.flowingExpired⟩
  | settleIntervalExpiry x => exact ⟨_, rfl, h.keep fun m => m.expire fun _ m => m.settleExpired⟩
  | stopDeadlineExpiry x => exact ⟨_, rfl, h.keep fun m => m.expire fun _ m => m.stopExpired⟩
  | shutdownInputAsserted =>
    refine ⟨_, rfl, ?_⟩
    split
    · exact h
    · exact h.keep fun m => m.assertInput
  | shutdownInputDeasserted => exact ⟨_, rfl, h.keep fun m => m.frame rfl rfl rfl⟩
  | terminalTimeAdvance => exact ⟨_, rfl, h.keep fun m => m.advanceTime⟩
  | writeComplete => exact ⟨_, rfl, h.keep fun m => m.ite fun _ => m.writeDone⟩
  | collectionWindowExpiry => exact ⟨_, rfl, h.keep fun m => m.ite fun _ => .takePages (m.frame rfl rfl rfl)⟩
  | eraseSuspend => exact ⟨_, rfl, h.keep fun m => m.ite fun _ => m.frame rfl rfl rfl⟩
  | eraseComplete => exact ⟨_, rfl, h.keep fun m => m.ite fun _ => m.eraseDone⟩
  | eraseVerifyFailure => exact ⟨_, rfl, h.keep fun m => m.ite fun _ => m.eraseFailed⟩
  | resetAsserted => exact ⟨_, rfl, h.assertReset⟩
  | resetDeasserted => exact ⟨_, rfl, h.keep fun m => m.deassertReset⟩
  | powerLoss cut => exact ⟨_, rfl, h.losePower⟩
  | powerReturn x => exact ⟨_, rfl, h.regainPower⟩
  | startUpEraseEnd v => exact ⟨_, rfl, h.keep fun m => m.ite fun _ => m.startErase⟩
  | startUpScanEnd slot => exact ⟨_, rfl, h.keep fun m => m.ite fun _ => m.scanEnd⟩
  | _ => exact ⟨_, rfl, h.request⟩

theorem step (h : SetsLaw s) (ht : Machine.step s = .next t) : SetsLaw t := by
  unfold Machine.step at ht
  split at ht
  · obtain rfl := Host.Outcome.next.inj ht
    exact h.keep fun m => m.ite fun _ => m.frame rfl rfl rfl
  · rename_i c rest _
    have taken : SetsLaw { s with pending := rest } := h.keep fun m => m.frame rfl rfl rfl
    obtain ⟨u, hu, law⟩ := taken.exec c
    obtain rfl := Host.Outcome.next.inj (hu.symm.trans ht)
    exact law

end SetsLaw

/-- Settles O56: every operation but PRODUCT_DEFINE, PRODUCT_STATE and a cold start keeps the product table and the
sets beside their products, an increment because its totals stop at their bounds; PRODUCT_DEFINE writes no entry in
use, PRODUCT_STATE makes none UNDEFINED, and a cold start leaves no compartment. -/
theorem setsAndProductsStayLawful : Obligations.SetsAndProductsStayLawful :=
  fun _ _ ha hp ht => SetsLaw.step ⟨ha, hp⟩ ht

end Sys2Proof.Machine

namespace Sys2Proof.Machine

/-! ### PRODUCT_DEFINE and PRODUCT_STATE -/

/-- Temperatures that rise from each point to the next rise throughout (R28, condition 4). -/
theorem rising_iff (points : List CorrPoint) :
    rising points = true ↔ points.Pairwise fun p q => p.temp < q.temp := by
  have trans : IsTrans CorrPoint fun p q => p.temp < q.temp := ⟨fun _ _ _ => lt_trans⟩
  rw [← List.isChain_iff_pairwise]
  induction points using rising.induct with
  | case1 p q rest ih => simp [rising, ih]
  | case2 points h =>
    match points, h with
    | [], _ => simp [rising]
    | [p], _ => simp [rising]
    | p :: q :: rest, h => exact absurd rfl (h p q rest)

theorem validTable_iff (points : List CorrPoint) : validTable points = true ↔ tableValid points := by
  simp only [validTable, tableValid, goodPoint, within_iff, rising_iff, Bool.and_eq_true, List.all_eq_true,
    decide_eq_true_eq, and_assoc]

theorem flashOf_isSome (n : Nat) : (flashOf n).isSome = true ↔ n ≤ 1 := by
  match n with
  | 0 | 1 => simp [flashOf]
  | n + 2 => simp [flashOf]

/-- The data of a PRODUCT_DEFINE pass check 2 of R30. -/
theorem goodData_iff (d : ProductData) : goodData d = true ↔ definable d := by
  have goods : goodsMatch d = true ↔ (d.un = 0 → d.cls = 0 ∧ d.division = 0 ∧ d.packing = 0)
      ∧ (d.un ≠ 0 → (1 ≤ d.cls ∧ d.cls ≤ 9) ∧ d.division ≤ 9 ∧ (1 ≤ d.packing ∧ d.packing ≤ 3)) := by
    unfold goodsMatch
    by_cases h : d.un = 0 <;> simp [h, within_iff, and_assoc]
  have name : d.name.toArray.toList.all printable = true ↔ ∀ c ∈ d.name.toList, 0x20 ≤ c.toNat ∧ c.toNat ≤ 0x7E := by
    simp only [List.all_eq_true, printable, within_iff]
    rfl
  simp only [goodData, definable, Bool.and_eq_true, decide_eq_true_eq, goods, name, flashOf_isSome, validTable_iff,
    and_assoc]

theorem packingOf_code (p : Packing) : packingOf p.code = some p := by cases p <;> rfl

theorem flashOf_code (f : Flash) : flashOf f.code = some f := by cases f <;> rfl

/-- The states that a PRODUCT_DEFINE or PRODUCT_STATE names beside UNDEFINED (section 11.1). -/
def targets (n : Nat) (st : ProductState) : Prop := (n = 1 ∧ st = .enabled) ∨ (n = 2 ∧ st = .disabled)

/-- ENABLED or DISABLED with definable data gives the entry of every field of the body (R31). -/
theorem definedEntry_eq {c n : Nat} {d : ProductData} {e : Product} (hn : targets n e.state) (hd : definable d)
    (he : e.name = d.name ∧ e.un = d.un ∧ e.cls = d.cls ∧ e.division = d.division ∧ e.packing.code = d.packing
      ∧ e.flash.code = d.flash ∧ e.points = d.points) : definedEntry ⟨c, n, some d⟩ = some e := by
  obtain ⟨name, un, cls, division, packing, flash, points⟩ := he
  have entry : definedEntry ⟨c, n, some d⟩ = if goodData d then some ⟨e.state, d.name, d.un, d.cls, d.division,
      (packingOf d.packing).getD .none, (flashOf d.flash).getD .low, d.points⟩ else none := by
    obtain ⟨rfl, hs⟩ | ⟨rfl, hs⟩ := hn <;> rw [hs] <;> rfl
  rw [entry, if_pos ((goodData_iff d).2 hd), ← name, ← un, ← cls, ← division, ← packing, ← flash, ← points,
    packingOf_code, flashOf_code]
  rfl

/-- No entry is defined by a state above DISABLED, or without definable data for ENABLED and DISABLED (R30). -/
theorem definedEntry_eq_none (b : ProductBody) : definedEntry b = none ↔
    2 < b.state ∨ (b.state ≠ 0 ∧ ¬ ∃ d, b.data = some d ∧ definable d) := by
  obtain ⟨c, n, data⟩ := b
  match n, data with
  | 0, _ => simp [definedEntry, productStateOf]
  | 1, none | 2, none => simp [definedEntry, productStateOf]
  | 1, some d | 2, some d => simp [definedEntry, productStateOf, goodData_iff]
  | n + 3, _ => simp [definedEntry, productStateOf]

theorem within_code (k : Fin 16) : (!within 1 16 (k.val + 1)) = false := by
  rw [Bool.not_eq_false', within_iff]
  omega

theorem State.productDefine_accepted {s : State} {k : Fin 16} {n : Nat} {data : Option ProductData} {e : Product}
    (he : definedEntry ⟨k.val + 1, n, data⟩ = some e) (hu : s.inUse (k.val + 1) = 0) :
    s.productDefine ⟨k.val + 1, n, data⟩ =
      ({ s with products := s.products.set k.val e k.isLt }, .done (.product (k.val + 1) e)) := by
  simp only [State.productDefine, he, within_code, hu, State.setProduct_eq, Nat.lt_irrefl, Bool.false_eq_true, if_false]

/-- BAD_FIELD is given for code and state, then for the data, then IN_USE (R30). -/
theorem State.productDefine_refused {s : State} {b : ProductBody} {y : FrameBody}
    (h : firstFailing (s.defineChecks b) y) : s.productDefine b = (s, y) := by
  unfold State.productDefine
  cases he : definedEntry b with
  | none =>
    have bad : y = .refused .badField := by
      by_cases hc : b.code = 0 ∨ 16 < b.code ∨ 2 < b.state
      · exact h.answer hc
      · exact (h.skip hc).answer (((definedEntry_eq_none b).1 he).resolve_left fun h => hc (.inr (.inr h)))
    rw [bad]
  | some e =>
    obtain ⟨state, data⟩ := not_or.1 (mt (definedEntry_eq_none b).2 (by simp [he]))
    refine h.ite (by simp [within]; omega) fun _ h => ?_
    exact (h.skip data).ite Iff.rfl fun _ h => h.elim

theorem targetState_eq {n : Nat} {st : ProductState} (h : targets n st) : targetState n = some st := by
  obtain ⟨rfl, rfl⟩ | ⟨rfl, rfl⟩ := h <;> rfl

theorem targetState_none {n : Nat} (h : n ≠ 1 ∧ n ≠ 2) : targetState n = none := by
  match n with
  | 0 => rfl
  | 1 | 2 => simp at h
  | n + 3 => rfl

theorem State.productState_refused {s : State} {code n : Nat} (h : code = 0 ∨ 16 < code ∨ (n ≠ 1 ∧ n ≠ 2)) :
    s.productState code n = (s, .refused .badField) := by
  unfold State.productState
  cases ht : targetState n with
  | none => rfl
  | some st =>
    refine if_pos ?_
    have valid : ¬ (n ≠ 1 ∧ n ≠ 2) := fun hn => by simp [targetState_none hn] at ht
    simp [within]
    omega

/-- A code and a target that pass check 1 of R33: WRONG_STATE for an UNDEFINED entry, else the target is written. -/
theorem State.productState_eq {s : State} {k : Fin 16} {n : Nat} {st : ProductState} (h : targets n st) :
    s.productState (k.val + 1) n = if (s.products.get k).state = .undefined then (s, .refused .wrongState)
      else ({ s with products := s.products.set k.val { s.products.get k with state := st } k.isLt },
        .done (.productState st (s.inUse (k.val + 1)))) := by
  simp only [State.productState, targetState_eq h, within_code, State.product_eq, State.setProduct_eq,
    Bool.false_eq_true, if_false]

/-- Settles O17: each request reaches its owner at once, whose checks are those of its rule. -/
theorem productsAreDefinedAndSwitched : Obligations.ProductsAreDefinedAndSwitched := by
  refine ⟨fun s tag k hready hu => ⟨fun data => ?_, fun n data e hn hd he => ?_⟩, fun s tag b y hready h => ?_,
    fun s tag code n hready => ⟨fun h => ?_, fun k st hk hn => ⟨fun hs => ?_, fun hs => ?_⟩⟩⟩
  all_goals refine congrArg Host.Outcome.next ?_
  · exact State.request_answered (body := .productDefine _) hready rfl (by simp)
      (State.productDefine_accepted (s := s.serving .office tag 0x0A) rfl hu)
  · exact State.request_answered (body := .productDefine _) hready rfl (by simp)
      (State.productDefine_accepted (s := s.serving .office tag 0x0A) (definedEntry_eq hn hd he) hu)
  · exact State.request_read (body := .productDefine b) hready rfl (by simp)
      (State.productDefine_refused (s := s.serving .office tag 0x0A) h)
  · exact State.request_read (body := .productState code n) hready rfl (by simp)
      (State.productState_refused (s := s.serving .office tag 0x0B) h)
  · subst hk
    exact State.request_read (body := .productState _ n) hready rfl (by simp)
      ((State.productState_eq (s := s.serving .office tag 0x0B) hn).trans (if_pos hs))
  · subst hk
    exact State.request_answered (body := .productState _ n) hready rfl (by simp)
      ((State.productState_eq (s := s.serving .office tag 0x0B) hn).trans (if_neg hs))

end Sys2Proof.Machine

namespace Sys2Proof.Machine

/-! ### The correction factor (R45) -/

/-- A part `m` of `n` of a difference, rounded toward zero, lies between nothing and the difference. -/
theorem tdiv_part (a : Int) {m n : Int} (hm : 0 ≤ m) (hn : m < n) :
    min 0 a ≤ (a * m).tdiv n ∧ (a * m).tdiv n ≤ max 0 a := by
  have up : ∀ b : Int, 0 ≤ b → 0 ≤ (b * m).tdiv n ∧ (b * m).tdiv n ≤ b := fun b hb => by
    have hbm : 0 ≤ b * m := mul_nonneg hb hm
    rw [Int.tdiv_eq_ediv_of_nonneg hbm]
    exact ⟨Int.ediv_nonneg hbm (by omega), Int.ediv_le_of_le_mul (by omega) (mul_le_mul_of_nonneg_left hn.le hb)⟩
  rcases le_total 0 a with ha | ha
  · obtain ⟨h0, h1⟩ := up a ha
    omega
  · obtain ⟨h0, h1⟩ := up (-a) (by omega)
    rw [Int.neg_mul, Int.neg_tdiv] at h0 h1
    omega

/-- The factor between two points: the straight line, which stays between the two factors (R45, case 3). -/
theorem interpolate_spec {p q : CorrPoint} {t : Int} (hp : p.temp ≤ t) (hq : t < q.temp) :
    (interpolate p q t : Int) = p.factor + (((q.factor : Int) - p.factor) * (t - p.temp)).tdiv (q.temp - p.temp)
      ∧ min p.factor q.factor ≤ interpolate p q t ∧ interpolate p q t ≤ max p.factor q.factor := by
  obtain ⟨hlo, hhi⟩ := tdiv_part ((q.factor : Int) - p.factor) (m := t - p.temp) (n := q.temp - p.temp) (by omega)
    (by omega)
  unfold interpolate
  omega

/-- In a rising table no point lies below the first. -/
theorem first_temp_le {first p : CorrPoint} {rest : List CorrPoint}
    (hr : (first :: rest).Pairwise fun x y => x.temp < y.temp) (hp : p ∈ first :: rest) : first.temp ≤ p.temp := by
  rcases List.mem_cons.1 hp with rfl | hm
  · exact le_rfl
  · exact ((List.pairwise_cons.1 hr).1 p hm).le

/-- From its first point on a table gives, between two neighbours, the factor between them. -/
theorem factorFrom_between {p q : CorrPoint} {t : Int} (hp : p.temp ≤ t) (hq : t < q.temp) (rest : List CorrPoint)
    (first : CorrPoint) (i : Nat) (hr : (first :: rest).Pairwise fun x y => x.temp < y.temp)
    (h : (first :: rest)[i]? = some p) (h' : (first :: rest)[i + 1]? = some q) :
    factorFrom first rest t = interpolate p q t := by
  induction rest generalizing first i with
  | nil => simp at h'
  | cons next rest ih =>
    cases i with
    | zero =>
      obtain rfl : first = p := by simpa using h
      obtain rfl : next = q := by simpa using h'
      exact if_pos hq
    | succ i =>
      obtain ⟨-, later⟩ := List.pairwise_cons.1 hr
      have hi : (next :: rest)[i]? = some p := by simpa using h
      have passed : ¬ t < next.temp := by
        have := first_temp_le later (List.mem_of_getElem? hi)
        omega
      exact (if_neg passed).trans (ih next i later hi (by simpa using h'))

/-- At and above its last point a table gives the last factor (R45, case 2). -/
theorem factorFrom_last {p : CorrPoint} {t : Int} (hp : p.temp ≤ t) (rest : List CorrPoint) (first : CorrPoint)
    (hr : (first :: rest).Pairwise fun x y => x.temp < y.temp) (h : (first :: rest).getLast? = some p) :
    factorFrom first rest t = p.factor := by
  induction rest generalizing first with
  | nil =>
    obtain rfl : first = p := by simpa using h
    rfl
  | cons next rest ih =>
    rw [List.getLast?_cons_cons] at h
    obtain ⟨-, later⟩ := List.pairwise_cons.1 hr
    have passed : ¬ t < next.temp := by
      have := first_temp_le later (List.mem_of_getLast? h)
      omega
    exact (if_neg passed).trans (ih next later h)

/-- Every factor that a table gives lies within bounds in which its own factors lie. -/
theorem factorFrom_within {lo hi : Nat} {t : Int} (rest : List CorrPoint) (first : CorrPoint) (ht : first.temp ≤ t)
    (h : ∀ p ∈ first :: rest, lo ≤ p.factor ∧ p.factor ≤ hi) :
    lo ≤ factorFrom first rest t ∧ factorFrom first rest t ≤ hi := by
  induction rest generalizing first with
  | nil => exact h first (by simp)
  | cons next rest ih =>
    unfold factorFrom
    split
    · rename_i hn
      obtain ⟨-, hlo, hhi⟩ := interpolate_spec ht hn
      have := h first (by simp)
      have := h next (by simp)
      omega
    · exact ih next (by omega) fun p hp => h p (by simp_all)

/-- A table's factor: the first point's up to it, from there on `factorFrom` (R45). -/
theorem factor_cons (first : CorrPoint) (rest : List CorrPoint) (t : Int) :
    factor (first :: rest) t = if t ≤ first.temp then first.factor else factorFrom first rest t := rfl

/-- From its first point on a rising table gives what `factorFrom` gives, also at the first point itself. -/
theorem factor_cons_of_le {first : CorrPoint} {rest : List CorrPoint} {t : Int}
    (hr : (first :: rest).Pairwise fun x y => x.temp < y.temp) (ht : first.temp ≤ t) :
    factor (first :: rest) t = factorFrom first rest t := by
  rw [factor_cons]
  rcases ht.eq_or_lt with rfl | above
  · cases rest with
    | nil => exact if_pos le_rfl
    | cons next rest =>
      have hn : first.temp < next.temp := (List.pairwise_cons.1 hr).1 next (by simp)
      simp [factorFrom, hn, interpolate]
  · exact if_neg (by omega)

/-- At and below its first point a table gives the first factor (R45, case 1). -/
theorem factor_head {points : List CorrPoint} {p : CorrPoint} {t : Int} (h : points.head? = some p)
    (ht : t ≤ p.temp) : factor points t = p.factor := by
  cases points with
  | nil => cases h
  | cons first rest =>
    obtain rfl : first = p := by simpa using h
    exact if_pos ht

/-- At and above its last point a rising table gives the last factor. -/
theorem factor_last {points : List CorrPoint} {p : CorrPoint} {t : Int}
    (hr : points.Pairwise fun x y => x.temp < y.temp) (h : points.getLast? = some p) (ht : p.temp ≤ t) :
    factor points t = p.factor := by
  cases points with
  | nil => cases h
  | cons first rest =>
    have hfirst := first_temp_le hr (List.mem_of_getLast? h)
    rw [factor_cons_of_le hr (hfirst.trans ht)]
    exact factorFrom_last ht rest first hr h

/-- Between two neighbours a rising table gives the factor between them. -/
theorem factor_between {points : List CorrPoint} {i : Nat} {p q : CorrPoint} {t : Int}
    (hr : points.Pairwise fun x y => x.temp < y.temp) (h : points[i]? = some p) (h' : points[i + 1]? = some q)
    (hp : p.temp ≤ t) (hq : t < q.temp) : factor points t = interpolate p q t := by
  cases points with
  | nil => cases h
  | cons first rest =>
    have hfirst := first_temp_le hr (List.mem_of_getElem? h)
    rw [factor_cons_of_le hr (hfirst.trans hp)]
    exact factorFrom_between hp hq rest first i hr h h'

/-- A table with a point gives a factor within any bounds in which its own factors lie. -/
theorem factor_within {points : List CorrPoint} {lo hi : Nat} (t : Int) (hne : points ≠ [])
    (h : ∀ p ∈ points, lo ≤ p.factor ∧ p.factor ≤ hi) : lo ≤ factor points t ∧ factor points t ≤ hi := by
  cases points with
  | nil => exact absurd rfl hne
  | cons first rest =>
    rw [factor_cons]
    split
    · exact h first (by simp)
    · rename_i high
      exact factorFrom_within rest first (by omega) h

/-! ### One increment (R42, R44, R46) -/

/-- The set after an increment's cumulative `c` and temperature `t` are taken and before any volume is
counted (R42, R44). -/
def Acc.heard (a : Acc) (c : Nat) (t : Int) : Acc :=
  { a with
    L := max a.L c
    flags := { a.flags with
      regression := a.flags.regression || decide (c < a.L)
      tempClamped := a.flags.tempClamped || decide (clampTemp t ≠ t) } }

/-- A cumulative not above L counts nothing (R42). -/
theorem increment_acc_of_le {a : Acc} {c : Nat} (h : c ≤ a.L) (points : List CorrPoint) (t : Int) :
    (increment points a c t).acc = a.heard c t :=
  if_pos (Nat.sub_eq_zero_of_le h)

/-- A cumulative above L counts the difference at the factor of the clamped temperature (R42, R46). -/
theorem increment_acc_of_lt {a : Acc} {c : Nat} (h : a.L < c) (points : List CorrPoint) (t : Int) :
    (increment points a c t).acc
      = accumulate (a.heard c t) (c - a.L) (factor points (clampTemp t)) (clampTemp t) :=
  if_neg (Nat.sub_ne_zero_of_lt h)

/-- What an increment keeps of the set as heard, with volume or without: L and the flags other than LIMITED. -/
theorem increment_keeps_heard (points : List CorrPoint) (a : Acc) (c : Nat) (t : Int) :
    (increment points a c t).acc.L = (a.heard c t).L
      ∧ (increment points a c t).acc.flags.regression = (a.heard c t).flags.regression
      ∧ (increment points a c t).acc.flags.tempClamped = (a.heard c t).flags.tempClamped := by
  rcases Nat.lt_or_ge a.L c with h | h
  · rw [increment_acc_of_lt h]
    exact ⟨rfl, rfl, rfl⟩
  · rw [increment_acc_of_le h]
    exact ⟨rfl, rfl, rfl⟩

/-- A temperature is changed by the clamp just when it lies out of range (R44). -/
theorem clampTemp_ne_iff (t : Int) : clampTemp t ≠ t ↔ t < -500 ∨ 700 < t := by
  unfold clampTemp
  omega

/-- A volume that is counted sets LIMITED just when it leaves a total at its bound (R46, log entry 19). -/
theorem accumulate_limited_iff {a : Acc} {dg f : Nat} {t : Int} (h : dg ≠ 0) :
    (accumulate a dg f t).flags.limited = true ↔ a.flags.limited = true ∨ (accumulate a dg f t).A = boundA
      ∨ (accumulate a dg f t).G = boundG ∨ (accumulate a dg f t).S = -boundS ∨ (accumulate a dg f t).S = boundS := by
  have hA : min boundA (a.A + dg * f) = boundA ↔ boundA ≤ a.A + dg * f := min_eq_left_iff
  have hG : min boundG (a.G + dg) = boundG ↔ boundG ≤ a.G + dg := min_eq_left_iff
  have hS : (max (-boundS) (min boundS (a.S + dg * t)) = -boundS ↔ a.S + dg * t ≤ -boundS)
      ∧ (max (-boundS) (min boundS (a.S + dg * t)) = boundS ↔ boundS ≤ a.S + dg * t) := by
    unfold boundS
    omega
  simp only [accumulate, Bool.or_eq_true, decide_eq_true_eq, hA, hG, hS, ne_eq, h, not_false_eq_true, true_and]

/-- Settles O49, from the factor's three cases (R45) and the two cases of an increment, with volume and
without (R42, R46). -/
theorem incrementsFollowTheTable : Obligations.IncrementsFollowTheTable := by
  unfold Obligations.IncrementsFollowTheTable
  constructor
  · rintro points t ⟨⟨two, -⟩, ranges, rising⟩
    refine ⟨fun p h ht => factor_head h ht, fun p h ht => factor_last rising h ht, fun i p q h h' hp hq => ?_,
      factor_within t (List.ne_nil_of_length_pos (by omega)) fun p hp => (ranges p hp).2⟩
    rw [factor_between rising h h' hp hq]
    exact interpolate_spec hp hq
  · rintro points a c t r T f rfl rfl rfl
    obtain ⟨hL, hregression, hclamped⟩ := increment_keeps_heard points a c t
    refine ⟨hL, rfl, decide_eq_true_iff, ?_, rfl, ?_, fun h => ?_, fun h => ?_⟩
    · simp [hregression, Acc.heard]
    · rw [hclamped, ← clampTemp_ne_iff]
      simp [Acc.heard]
    · rw [increment_acc_of_le h]
      exact ⟨rfl, rfl, rfl, rfl⟩
    · rw [increment_acc_of_lt h]
      exact ⟨rfl, rfl, rfl, accumulate_limited_iff (Nat.sub_ne_zero_of_lt h)⟩

end Sys2Proof.Machine

namespace Sys2Proof.Machine

/-! ### Readouts (R48 to R50) -/

/-- The net readout limits from 65,535.5 litres on (R48). -/
theorem Acc.rawNet_gt_iff {a : Acc} : 65535 < a.rawNet ↔ 42949345280 ≤ a.A := by
  unfold Acc.rawNet
  omega

/-- The gross readout limits from 65,535.5 litres on (R49). -/
theorem Acc.rawGross_gt_iff {a : Acc} : 65535 < a.rawGross ↔ 655355 ≤ a.G := by
  unfold Acc.rawGross
  omega

theorem Acc.net_of_limited {a : Acc} (h : 42949345280 ≤ a.A) : a.net = 65535 :=
  min_eq_left (rawNet_gt_iff.2 h).le

theorem Acc.net_of_lt {a : Acc} (h : a.A < 42949345280) : a.net = (a.A + 327680) / 655360 :=
  min_eq_right (not_lt.1 (mt rawNet_gt_iff.1 h.not_ge))

theorem Acc.gross_of_limited {a : Acc} (h : 655355 ≤ a.G) : a.gross = 65535 :=
  min_eq_left (rawGross_gt_iff.2 h).le

theorem Acc.gross_of_lt {a : Acc} (h : a.G < 655355) : a.gross = (a.G + 5) / 10 :=
  min_eq_right (not_lt.1 (mt rawGross_gt_iff.1 h.not_ge))

theorem Acc.net_le (a : Acc) : a.net ≤ 65535 := min_le_left ..

theorem Acc.gross_le (a : Acc) : a.gross ≤ 65535 := min_le_left ..

theorem Acc.afterNet_of_limited {a : Acc} (h : 42949345280 ≤ a.A) :
    a.afterNet = { a with flags := { a.flags with limited := true } } := by
  rw [afterNet, decide_eq_true (rawNet_gt_iff.2 h), Bool.or_true]

theorem Acc.afterNet_of_lt {a : Acc} (h : a.A < 42949345280) : a.afterNet = a := by
  rw [afterNet, decide_eq_false (mt rawNet_gt_iff.1 h.not_ge), Bool.or_false]

/-- The net readout taken again sets nothing more: it depends on A alone, which it keeps (R48). -/
theorem Acc.afterNet_afterNet (a : Acc) : a.afterNet.afterNet = a.afterNet := by
  rcases Nat.lt_or_ge a.A 42949345280 with h | h
  · rw [afterNet_of_lt h, afterNet_of_lt h]
  · rw [afterNet_of_limited (a := a.afterNet) h, afterNet_of_limited h]

/-- The quotient rounded toward zero, told by absolute values and sign (R50). -/
theorem averages_averageOf (sum : Int) (gross : Nat) : averages sum gross (averageOf sum gross) := by
  unfold averages averageOf
  split
  · rfl
  · have magnitude : (sum.tdiv gross).natAbs = sum.natAbs / gross := Int.natAbs_tdiv ..
    refine ⟨_, rfl, ?_, ?_, fun h => Int.tdiv_nonneg h (Int.natCast_nonneg _), fun h => ?_⟩
    · rw [magnitude]
      exact Nat.div_mul_le_self ..
    · rw [magnitude, mul_comm]
      exact Nat.lt_mul_div_succ _ (by omega)
    · rw [← neg_nonneg, ← Int.neg_tdiv]
      exact Int.tdiv_nonneg (neg_nonneg.2 h) (Int.natCast_nonneg _)

/-! ### Paper lines (R52 to R54, R126) -/

theorem Delivery.lineComps_eq (d : Delivery) (code : Nat) : d.lineComps code = d.onLine code :=
  List.filter_congr fun c _ => by cases c.state <;> rfl

/-- A paper's lines: one for each product code that a compartment takes part in (R126). -/
theorem State.paperLines_eq (s : State) (d : Delivery) : s.paperLines d =
    ((List.range' 1 16).filter fun code => d.onLine code ≠ []).map fun code =>
      paperLine (s.product code) code (d.onLine code) := by
  unfold State.paperLines
  induction List.range' 1 16 with
  | nil => rfl
  | cons code codes ih =>
    rw [List.filterMap_cons, ih, d.lineComps_eq]
    cases h : d.onLine code <;> simp [h]

/-- A line names its compartments in ascending index (R124). -/
theorem paperLine_comps (e : Product) (code : Nat) (cs : List Compartment) :
    (paperLine e code cs).comps = (List.range' 1 6).filter fun k => decide (∃ c ∈ cs, c.index = k) :=
  List.filter_congr fun k _ => by rw [Bool.eq_iff_iff]; simp

/-- Readouts of at most 65,535 litres sum to at most 393,210 over six compartments (R53). -/
theorem sum_readouts_le {f : Compartment → Nat} (hf : ∀ c, f c ≤ 65535) {cs : List Compartment}
    (h : cs.length ≤ 6) : (cs.map f).sum ≤ 393210 := by
  have bound := List.sum_le_card_nsmul (cs.map f) 65535 (by simpa using fun c _ => hf c)
  simp only [List.length_map, smul_eq_mul] at bound
  omega

/-- Settles O50, from the two readouts below and above their limit and the equation of a paper's lines. -/
theorem netReadoutsRoundHalfUp : Obligations.NetReadoutsRoundHalfUp := by
  unfold Obligations.NetReadoutsRoundHalfUp
  refine ⟨fun a => ⟨fun h => ?_, fun h => ⟨Acc.net_of_limited h, Acc.afterNet_of_limited h⟩, rfl, rfl,
    a.afterNet_afterNet⟩, fun a => ⟨fun h => ?_, Acc.gross_of_limited, a.afterReadouts_eq,
    averages_averageOf a.S a.G⟩, fun s d => ⟨?_, ?_⟩⟩
  · have rounded := Acc.net_of_lt h
    exact ⟨by omega, by omega, a.net_le, Acc.afterNet_of_lt h⟩
  · have rounded := Acc.gross_of_lt h
    exact ⟨by omega, by omega, a.gross_le⟩
  · rw [State.paperLines_eq, List.map_map]
    exact List.map_id _
  · rintro x hx e cs rfl rfl
    rw [State.paperLines_eq] at hx
    obtain ⟨code, -, rfl⟩ := List.mem_map.1 hx
    have few : d.comps.length ≤ 6 → (d.onLine code).length ≤ 6 := (List.length_filter_le ..).trans
    exact ⟨rfl, rfl, rfl, rfl, rfl, paperLine_comps .., rfl, rfl,
      fun h => ⟨sum_readouts_le (fun c => c.acc.net_le) (few h), sum_readouts_le (fun c => c.acc.gross_le) (few h)⟩,
      averages_averageOf ..⟩

end Sys2Proof.Machine

namespace Sys2Proof.Machine

/-! ### ARRIVE refused (R112, R113) -/

theorem badDriver_eq_true {n : Nat} : badDriver n = true ↔ n = 0 ∨ 65534 < n := by
  rw [badDriver_iff]
  unfold driverNumber
  omega

/-- Check 1 of ARRIVE, as R112 and R113 word it. -/
theorem badArrive_eq_true {b : ArriveBody} : (b.ref = 0 ∨ b.driver = 0 ∨ 65534 < b.driver
      ∨ ∃ x, b.declaration = some x ∧ (x.days = [] ∨ 14 < x.days.length)) ↔ badArrive b = true := by
  have declared : ∀ x, badDeclaration x = true ↔ x.days = [] ∨ 14 < x.days.length := fun x => by
    rw [← List.length_eq_zero_iff]
    simp only [badDeclaration, within, Bool.not_eq_true', Bool.and_eq_false_iff, decide_eq_false_iff_not]
    omega
  simp only [badArrive, Bool.or_eq_true, beq_iff_eq, badDriver_eq_true, Option.any_eq_true, declared, or_assoc]

/-- The checks 7 to 9 of ARRIVE for a registered driver, in their order (R112). -/
theorem arriveRefusal_some (d : Delivery) (b : ArriveBody) (x : Driver) : arriveRefusal d b (some x) =
    if d.driver ≠ none ∧ d.driver ≠ some b.driver then some .driverMismatch
    else if x.bound ≠ none then some .driverBusy
    else if x.shiftStart = none ∧ b.declaration = none then some .needDeclaration
    else none := by
  have other : (d.driver.any fun n => n != b.driver) = true ↔ d.driver ≠ none ∧ d.driver ≠ some b.driver := by
    cases d.driver <;> simp
  simp only [arriveRefusal, other, Option.isSome_iff_ne_none, Bool.and_eq_true, Option.isNone_iff_eq_none]

/-- ARRIVE answers by the first of its checks that fails, and changes nothing (R112, R113). -/
theorem State.announce_refused {s : State} {b : ArriveBody} {y : FrameBody} (hu : s.refsDiffer)
    (h : firstFailing (s.arriveChecks b.ref b.driver b.declaration ++ s.log.requesterChecks) y) :
    s.announce b = (s, y) := by
  refine firstFailing.ite h badArrive_eq_true fun _ h => ?_
  cases ht : s.time with
  | none => rw [h.answer ht]
  | some now =>
    replace h := h.skip (by simp [ht])
    cases hf : s.find b.ref with
    | none => rw [h.answer (State.not_holdsOne hf _)]
    | some x =>
      obtain ⟨i, d⟩ := x
      have one := fun P => State.holdsOne_iff hu hf (P := P)
      have owned : ((s.holdsOne b.ref fun d => s.owned d = true)
          ∨ ∃ x, s.driver b.driver = some x ∧ s.driverOwned x = true) ↔
          (s.owned d || (s.driver b.driver).any s.driverOwned) = true := by
        rw [one, Bool.or_eq_true, Option.any_eq_true]
      refine firstFailing.ite (h.skip (not_not.2 ((one _).2 trivial))) owned fun _ h => ?_
      refine firstFailing.ite h (one _) fun _ h => ?_
      cases hx : s.driver b.driver with
      | none => rw [h.answer hx]; rfl
      | some x =>
        replace h := h.skip (by simp [hx])
        have driver : ∀ P : Driver → Prop, (∃ z, s.driver b.driver = some z ∧ P z) ↔ P x := by simp [hx]
        rw [arriveRefusal_some]
        by_cases hm : d.driver ≠ none ∧ d.driver ≠ some b.driver
        · rw [if_pos hm, h.answer ((one _).2 hm)]
        replace h := h.skip (mt (one _).1 hm)
        by_cases hb : x.bound ≠ none
        · rw [if_neg hm, if_pos hb, h.answer ((driver _).2 hb)]
        replace h := h.skip (mt (driver _).1 hb)
        by_cases hn : x.shiftStart = none ∧ b.declaration = none
        · rw [if_neg hm, if_neg hb, if_pos hn, h.answer ⟨(driver _).2 hn.1, hn.2⟩]
        replace h := h.skip fun ⟨hs, hw⟩ => hn ⟨(driver _).1 hs, hw⟩
        rw [if_neg hm, if_neg hb, if_neg hn, LogStore.requesterRefusal_failing h]

/-! ### RELEASE refused before its hold computation (R134, steps 1 to 6) -/

/-- A delivery has no paper to release outside LOADED and HELD, and in LOADED without one (R125). -/
theorem Delivery.noPaper_iff {d : Delivery} : d.noPaper = true ↔
    (d.state ≠ .loaded ∧ d.state ≠ .held) ∨ (d.state = .loaded ∧ d.paper = none) := by
  unfold Delivery.noPaper
  cases d.state <;> simp

theorem Delivery.anyStopping_iff {d : Delivery} :
    (d.comps.any fun c => c.state == .stopping) = true ↔ ∃ c ∈ d.comps, c.state = .stopping := by simp

/-- RELEASE answers by the first of its steps 1 to 6 that fails, and changes nothing (R134). -/
theorem State.release_refused {s : State} {p : Port} {tag ref n : Nat} {y : FrameBody} (hu : s.refsDiffer)
    (h : firstFailing (s.releaseChecks ref n) y) : s.release p tag ref n = (s, y) := by
  refine firstFailing.ite h (or_congr_right badDriver_eq_true.symm) fun _ h => ?_
  cases hf : s.find ref with
  | none => rw [h.answer (State.not_holdsOne hf _)]
  | some x =>
    have one := fun P => State.holdsOne_iff hu hf (P := P)
    refine firstFailing.ite (h.skip (not_not.2 ((one _).2 trivial))) (one _) fun _ h => ?_
    refine firstFailing.ite h ((one _).trans Delivery.noPaper_iff.symm) fun _ h => ?_
    refine firstFailing.ite h (one _) fun _ h => ?_
    exact firstFailing.ite h ((one _).trans Delivery.anyStopping_iff.symm) fun _ h => h.elim

/-- A RELEASE whose steps 1 to 6 pass goes by its hold computation (R134, steps 7 and 8). -/
theorem State.release_computed {s : State} {p : Port} {tag n : Nat} {i : SlotNo} {d : Delivery} (hd : s.holdsAt i d)
    (hr : d.ref ≠ 0) (hn : driverNumber n) (ho : s.owned d = false)
    (hp : (d.state = .loaded ∧ d.paper ≠ none) ∨ d.state = .held) (hdr : d.driver = some n)
    (hc : ∀ c ∈ d.comps, c.state ≠ .stopping) : s.release p tag d.ref n =
      if (s.computeHolds d).holds ≠ HoldSet.empty then s.hold i (s.computeHolds d)
      else s.acceptRelease p tag i (s.computeHolds d).record := by
  have fields : ¬ (d.ref = 0 ∨ badDriver n = true) := not_or.2 ⟨hr, mt badDriver_iff.1 (not_not.2 hn)⟩
  have paper : ¬ d.noPaper = true := by
    rw [Delivery.noPaper_iff]
    rcases hp with ⟨hl, hp⟩ | hh
    · simp [hl, hp]
    · simp [hh]
  have still : ¬ (d.comps.any fun c => c.state == .stopping) = true :=
    fun h => (Delivery.anyStopping_iff.1 h).elim fun c hx => hc c hx.1 hx.2
  unfold State.release
  rw [if_neg fields, State.find_of_holdsAt hd]
  dsimp only
  rw [if_neg (by rw [ho]; decide), if_neg paper, if_neg (not_not.2 hdr), if_neg still]

/-! ### The hold computation (R132, R133) -/

/-- The readouts change nothing that does not read the sets. -/
theorem Delivery.withReadouts_any (d : Delivery) {f : Compartment → Bool}
    (hf : ∀ c x, f { c with acc := x } = f c) : d.withReadouts.comps.any f = d.comps.any f := by
  unfold Delivery.withReadouts
  rw [List.any_map]
  refine List.any_congr rfl fun c => ?_
  dsimp only [Function.comp]
  split
  · exact hf c _
  · rfl

/-- The projection of a delivery does not depend on its readouts. -/
theorem State.projectFor_withReadouts (s : State) (d : Delivery) :
    s.projectFor d.withReadouts = s.projectFor d := by
  have dangerous : s.dangerous d.withReadouts = s.dangerous d := d.withReadouts_any fun _ _ => rfl
  unfold State.projectFor
  rw [dangerous]
  rfl

/-- The hold computation, with its raised set given field by field (R132, R133). -/
theorem State.computeHolds_eq (s : State) (d : Delivery) : s.computeHolds d =
    let raised := { (s.projectFor d).failing with
      provisional := d.comps.any fun c => c.state == .interrupted
      quantity := d.withReadouts.comps.any fun c => c.acc.flags.doubtful
      logFull := decide (s.log.freeSpace < 65) }
    ⟨d.withReadouts, raised, raised.without d.overrides, (s.projectFor d).margins⟩ := by
  have interrupted := d.withReadouts_any (f := fun c => c.state == .interrupted) fun _ _ => rfl
  unfold State.computeHolds Delivery.raised
  simp only [Delivery.paperReadouts_eq, State.projectFor_withReadouts, interrupted]
  rfl

theorem Flags.doubtful_iff {f : Flags} : f.doubtful = true ↔ f.limited ∨ f.regression ∨ f.unclosed := by
  simp only [Flags.doubtful, Bool.or_eq_true, or_assoc]

/-- No hold is left where each that the compartments, the hours or the log raise is overridden (R133). -/
theorem State.computeHolds_empty {s : State} {d : Delivery}
    (hi : (∃ c ∈ d.comps, c.state = .interrupted) → d.overrides.provisional = true)
    (hq : (∃ c ∈ d.withReadouts.comps, c.acc.flags.limited ∨ c.acc.flags.regression ∨ c.acc.flags.unclosed) →
      d.overrides.quantity = true)
    (hf : (s.projectFor d).failing.without d.overrides = HoldSet.empty) (hl : 65 ≤ s.log.freeSpace) :
    (s.computeHolds d).holds = HoldSet.empty := by
  have provisional : ((d.comps.any fun c => c.state == .interrupted) && !d.overrides.provisional) = false := by
    cases h : d.overrides.provisional
    · simpa [h] using hi
    · simp
  have quantity : ((d.withReadouts.comps.any fun c => c.acc.flags.doubtful) && !d.overrides.quantity) = false := by
    cases h : d.overrides.quantity
    · simpa [h, Flags.doubtful_iff, -not_or] using hq
    · simp
  simp only [HoldSet.without, HoldSet.empty, HoldSet.mk.injEq] at hf
  obtain ⟨-, -, daily, rolling, shift, endorsement, -⟩ := hf
  rw [State.computeHolds_eq]
  simp only [HoldSet.without, HoldSet.empty, provisional, quantity, daily, rolling, shift, endorsement,
    decide_eq_false hl.not_gt, Bool.false_and]

/-! ### RELEASE turned away at its last step (R134, step 8) -/

/-- A check that fails among the first answers whatever comes after them. -/
theorem firstFailing.append {l : List (Prop × FrameBody)} {y : FrameBody} (h : firstFailing l y)
    (rest : List (Prop × FrameBody)) : firstFailing (l ++ rest) y := by
  induction l with
  | nil => exact h.elim
  | cons check l ih => exact h.imp_right fun ⟨hp, h⟩ => ⟨hp, ih h⟩

/-- An accepted RELEASE that cannot be deferred leaves the readouts taken (R51, R134). -/
theorem State.acceptRelease_refused {s : State} {p : Port} {tag : Nat} {i : SlotNo} {d : Delivery} {y : FrameBody}
    (h : firstFailing ((s.port p).deferralChecks tag ++ s.log.requesterChecks) y) :
    s.acceptRelease p tag i d = (s.setSlot i (some d), y) := by
  have refusal : (s.setSlot i (some d)).deferrableRefusal p tag = some y :=
    State.deferrableRefusal_failing h
  simp only [State.acceptRelease, refusal]

/-- Settles O7: each request reaches its owner, whose checks are those of its rule. -/
theorem gateRequestsAreRefusedInOrder : Obligations.GateRequestsAreRefusedInOrder := by
  unfold Obligations.GateRequestsAreRefusedInOrder
  intro s tag y hfree hu
  refine ⟨fun ref n w ht h => ?_, fun ref n => ⟨fun h => ?_, ?_⟩⟩
  · exact congrArg Host.Outcome.next (State.request_refused (body := .arrive ⟨ref, n, w⟩) hfree rfl (by simp)
      (.inr ht) (State.announce_refused (s := s.serving .gate tag 0x20) hu h))
  · exact congrArg Host.Outcome.next (State.request_refused (body := .release ref n) hfree rfl (by simp) (.inl rfl)
      (State.release_refused (s := s.serving .gate tag 0x22) hu h))
  · rintro i d hd rfl hr h1 h2 ho hp hdr hc hi hq hf hl h
    have computed := State.release_computed (s := s.serving .gate tag 0x22) (p := .gate) (tag := tag)
      ⟨hd, fun j e he her => hu j i e d he hd her⟩ hr ⟨h1, h2⟩ ho hp hdr hc
    have empty := State.computeHolds_empty (s := s.serving .gate tag 0x22) hi hq hf hl
    have turned := State.acceptRelease_refused (s := s.serving .gate tag 0x22) (p := .gate) (tag := tag) (i := i)
      (d := d.withReadouts) (h.append [(s.log.freeSpace < 65, .refused .logFull)])
    rw [if_neg (not_not.2 empty), State.computeHolds_eq, turned] at computed
    refine congrArg Host.Outcome.next ((State.request_owner_deferrable (body := .release d.ref n) hfree rfl (by simp)
      rfl).trans ?_)
    rw [State.owner, computed]
    rfl

end Sys2Proof.Machine
namespace Sys2Proof.Machine

/-! ### The links of the bays and the line (R60, R66, R68, R70, R78) -/

/-- What the law of links reads of a bay record. -/
def BayRecord.line (r : BayRecord) : Link × Nat × Nat × Nat := (r.link, r.missed, r.checkErrors, r.missedTotal)

/-- A bay's link state suits its missed count and its presence, and its counts have not passed 65,535. -/
structure BayRecord.OnLine (polled : Bool) (r : BayRecord) : Prop where
  link : r.linkLawful
  present : polled = false → r.link = .silent
  errors : r.checkErrors ≤ 65535
  total : r.missedTotal ≤ 65535

theorem BayRecord.OnLine.congr {p : Bool} {r q : BayRecord} (h : r.OnLine p) (hl : q.line = r.line) : q.OnLine p := by
  simp only [BayRecord.line, Prod.mk.injEq] at hl
  obtain ⟨hlink, hmissed, herr, htot⟩ := hl
  refine ⟨?_, fun hp => hlink ▸ h.present hp, herr ▸ h.errors, htot ▸ h.total⟩
  unfold BayRecord.linkLawful
  rw [hlink, hmissed]
  exact h.link

/-- A bay that is SILENT with three misses suits any presence. -/
theorem BayRecord.OnLine.silent {p : Bool} {r : BayRecord} (hl : r.link = .silent) (hm : r.missed = 3)
    (he : r.checkErrors ≤ 65535) (ht : r.missedTotal ≤ 65535) : r.OnLine p :=
  ⟨by unfold BayRecord.linkLawful; rw [hl]; exact hm, fun _ => hl, he, ht⟩

theorem countUp_le (n : Nat) : countUp n ≤ 65535 := min_le_left ..

theorem BayRecord.OnLine.countMiss {p : Bool} {r : BayRecord} (h : r.OnLine p) (x : Bool) : (r.countMiss x).OnLine p where
  link := h.link
  present := h.present
  errors := by
    unfold BayRecord.countMiss
    dsimp only
    split
    · exact countUp_le _
    · exact h.errors
  total := countUp_le _

/-- A state with the settings of `r`, the visit, round and exchange of its line, and the links and counts of its
bays. -/
structure LineKept (r s : State) : Prop where
  settings : s.settings = r.settings
  visit : s.rack.visit = r.rack.visit
  round : s.rack.roundLeft = r.rack.roundLeft
  exchange : s.rack.exchange = r.rack.exchange
  bay : ∀ b, (s.bay b).line = (r.bay b).line

namespace LineKept

variable {r s t : State}

theorem refl (s : State) : LineKept s s := ⟨rfl, rfl, rfl, rfl, fun _ => rfl⟩

theorem frame (m : LineKept r s) (hs : t.settings = s.settings) (hr : t.rack = s.rack) (hb : t.bays = s.bays) :
    LineKept r t where
  settings := hs.trans m.settings
  visit := hr ▸ m.visit
  round := hr ▸ m.round
  exchange := hr ▸ m.exchange
  bay b := (by rw [State.bay, hb]; rfl : (t.bay b).line = (s.bay b).line).trans (m.bay b)

/-- A bay's record changed in nothing that the law of links reads. -/
theorem setBay {b : BayNo} {q : BayRecord} (m : LineKept r s) (h : q.line = (s.bay b).line) :
    LineKept r (s.setBay b q) where
  settings := m.settings
  visit := m.visit
  round := m.round
  exchange := m.exchange
  bay c := by
    rw [State.bay_setBay]
    split
    · rename_i hc
      exact hc ▸ h.trans (m.bay b)
    · exact m.bay c

theorem setSlot {i : SlotNo} {d : Option Delivery} (m : LineKept r s) : LineKept r (s.setSlot i d) := m.frame rfl rfl rfl

theorem setArm {b : BayNo} {a : Arm} {y : ArmRecord} (m : LineKept r s) : LineKept r (s.setArm b a y) :=
  m.setBay (by simp [BayRecord.line])

theorem updComp {i : SlotNo} {k : Nat} {f : Compartment → Compartment} (m : LineKept r s) : LineKept r (s.updComp i k f) := by
  rw [State.updComp_frame]
  exact m.frame rfl rfl rfl

theorem updOrphan {b : BayNo} {a : Arm} {f : Orphan → Orphan} (m : LineKept r s) : LineKept r (s.updOrphan b a f) := by
  rw [State.updOrphan_eq]
  exact m.setArm

theorem freeArm {y : Option ArmRef} (m : LineKept r s) : LineKept r (s.freeArm y) := by
  cases y with
  | none => exact m
  | some y => exact m.setArm

theorem foldl {α : Type} {f : State → α → State} (hf : ∀ s y, LineKept r s → LineKept r (f s y)) {ys : List α}
    (m : LineKept r s) : LineKept r (ys.foldl f s) := by
  induction ys generalizing s with
  | nil => exact m
  | cons y ys ih => exact ih (hf s y m)

theorem ite {p : Prop} [Decidable p] (m : LineKept r s) (h : p → LineKept r t) : LineKept r (if p then t else s) := by
  split
  · exact h ‹_›
  · exact m

theorem admitEntry {ref driver : Nat} {y : Payload} (m : LineKept r s) : LineKept r (s.admitEntry ref driver y) :=
  m.frame rfl rfl rfl

theorem offer {ref driver : Nat} {y : Payload} (m : LineKept r s) : LineKept r (s.offer ref driver y) := by
  rw [State.offer_frame]
  exact m.frame rfl rfl rfl

theorem setPort {p : Port} {y : PortState} (m : LineKept r s) : LineKept r (s.setPort p y) := by
  cases p <;> exact m.frame rfl rfl rfl

theorem enqueue {b : BayNo} {rule : List Message → List Message} (m : LineKept r s) : LineKept r (s.enqueue b rule) := by
  rw [State.enqueue_eq]
  exact m.setBay rfl

theorem sendAllStop (m : LineKept r s) : LineKept r s.sendAllStop := by
  unfold State.sendAllStop
  split <;> exact ⟨m.settings, m.visit, m.round, m.exchange, m.bay⟩

theorem stopIf {y : Bool} {b : BayNo} {a : Arm} (m : LineKept r s) : LineKept r (s.stopIf y b a) := m.ite fun _ => m.enqueue

/-! #### Papers, sessions and reports -/

theorem issuePaper {i : SlotNo} {d : Delivery} {n v : Nat} (m : LineKept r s) : LineKept r (s.issuePaper i d n v) :=
  m.setSlot.offer

theorem rebuild {i : SlotNo} (m : LineKept r s) : LineKept r (s.rebuild i) := by
  unfold State.rebuild
  iterate 2 (split; · exact m)
  exact m.issuePaper

theorem endSession {i : SlotNo} (m : LineKept r s) : LineKept r (s.endSession i) := by
  unfold State.endSession
  split
  · exact m
  · rename_i d _
    have ended : LineKept r ((s.setSlot i (some d.afterSession)).unbindBay d.bay) := by
      unfold State.unbindBay
      split
      · exact m.setSlot
      · exact m.setSlot.setBay rfl
    refine ended.ite fun _ => ?_
    unfold State.firstIssue
    split
    · exact ended
    · exact issuePaper (ended.frame rfl rfl rfl)

theorem reachDone {i : SlotNo} {k : Nat} (m : LineKept r s) : LineKept r (s.reachDone i k) := by
  unfold State.reachDone
  iterate 2 (split; · exact m)
  rename_i c _
  have freed : LineKept r ((s.updComp i k fun _ => c.ended).freeArm c.arm) := m.updComp.freeArm
  dsimp only
  split
  · refine .rebuild ?_
    split
    · exact freed
    · exact freed.offer
  · split
    · exact freed
    · exact freed.offer

theorem clearOrphan {b : BayNo} {a : Arm} (m : LineKept r s) : LineKept r (s.clearOrphan b a) := by
  unfold State.clearOrphan
  split
  · exact m.offer.setArm
  · exact m

theorem moveComp {b : BayNo} {a : Arm} {i : SlotNo} {k : Nat} {y : Move} (m : LineKept r s) :
    LineKept r (s.moveComp b a i k y) := by
  cases y with
  | keep => exact m
  | flow | await | settle => exact m.updComp
  | reopen => exact m.updComp.enqueue
  | finish => exact m.reachDone

theorem moveOrphan {b : BayNo} {a : Arm} {y : Move} (m : LineKept r s) : LineKept r (s.moveOrphan b a y) := by
  cases y with
  | keep | flow => exact m
  | await | settle => exact m.updOrphan
  | reopen => exact m.updOrphan.enqueue
  | finish => exact m.clearOrphan

theorem report {b : BayNo} {y : Report} (m : LineKept r s) : LineKept r (s.report b y) := by
  unfold State.report
  split
  · exact m.ite fun _ => m.offer.enqueue
  · unfold State.reportComp
    split
    · exact m
    · exact m.ite fun _ => m.updComp.stopIf.moveComp
  · exact m.updOrphan.stopIf.moveOrphan

/-! #### Interruption, the latch, and loading deadlines -/

theorem interruptArm {b : BayNo} {a : Arm} (m : LineKept r s) : LineKept r (s.interruptArm b a) := by
  unfold State.interruptArm
  split
  · exact m
  · exact m.updComp
  · exact m.updOrphan

theorem latchArm {c : Compartment} (m : LineKept r s) : LineKept r (s.latchArm c) := by
  unfold State.latchArm
  split
  · exact m
  · exact (m.ite fun _ => m.setArm).enqueue

theorem latchEvent (m : LineKept r s) : LineKept r s.latchEvent :=
  .foldl (fun _ _ m => m.latchArm) ⟨m.settings, m.visit, m.round, m.exchange, m.bay⟩

theorem addCause {c : Cause} (m : LineKept r s) : LineKept r (s.addCause c) := by
  have latched : LineKept r { s with latch := s.latch.add c } := m.frame rfl rfl rfl
  unfold State.addCause
  split
  · exact m
  · exact latched.latchEvent.offer.ite fun _ => latched.offer

theorem permitExpired {i : SlotNo} {k : Nat} (m : LineKept r s) : LineKept r (s.permitExpired i k) := by
  unfold State.permitExpired
  split
  · exact m
  · dsimp only
    split
    · exact m.updComp.freeArm
    · exact m.updComp.freeArm.enqueue

theorem flowingExpired {i : SlotNo} {k : Nat} (m : LineKept r s) : LineKept r (s.flowingExpired i k) := by
  unfold State.flowingExpired
  split
  · exact m
  · dsimp only
    split
    · exact m.updComp
    · exact m.updComp.enqueue

theorem settleExpired {y : DeadlineOf} (m : LineKept r s) : LineKept r (s.settleExpired y) := by
  cases y with
  | compartment i k => exact m.reachDone
  | orphan b a => exact m.clearOrphan

theorem stopExpired {y : DeadlineOf} (m : LineKept r s) : LineKept r (s.stopExpired y) := by
  cases y with
  | compartment i k => exact m.updComp.reachDone.addCause
  | orphan b a => exact m.updOrphan.clearOrphan.addCause

theorem expire {y : Option Deadline} {k : DeadlineKind} {f : State → State} (m : LineKept r s)
    (hf : ∀ t, LineKept r t → LineKept r (f t)) : LineKept r (s.expire y k f) := by
  unfold State.expire
  split
  · exact m
  · exact m.ite fun _ => hf _ (m.frame rfl rfl rfl)

theorem assertInput (m : LineKept r s) : LineKept r s.assertInput := by
  have asserted : LineKept r { s with shutdownInput := true } := m.frame rfl rfl rfl
  exact asserted.ite fun _ => asserted.addCause

/-! #### Bay requests -/

theorem takeClaim {b : BayNo} {ref : Nat} (m : LineKept r s) : LineKept r (s.takeClaim b ref) := by
  unfold State.takeClaim
  iterate 5 (split; · exact m.enqueue)
  exact .enqueue (.offer (.setBay m.setSlot rfl))

theorem takeStart {b : BayNo} {a : Arm} {k p : Nat} (m : LineKept r s) : LineKept r (s.takeStart b a k p) := by
  unfold State.takeStart
  iterate 4 (split; · exact m.enqueue)
  split
  · exact enqueue (m.ite fun _ => m.offer)
  · exact m.updComp.setArm.enqueue.enqueue

theorem takeFinish {b : BayNo} (m : LineKept r s) : LineKept r (s.takeFinish b) := by
  unfold State.takeFinish
  iterate 4 (split; · exact m.enqueue)
  exact m.endSession.enqueue

theorem faultArm {b : BayNo} {a : Arm} (m : LineKept r s) : LineKept r (s.faultArm b a) := by
  unfold State.faultArm
  split
  · exact m
  · split
    · exact m
    · dsimp only
      split
      · exact m.updComp.updComp.enqueue
      · exact m.updComp.updComp.enqueue
      · exact m.updComp.enqueue
      · exact m.updComp
      all_goals exact m
  · dsimp only
    split
    · exact m.updOrphan.enqueue
    · exact m.updOrphan

theorem grantFault {b : BayNo} {code : Nat} (m : LineKept r s) : LineKept r (s.grantFault b code) :=
  m.faultArm.faultArm.offer.enqueue

theorem takeFault {b : BayNo} {code : Nat} (m : LineKept r s) : LineKept r (s.takeFault b code) := by
  unfold State.takeFault
  iterate 2 (split; · exact m.grantFault)
  exact m.grantFault.ite fun _ => m.enqueue

/-! #### Answers taken -/

theorem removeSent {b : BayNo} {y : Option Message} (m : LineKept r s) : LineKept r (s.removeSent b y) := by
  rw [State.removeSent_eq]
  exact m.setBay rfl

theorem takeAnswer {b : BayNo} {a : Answer} (m : LineKept r s) : LineKept r (s.takeAnswer b a) := by
  cases a with
  | status ys => exact m.foldl fun _ _ m => m.report
  | claim ref => exact m.ite fun _ => m.takeClaim
  | start a k p => exact m.ite fun _ => m.takeStart
  | finish => exact m.ite fun _ => m.takeFinish
  | fault code => exact m.ite fun _ => m.takeFault

/-! #### The requests of the office and the gate -/

theorem acceptDeferred {p : Port} {tag code ref driver : Nat} {y : Payload} (m : LineKept r s) :
    LineKept r (s.acceptDeferred p tag code ref driver y).1 := setPort m.admitEntry

theorem book {b : BookBody} (m : LineKept r s) : LineKept r (s.book b).1 := by
  unfold State.book
  iterate 3 (split; · exact m)
  split
  · exact m
  · exact m
  · split
    · exact m
    · exact m.admitEntry.setSlot

theorem amend {b : AmendBody} (m : LineKept r s) : LineKept r (s.amend b).1 := by
  unfold State.amend
  iterate 6 (split; · exact m)
  exact m.admitEntry.setSlot

theorem dismissBay {i : SlotNo} {b : Option BayNo} (m : LineKept r s) : LineKept r (s.dismissBay i b) := by
  cases b with
  | none => exact m
  | some b =>
    have unbound : LineKept r (s.setBay b { s.bay b with bound := none, withdrawn := some i }) := m.setBay rfl
    unfold State.dismissBay State.queueDismiss
    exact unbound.enqueue

theorem cancel {p : Port} {tag ref : Nat} (m : LineKept r s) : LineKept r (s.cancel p tag ref).1 := by
  unfold State.cancel
  iterate 4 (split; · exact m)
  exact m.acceptDeferred.setSlot.dismissBay

theorem detach {ref : Nat} (m : LineKept r s) : LineKept r (s.detach ref).1 := by
  unfold State.detach
  iterate 4 (split; · exact m)
  exact m.admitEntry.endSession

theorem override {p : Port} {tag ref set supervisor : Nat} (m : LineKept r s) :
    LineKept r (s.override p tag ref set supervisor).1 := by
  unfold State.override
  iterate 6 (split; · exact m)
  exact m.acceptDeferred

theorem deliveryRead {ref : Nat} (m : LineKept r s) : LineKept r (s.deliveryRead ref).1 := by
  unfold State.deliveryRead
  split
  · exact m
  · exact m.setSlot

theorem driverRegister {n day : Nat} (m : LineKept r s) : LineKept r (s.driverRegister n day).1 := by
  unfold State.driverRegister
  split
  · exact m
  · split
    all_goals
      split
      · exact m
      · exact m.frame rfl rfl rfl

theorem driverRemove {n : Nat} (m : LineKept r s) : LineKept r (s.driverRemove n).1 := by
  unfold State.driverRemove
  iterate 4 (split; · exact m)
  exact m.frame rfl rfl rfl

theorem setProduct {k : Nat} {e : Product} (m : LineKept r s) : LineKept r (s.setProduct k e) := by
  rw [State.setProduct_frame]
  exact m.frame rfl rfl rfl

theorem productDefine {b : ProductBody} (m : LineKept r s) : LineKept r (s.productDefine b).1 := by
  unfold State.productDefine
  iterate 3 (split; · exact m)
  exact m.setProduct

theorem productState {code target : Nat} (m : LineKept r s) : LineKept r (s.productState code target).1 := by
  unfold State.productState
  iterate 3 (split; · exact m)
  exact m.setProduct

theorem moveTime {n : Nat} (m : LineKept r s) : LineKept r (s.moveTime n) := by
  refine .foldl (fun s i m => ?_) (m.frame rfl rfl rfl)
  unfold State.expireSlot
  split
  · exact m
  · exact m.ite fun _ => m.admitEntry.setSlot

theorem timeSet {n : Nat} (m : LineKept r s) : LineKept r (s.timeSet n).1 := by
  unfold State.timeSet
  iterate 3 (split; · exact m)
  exact m.admitEntry.moveTime.ite fun _ => m.admitEntry

theorem advanceTime (m : LineKept r s) : LineKept r s.advanceTime := by
  unfold State.advanceTime
  split
  · exact m
  · exact m.ite fun _ => .ite (m.frame rfl rfl rfl) fun _ => m.moveTime

theorem shutdownClear (m : LineKept r s) : LineKept r s.shutdownClear.1 := by
  unfold State.shutdownClear
  split
  · exact m
  · split
    · exact .offer ⟨m.settings, m.visit, m.round, m.exchange, m.bay⟩
    · exact m

theorem reclaim {p : Port} {tag n : Nat} (m : LineKept r s) : LineKept r (s.reclaim p tag n).1 := by
  unfold State.reclaim
  split
  · iterate 2 (split; · exact m)
    exact .setPort (m.frame rfl rfl rfl)
  · exact m

theorem bayRead {n : Nat} (m : LineKept r s) : LineKept r (s.bayRead n).1 := by
  unfold State.bayRead
  split
  · exact m.updOrphan.updOrphan
  · split <;> exact m

theorem restart {n : Nat} (m : LineKept r s) : LineKept r (s.restart n).1 := by
  unfold State.restart
  split
  · exact m
  · exact m
  · split <;> exact m

theorem announce {b : ArriveBody} (m : LineKept r s) : LineKept r (s.announce b).1 := by
  have declared : ∀ {ref n : Nat} {z : Driver} {y : Option Declaration} {t : State}, LineKept r t →
      LineKept r (t.offerDeclaration ref z n y) := fun {_ _ _ y _} m => by
    cases y with
    | none => exact m
    | some y => exact m.offer
  unfold State.announce
  iterate 6 (split; · exact m)
  split
  · exact m
  · exact m
  · exact setSlot ((declared m.admitEntry).frame rfl rfl rfl)

theorem makeOrphans {d : Delivery} {cs : List Compartment} (m : LineKept r s) :
    LineKept r (cs.foldl (State.makeOrphan d) s) := by
  refine m.foldl fun s c m => ?_
  unfold State.makeOrphan
  split
  · split
    · exact m
    · exact m.setArm
  · exact m

theorem release {p : Port} {tag ref driver : Nat} (m : LineKept r s) : LineKept r (s.release p tag ref driver).1 := by
  unfold State.release
  iterate 6 (split; · exact m)
  dsimp only
  split
  · exact m.setSlot.offer.ite fun _ => m.setSlot
  · unfold State.acceptRelease
    dsimp only
    split
    · exact m.setSlot
    · exact m.setSlot.acceptDeferred.setSlot.makeOrphans

/-! #### The log store and starts -/

theorem commit {d : Delivery} (m : LineKept r s) : LineKept r (s.commit d) := by
  rw [State.commit_frame]
  exact m.frame rfl rfl rfl

theorem takeLeave {i : SlotNo} (m : LineKept r s) : LineKept r (s.takeLeave i) :=
  ⟨m.settings, m.visit, m.round, m.exchange, fun b => by rw [State.bay_takeLeave]; exact m.bay b⟩

theorem replyAwaited {n : Nat} {b : FrameBody} (m : LineKept r s) : LineKept r (s.replyAwaited n b) := m.frame rfl rfl rfl

theorem replyPage {p : PageNo} {y : PageOutcome} (m : LineKept r s) : LineKept r (s.replyPage p y) := m.frame rfl rfl rfl

theorem complete {e : Entry} (m : LineKept r s) : LineKept r (s.complete e) := by
  unfold State.complete
  split
  · exact m
  · unfold State.completeFor
    split
    · exact m.ite fun _ => m.commit.replyAwaited.setSlot
    · exact m.ite fun _ => .setSlot (.replyAwaited (.takeLeave (m.frame rfl rfl rfl)))
    · exact m.ite fun _ => m.setSlot
    · exact m.setSlot.replyAwaited
    · exact m

theorem writeDone (m : LineKept r s) : LineKept r s.writeDone := by
  unfold State.writeDone
  split
  · exact m
  · rename_i e rest _
    have done : LineKept r ({ s with log := s.log.written e rest }.complete e) := .complete (m.frame rfl rfl rfl)
    exact done.frame rfl rfl rfl

theorem takePages {ps : List PageNo} (m : LineKept r s) : LineKept r (State.takePages ps s) := by
  induction ps generalizing s with
  | nil => exact m.frame rfl rfl rfl
  | cons p ps ih =>
    unfold State.takePages
    split
    · exact ih (m.frame rfl rfl rfl)
    · exact m.frame rfl rfl rfl

theorem beginWrite (m : LineKept r s) : LineKept r s.beginWrite := m.frame rfl rfl rfl

theorem eraseDone (m : LineKept r s) : LineKept r s.eraseDone := by
  unfold State.eraseDone
  split
  · exact m
  · exact .beginWrite (.takePages (m.frame rfl rfl rfl))

theorem eraseFailed (m : LineKept r s) : LineKept r s.eraseFailed := by
  unfold State.eraseFailed
  split
  · exact m
  · exact .beginWrite (.takePages (.replyPage (.offer (m.frame rfl rfl rfl))))

theorem enterStep2 (m : LineKept r s) : LineKept r s.enterStep2 := by
  rw [State.enterStep2_frame]
  exact m.frame rfl rfl rfl

theorem enterStep1 (m : LineKept r s) : LineKept r s.enterStep1 := by
  rw [State.enterStep1_frame]
  exact m.frame rfl rfl rfl

theorem startErase {v : Bool} (m : LineKept r s) : LineKept r (s.startErase v) := by
  unfold State.startErase
  split
  · exact m
  · refine .enterStep2 ?_
    split <;> exact m.frame rfl rfl rfl

theorem deassertReset (m : LineKept r s) : LineKept r s.deassertReset := by
  have free : LineKept r { s with resetInput := false } := m.frame rfl rfl rfl
  exact free.ite fun _ => free.enterStep2

theorem dropWritten {es : List Entry} (m : LineKept r s) : LineKept r (State.dropWritten es s) := by
  induction es generalizing s with
  | nil => exact m
  | cons e es ih =>
    unfold State.dropWritten
    exact m.ite fun _ => ih (.complete (m.frame rfl rfl rfl))

theorem dropBack (m : LineKept r s) : LineKept r s.dropBack := by
  unfold State.dropBack
  split
  · exact m
  · refine m.ite fun _ => ?_
    have dropped : LineKept r { s with log := { s.log with queue := s.log.queue.dropLast }.lose } := m.frame rfl rfl rfl
    unfold State.withdrawExpiry
    split
    · exact dropped.ite fun _ => dropped.setSlot
    · exact dropped

theorem scanStep {found : CutWrite} : LineKept s (s.scanStep found) := by
  have scanned : LineKept s { s with log := s.log.scan found } := (LineKept.refl s).frame rfl rfl rfl
  exact scanned.dropWritten.dropBack.frame rfl rfl rfl

theorem decideStatus (m : LineKept r s) : LineKept r s.decideStatus := m.frame rfl rfl rfl

theorem logStart {n k : Nat} (m : LineKept r s) : LineKept r (s.logStart n k) :=
  .offer (m.frame rfl rfl rfl)

end LineKept

/-! ### The law of links through every step -/

namespace LinkLaw

variable {s t : State}

theorem bay (h : LinkLaw s) (b : BayNo) : (s.bay b).OnLine (s.polled b) := by
  obtain ⟨hlink, hpresent, herr, htot⟩ := h.1 b
  exact ⟨hlink, hpresent, herr, htot⟩

theorem of_bays (hb : ∀ b, (s.bay b).OnLine (s.polled b))
    (hv : ∀ v, s.rack.visit = some v → v.exchanges ≤ 2 ∧ (v.dropped = false → s.polled v.bay = true))
    (hr : ∀ b ∈ s.rack.roundLeft, s.polled b = true) (he : s.rack.exchange.isSome → s.rack.visit.isSome) : LinkLaw s :=
  ⟨fun b => ⟨(hb b).link, (hb b).present, (hb b).errors, (hb b).total⟩, hv, hr, he⟩

/-- The settings, the line and the lines of the bays are all that the law reads. -/
theorem keep (h : LinkLaw s) (k : LineKept s s → LineKept s t) : LinkLaw t := by
  obtain ⟨hset, hvisit, hround, hexchange, hbay⟩ := k (.refl s)
  have polled : ∀ b, t.polled b = s.polled b := fun b => by rw [State.polled, hset]; rfl
  have ⟨_, hv, hr, he⟩ := h
  refine .of_bays (fun b => polled b ▸ (h.bay b).congr (hbay b)) ?_ ?_ ?_
  · simpa only [hvisit, polled] using hv
  · simpa only [hround, polled] using hr
  · rwa [hexchange, hvisit]

theorem ite {p : Prop} [Decidable p] (h : LinkLaw s) (k : p → LinkLaw t) : LinkLaw (if p then t else s) := by
  split
  · exact k ‹_›
  · exact h

/-- A bay's record written that suits its presence. -/
theorem setBay {b : BayNo} {q : BayRecord} (h : LinkLaw s) (hq : q.OnLine (s.polled b)) : LinkLaw (s.setBay b q) := by
  have ⟨_, hv, hr, he⟩ := h
  refine .of_bays (fun c => ?_) hv hr he
  rw [State.bay_setBay]
  split
  · rename_i hc
    exact hc ▸ hq
  · exact h.bay c

/-- A line written whose visit, round and exchange suit the polled set. -/
theorem setRack {r : Rack} (h : LinkLaw s)
    (hv : ∀ v, r.visit = some v → v.exchanges ≤ 2 ∧ (v.dropped = false → s.polled v.bay = true))
    (hr : ∀ b ∈ r.roundLeft, s.polled b = true) (he : r.exchange.isSome → r.visit.isSome) :
    LinkLaw { s with rack := r } := ⟨h.1, hv, hr, he⟩

/-! #### Rounds, visits and exchanges (R66 to R68) -/

/-- A new round holds the POLLED bays. -/
theorem settleRound (h : LinkLaw s) : LinkLaw s.settleRound :=
  h.ite fun _ => h.setRack h.2.1 (fun _ hb => (List.mem_filter.1 hb).2) h.2.2.2

theorem endVisit (h : LinkLaw s) : LinkLaw s.endVisit :=
  settleRound (h.setRack (r := { s.rack with visit := none, exchange := none }) nofun h.2.2.1 nofun)

theorem beginExchange (h : LinkLaw s) : LinkLaw s.beginExchange := by
  have ⟨_, visit, round, _⟩ := h
  unfold State.beginExchange
  split
  · exact h
  · rename_i v left hn
    unfold Rack.nextVisit at hn
    split at hn
    · rename_i w hw
      obtain ⟨rfl, rfl⟩ := Prod.mk.inj (Option.some.inj hn)
      exact h.setRack (fun _ hv => Option.some.inj hv ▸ visit w hw) round fun _ => rfl
    · split at hn
      · cases hn
      · rename_i b rest hr
        obtain ⟨rfl, rfl⟩ := Prod.mk.inj (Option.some.inj hn)
        obtain ⟨hb, hrest⟩ := List.forall_mem_cons.1 (hr ▸ round)
        exact h.setRack (fun _ hv => Option.some.inj hv ▸ ⟨Nat.zero_le _, fun _ => hb⟩) hrest fun _ => rfl

/-- A visit goes on only while fewer than three of its exchanges have ended. -/
theorem afterExchange {v : Visit} (h : LinkLaw s) (hv : v.dropped = false → s.polled v.bay = true) :
    LinkLaw (s.afterExchange v) := by
  unfold State.afterExchange
  split
  · exact h.endVisit
  · rename_i hn
    obtain ⟨-, hn⟩ : (s.bay v.bay).outbox ≠ [] ∧ v.exchanges ≤ 1 := by simpa using hn
    refine h.setRack (fun w hw => ?_) h.2.2.1 nofun
    obtain rfl := Option.some.inj hw
    exact ⟨Nat.succ_le_succ hn, hv⟩

/-! #### Misses, answers and returns (R69 to R74) -/

theorem silence {b : BayNo} (h : LinkLaw s) : LinkLaw (s.silence b) := by
  have silent : LinkLaw (s.setBay b { s.bay b with link := .silent, missed := 3, outbox := [] }) :=
    h.setBay (.silent rfl rfl (h.bay b).errors (h.bay b).total)
  exact silent.keep fun m => m.interruptArm.interruptArm.offer

/-- A miss moves a bay that is not SILENT, and so POLLED, from one link state to the next (R70). -/
theorem miss {b : BayNo} {y : Bool} (h : LinkLaw s) : LinkLaw (s.miss b y) := by
  have counted := (h.bay b).countMiss y
  have present : ∀ {q : BayRecord}, (s.bay b).link ≠ .silent → s.polled b = false → q.link = .silent :=
    fun hl hp => absurd ((h.bay b).present hp) hl
  unfold State.miss
  dsimp only
  split
  · rename_i hl
    exact h.setBay ⟨.inl rfl, present (by rw [show (s.bay b).link = .online from hl]; decide), counted.errors,
      counted.total⟩
  · rename_i hl
    split
    · refine h.setBay ⟨?_, present (by rw [show (s.bay b).link = .suspect from hl]; decide), counted.errors,
        counted.total⟩
      unfold BayRecord.linkLawful
      dsimp only
      rw [hl]
      exact .inr rfl
    · exact (h.setBay counted).silence
  · exact h.setBay (.silent ‹_› rfl counted.errors counted.total)

/-- A POLLED bay is ONLINE after a valid answer (R70, R72); the settings are as before. -/
theorem answered {b : BayNo} (h : LinkLaw s) (hp : s.polled b = true) :
    LinkLaw (s.answered b) ∧ (s.answered b).settings = s.settings := by
  have online : LinkLaw (s.setOnline b) :=
    h.setBay ⟨rfl, fun hn => by simp [hp] at hn, (h.bay b).errors, (h.bay b).total⟩
  unfold State.answered
  split
  · have stops : LineKept (s.setOnline b) (s.returnStops b) := (LineKept.refl _).offer.stopIf.stopIf
    have back : LineKept (s.setOnline b) (s.bayReturn b) := by
      rw [State.bayReturn_eq]
      exact stops.ite fun _ => stops.enqueue
    exact ⟨online.keep fun _ => back, back.settings⟩
  · exact ⟨online, rfl⟩

theorem endByAnswer {v : Visit} {e : Exchange} {words : List RxWord} (h : LinkLaw s) (hv : s.rack.visit = some v) :
    LinkLaw (s.endByAnswer v e words) := by
  obtain ⟨-, polled⟩ := h.2.1 v hv
  unfold State.endByAnswer
  split
  · exact h.endVisit
  · rename_i hd
    split
    · exact h.miss.endVisit
    · rename_i a _
      obtain ⟨law, settings⟩ := h.answered (polled (by simpa using hd))
      have taken : LineKept (s.answered v.bay) (s.validAnswer v.bay e.sent a) := (LineKept.refl _).removeSent.takeAnswer
      refine afterExchange (law.keep fun _ => taken) fun hn => ?_
      rw [State.polled, taken.settings, settings]
      exact polled hn

theorem endByWindow {v : Visit} (h : LinkLaw s) : LinkLaw (s.endByWindow v) := h.miss.endVisit.ite fun _ => h.endVisit

/-! #### The polled set, and starts -/

/-- A bay that leaves the polled set falls SILENT, leaves the round, and is visited no longer than its exchange lasts
(R66, R78). -/
theorem writeSettings {y : Settings} (h : LinkLaw s) : LinkLaw (s.writeSettings y) := by
  have ⟨_, visit, _, exchange⟩ := h
  refine .settleRound (.of_bays (fun b => ?_) (fun v hv => ?_) (fun b hb => (List.mem_filter.1 hb).2) fun he => ?_)
  · change BayRecord.OnLine (y.polled.get b) ((Vector.ofFn _).get b)
    rw [get_ofFn]
    split
    · exact .silent rfl rfl (h.bay b).errors (h.bay b).total
    · rename_i hb
      refine ⟨(h.bay b).link, fun hn => (h.bay b).present ?_, (h.bay b).errors, (h.bay b).total⟩
      simpa [hn] using hb
  · dsimp only [Rack.dropVisit] at hv
    split at hv
    · cases hv
    · rename_i w hw
      obtain ⟨hn, -⟩ := visit w hw
      split at hv
      · obtain rfl := Option.some.inj hv
        exact ⟨hn, fun _ => ‹_›⟩
      · split at hv
        · obtain rfl := Option.some.inj hv
          exact ⟨hn, nofun⟩
        · cases hv
  · obtain ⟨w, hw⟩ := Option.isSome_iff_exists.1 (exchange he)
    simp only [Rack.dropVisit, hw]
    split <;> rfl

/-- After a start every bay is SILENT and the line is quiet (R60, R79). -/
theorem started (hb : ∀ b, (s.bay b).line = (.silent, 3, 0, 0)) (hr : s.rack = Rack.quiet) : LinkLaw s := by
  refine .of_bays (fun b => ?_) (by rw [hr]; nofun) (by rw [hr]; nofun) (by rw [hr]; nofun)
  have line := hb b
  simp only [BayRecord.line, Prod.mk.injEq] at line
  obtain ⟨hl, hm, he, ht⟩ := line
  exact .silent hl hm (by omega) (by omega)

theorem begin (s : State) (kind : StartKind) : LinkLaw (s.begin kind) := by
  cases kind with
  | warm =>
    have warm : LinkLaw s.warmState := started (fun b => by
      rw [show s.warmState.bay b = (s.bay b).restarted from get_mapTable ..]; rfl) rfl
    exact warm.keep fun m => m.enterStep1
  | cold =>
    have cold : LinkLaw s.coldState := started (fun b => by
      rw [show s.coldState.bay b = BayRecord.cold from get_replicate ..]; rfl) rfl
    exact cold.keep fun m => m.enterStep1

theorem scanEnd {found : CutWrite} (h : LinkLaw s) : LinkLaw (s.scanEnd found) := by
  have decided : LineKept s (s.scanStep found).decideStatus := LineKept.scanStep.decideStatus
  have running : ∀ n k, LinkLaw { (s.scanStep found).decideStatus.logStart n k with phase := .running } := fun _ _ =>
    h.keep fun _ => decided.logStart.frame rfl rfl rfl
  have writing : ∀ {t : State}, LinkLaw t → LinkLaw t.beginWrite := fun h => h.keep fun m => m.frame rfl rfl rfl
  exact settleRound (writing (running _ _))

/-! #### Requests through the ports -/

theorem settingsWrite {b : SettingsBody} (h : LinkLaw s) : LinkLaw (s.settingsWrite b).1 := by
  unfold State.settingsWrite
  split
  · exact h
  · exact h.writeSettings

theorem owner {p : Port} {tag : Nat} {b : ReqBody} (h : LinkLaw s) : LinkLaw (s.owner p tag b).1 := by
  cases b with
  | settingsWrite b => exact h.settingsWrite
  | book b => exact h.keep fun m => m.book
  | amend b => exact h.keep fun m => m.amend
  | cancel ref => exact h.keep fun m => m.cancel
  | detach ref => exact h.keep fun m => m.detach
  | override ref set supervisor => exact h.keep fun m => m.override
  | deliveryRead ref => exact h.keep fun m => m.deliveryRead
  | driverRegister n day => exact h.keep fun m => m.driverRegister
  | driverRemove n => exact h.keep fun m => m.driverRemove
  | productDefine b => exact h.keep fun m => m.productDefine
  | productState code target => exact h.keep fun m => m.productState
  | timeSet n => exact h.keep fun m => m.timeSet
  | shutdownClear => exact h.keep fun m => m.shutdownClear
  | logAck n => exact h.keep fun m => m.frame rfl rfl rfl
  | reclaim n => exact h.keep fun m => m.reclaim
  | bayRead n => exact h.keep fun m => m.bayRead
  | restart kind => exact h.keep fun m => m.restart
  | arrive b => exact h.keep fun m => m.announce
  | release ref driver => exact h.keep fun m => m.release
  | driverRead n =>
    simp only [State.owner, State.driverRead]
    split
    · exact h
    · split <;> exact h
  | productRead code =>
    simp only [State.owner, State.productRead]
    split
    · exact h
    · split <;> exact h
  | logRead n count =>
    simp only [State.owner, State.logRead]
    iterate 3 (split; · exact h)
    split <;> exact h
  | hoursQuery n =>
    simp only [State.owner, State.hoursQuery]
    iterate 2 (split; · exact h)
    split <;> exact h
  | paperRead ref =>
    simp only [State.owner, State.paperRead]
    iterate 3 (split; · exact h)
    split <;> exact h
  | settingsRead | status | unknown | badLength => exact h

theorem setPort {p : Port} {y : PortState} (h : LinkLaw s) : LinkLaw (s.setPort p y) := h.keep fun m => m.setPort

theorem serve {p : Port} {y : Request} (h : LinkLaw s) : LinkLaw (s.serve p y) := by
  have taken : LinkLaw (s.setService p (some (y.tag, y.code))) := h.setPort
  refine setPort ?_
  split
  · exact taken
  · exact taken.owner

theorem serveNext {p : Port} (h : LinkLaw s) : LinkLaw (s.serveNext p) := by
  unfold State.serveNext
  split
  · exact h
  · dsimp only
    split
    · exact h.setPort.serve
    · exact .setPort (.setPort h.setPort)

theorem arrive {p : Port} {y : Request} (h : LinkLaw s) : LinkLaw (s.arrive p y) := by
  unfold State.arrive
  dsimp only
  split
  · exact h.serve
  · exact (h.setPort.ite fun _ => h.setPort).ite fun _ => h.setPort

theorem discard {p : Port} (h : LinkLaw s) : LinkLaw (s.discard p) := .setPort h.setPort

theorem frameComplete {p : Port} {ys : List Byte} (h : LinkLaw s) : LinkLaw (s.frameComplete p ys) := by
  unfold State.frameComplete
  split
  · exact h.discard
  · exact h.setPort.arrive

theorem receiveByte {p : Port} {y : Byte} {stop : Bool} (h : LinkLaw s) : LinkLaw (s.receiveByte p y stop) := by
  unfold State.receiveByte
  split
  · exact (h.discard.ite fun _ => h.setPort).ite fun _ => h
  · refine h.discard.ite fun _ => ?_
    exact (h.frameComplete.ite fun _ => h.setPort).ite fun _ => h.discard

theorem gapExpired {p : Port} (h : LinkLaw s) : LinkLaw (s.gapExpired p) := by
  unfold State.gapExpired
  split
  · exact h
  · exact .discard (h.keep fun m => m.frame rfl rfl rfl)

theorem frameSent {p : Port} (h : LinkLaw s) : LinkLaw (s.frameSent p) := by
  unfold State.frameSent
  split
  · exact h
  · dsimp only
    split
    · exact .begin ..
    · exact h.setPort.ite fun _ => .serveNext (.setPort h.setPort)

theorem assertReset (h : LinkLaw s) : LinkLaw s.assertReset := by
  have asserted : LinkLaw { s with resetInput := true } := h.keep fun m => m.frame rfl rfl rfl
  exact (asserted.ite fun _ => LinkLaw.begin ..).ite fun _ => h

theorem regainPower {y : Bool} (h : LinkLaw s) : LinkLaw (s.regainPower y) :=
  (ite (.begin ..) fun _ => .begin ..).ite fun _ => h

/-- Every command keeps the law. -/
theorem exec (h : LinkLaw s) (c : Instr) : ∃ t, Machine.exec c s = .next t ∧ LinkLaw t := by
  cases c with
  | frameReceived p xs => exact ⟨_, rfl, h.ite fun _ => h.frameComplete⟩
  | portByteGapExpiry p => exact ⟨_, rfl, h.ite fun _ => h.gapExpired⟩
  | frameSent p => exact ⟨_, rfl, h.ite fun _ => h.frameSent⟩
  | portByteReceived p x stop => exact ⟨_, rfl, h.ite fun _ => h.receiveByte⟩
  | exchangeStart => exact ⟨_, rfl, h.ite fun _ => h.beginExchange⟩
  | allStopBroadcast => exact ⟨_, rfl, h.keep fun m => m.ite fun _ => m.sendAllStop⟩
  | answerReceived words =>
    change ∃ t, execAnswerReceived words s = .next t ∧ LinkLaw t
    unfold execAnswerReceived
    split
    · exact ⟨_, rfl, h.ite fun _ => h.endByAnswer ‹_›⟩
    · exact ⟨_, rfl, h⟩
  | answerWindowExpiry =>
    change ∃ t, execAnswerWindowExpiry s = .next t ∧ LinkLaw t
    unfold execAnswerWindowExpiry
    split
    · exact ⟨_, rfl, h.ite fun _ => .endByWindow (h.keep fun m => m.frame rfl rfl rfl)⟩
    · exact ⟨_, rfl, h⟩
  | permitWindowExpiry i k => exact ⟨_, rfl, h.keep fun m => m.expire fun _ m => m.permitExpired⟩
  | flowingLimitExpiry i k => exact ⟨_, rfl, h.keep fun m => m.expire fun _ m => m.flowingExpired⟩
  | settleIntervalExpiry x => exact ⟨_, rfl, h.keep fun m => m.expire fun _ m => m.settleExpired⟩
  | stopDeadlineExpiry x => exact ⟨_, rfl, h.keep fun m => m.expire fun _ m => m.stopExpired⟩
  | shutdownInputAsserted => exact ⟨_, rfl, h.keep fun m => m.assertInput.ite fun _ => m⟩
  | shutdownInputDeasserted => exact ⟨_, rfl, h.keep fun m => m.frame rfl rfl rfl⟩
  | terminalTimeAdvance => exact ⟨_, rfl, h.keep fun m => m.advanceTime⟩
  | writeComplete => exact ⟨_, rfl, h.keep fun m => m.ite fun _ => m.writeDone⟩
  | collectionWindowExpiry => exact ⟨_, rfl, h.keep fun m => m.ite fun _ => .takePages (m.frame rfl rfl rfl)⟩
  | eraseSuspend => exact ⟨_, rfl, h.keep fun m => m.ite fun _ => m.frame rfl rfl rfl⟩
  | eraseComplete => exact ⟨_, rfl, h.keep fun m => m.ite fun _ => m.eraseDone⟩
  | eraseVerifyFailure => exact ⟨_, rfl, h.keep fun m => m.ite fun _ => m.eraseFailed⟩
  | resetAsserted => exact ⟨_, rfl, h.assertReset⟩
  | resetDeasserted => exact ⟨_, rfl, h.keep fun m => m.deassertReset⟩
  | powerLoss cut => exact ⟨_, rfl, h.keep fun m => m.ite fun _ => m.frame rfl rfl rfl⟩
  | powerReturn x => exact ⟨_, rfl, h.regainPower⟩
  | startUpEraseEnd v => exact ⟨_, rfl, h.keep fun m => m.ite fun _ => m.startErase⟩
  | startUpScanEnd slot => exact ⟨_, rfl, h.ite fun _ => h.scanEnd⟩
  | _ => exact ⟨_, rfl, h.ite fun _ => h.arrive⟩

end LinkLaw

/-- Settles O58: nothing but a miss, a valid answer, a start and SETTINGS_WRITE changes what the law reads of a bay,
and each of these leaves link, count and presence suiting each other; a visit begins with a bay of the round and goes
on only below three exchanges. -/
theorem linkStatesStayLawful : Obligations.LinkStatesStayLawful := by
  intro s t h ht
  unfold step at ht
  split at ht
  · obtain rfl := Host.Outcome.next.inj ht
    exact h.keep fun m => m.ite fun _ => m.frame rfl rfl rfl
  · rename_i c rest _
    have taken : LinkLaw { s with pending := rest } := h.keep fun m => m.frame rfl rfl rfl
    obtain ⟨u, hu, law⟩ := taken.exec c
    obtain rfl := Host.Outcome.next.inj (hu.symm.trans ht)
    exact law

end Sys2Proof.Machine
namespace Sys2Proof.Machine

/-! ### Words and answers read back (R56 to R58, R195) -/

/-- The word check register keeps six bits. -/
theorem checkBit_lt : ∀ r < 64, ∀ b, checkBit r b < 64 := by decide

theorem wordCheck_lt (value : Nat) : wordCheck value < 64 := by
  have kept : ∀ (f : Nat → Bool) (l : List Nat), ∀ r < 64, l.foldl (fun r i => checkBit r (f i)) r < 64 := by
    intro f l
    induction l with
    | nil => exact fun _ h => h
    | cons i l ih => exact fun r h => ih _ (checkBit_lt r h _)
  exact kept _ _ 0 (by decide)

theorem goodRx_value {n : Nat} (h : n < 2 ^ 24) : (goodRx n).value.toNat = n := by
  rw [goodRx, BitVec.toNat_ofNat, Nat.mod_eq_of_lt h]

/-- A word sent well is good (R56). -/
theorem goodWord_goodRx {n : Nat} (h : n < 2 ^ 24) : goodWord (goodRx n) = true := by
  have check : (goodRx n).check.toNat = wordCheck n := by
    rw [goodRx, BitVec.toNat_ofNat, Nat.mod_eq_of_lt (wordCheck_lt n)]
  simp only [goodWord, goodRx_value h, check, beq_self_eq_true, Bool.and_true]
  rfl

theorem bits_goodRx {n : Nat} (h : n < 2 ^ 24) (hi lo : Nat) :
    bits (goodRx n) hi lo = n / 2 ^ lo % 2 ^ (hi - lo + 1) := by
  rw [bits, goodRx_value h]

theorem armCode_lt (x : Arm) : armCode x < 2 := by cases x <;> decide

theorem armOf_armCode (x : Arm) : armOf (armCode x) = x := by cases x <;> rfl

section
variable {b : BayNo} {kind count argument : Nat} (hk : kind < 32) (hc : count < 8) (ha : argument < 4096)
include hk hc ha

/-- The fields of a head word: address, kind, count and argument (R57, R195). -/
theorem answerHead_lt : (b.val + 1) * 2 ^ 20 + kind * 2 ^ 15 + count * 2 ^ 12 + argument < 2 ^ 24 := by omega

theorem bits_answerHead (hi lo : Nat) : bits (answerHead b kind count argument) hi lo =
    ((b.val + 1) * 2 ^ 20 + kind * 2 ^ 15 + count * 2 ^ 12 + argument) / 2 ^ lo % 2 ^ (hi - lo + 1) :=
  bits_goodRx (answerHead_lt hk hc ha) hi lo

theorem answerHead_kind : bits (answerHead b kind count argument) 19 15 = kind := by
  rw [bits_answerHead hk hc ha]
  omega

/-- A good head word with as many good data words as it announces is read by its kind (R67, R69). -/
theorem decodeAnswer_answerHead {data : List RxWord} (hd : data.all goodWord = true) (hl : data.length = count) :
    decodeAnswer b (answerHead b kind count argument :: data) = answerOf (answerHead b kind count argument) data := by
  have announced : bits (answerHead b kind count argument) 14 12 = count := by
    rw [bits_answerHead hk hc ha]
    omega
  have address : bits (answerHead b kind count argument) 23 20 = b.val + 1 := by
    rw [bits_answerHead hk hc ha]
    omega
  have good : goodWord (answerHead b kind count argument) = true := goodWord_goodRx (answerHead_lt hk hc ha)
  have whole : data.take count = data := List.take_of_length_le hl.le
  simp only [decodeAnswer, announced, whole, address, good, hd, hl, beq_self_eq_true, Bool.and_true, if_true]

end

/-- A temperature of 12 bits reads back (R195). -/
theorem signed12_twelveBits {t : Int} (h1 : -2048 ≤ t) (h2 : t ≤ 2047) : signed12 (twelveBits t) = t := by
  unfold signed12 twelveBits
  omega

/-- The first data word of a report: arm, valve, settled bit and temperature. -/
def Report.flagWord (r : Report) : Nat :=
  armCode r.arm * 2 ^ 23 + r.valveOpen.toNat * 2 ^ 22 + r.settled.toNat * 2 ^ 21 + twelveBits r.temp

theorem reportWords_eq (r : Report) : reportWords r = [goodRx r.flagWord, goodRx r.cumulative] := rfl

theorem Report.wellFormed_iff {r : Report} :
    r.wellFormed = true ↔ r.cumulative < 2 ^ 24 ∧ -2048 ≤ r.temp ∧ r.temp ≤ 2047 := by
  simp only [Report.wellFormed, Bool.and_eq_true, decide_eq_true_eq, and_assoc]

theorem Report.flagWord_lt (r : Report) : r.flagWord < 2 ^ 24 := by
  have harm := armCode_lt r.arm
  have hv := Bool.toNat_lt r.valveOpen
  have hs := Bool.toNat_lt r.settled
  unfold Report.flagWord twelveBits
  omega

theorem toNat_beq_one (x : Bool) : (x.toNat == 1) = x := by cases x <;> rfl

theorem reportWords_good {r : Report} (h : r.wellFormed = true) : (reportWords r).all goodWord = true := by
  simp only [reportWords_eq, List.all_cons, List.all_nil, goodWord_goodRx r.flagWord_lt,
    goodWord_goodRx (Report.wellFormed_iff.1 h).1, Bool.and_self]

/-- A report reads back from its two data words. -/
theorem reportOf_reportWords {r : Report} (h : r.wellFormed = true) :
    reportOf (goodRx r.flagWord) (goodRx r.cumulative) = r := by
  obtain ⟨hc, hlo, hhi⟩ := Report.wellFormed_iff.1 h
  have harm := armCode_lt r.arm
  have hv := Bool.toNat_lt r.valveOpen
  have hs := Bool.toNat_lt r.settled
  have ht : twelveBits r.temp < 4096 := by unfold twelveBits; omega
  have arm : bits (goodRx r.flagWord) 23 23 = armCode r.arm := by
    rw [bits_goodRx r.flagWord_lt, Report.flagWord]
    omega
  have valve : bits (goodRx r.flagWord) 22 22 = r.valveOpen.toNat := by
    rw [bits_goodRx r.flagWord_lt, Report.flagWord]
    omega
  have settled : bits (goodRx r.flagWord) 21 21 = r.settled.toNat := by
    rw [bits_goodRx r.flagWord_lt, Report.flagWord]
    omega
  have temp : bits (goodRx r.flagWord) 11 0 = twelveBits r.temp := by
    rw [bits_goodRx r.flagWord_lt, Report.flagWord]
    omega
  have cumulative : bits (goodRx r.cumulative) 23 0 = r.cumulative := by
    rw [bits_goodRx hc]
    omega
  simp only [reportOf, arm, valve, settled, temp, cumulative, armOf_armCode, signed12_twelveBits hlo hhi,
    toNat_beq_one]

/-- A STATUS answer reads back with its reports. -/
theorem decodeAnswer_status (b : BayNo) {reports : List Report} (hl : reports.length ≤ 2)
    (hr : ∀ r ∈ reports, r.wellFormed = true) :
    decodeAnswer b (answerWords b (.status reports)) = some (.status reports) := by
  have good : (reports.flatMap reportWords).all goodWord = true := by
    rw [List.all_flatMap, List.all_eq_true]
    exact fun r hm => reportWords_good (hr r hm)
  have length : (reports.flatMap reportWords).length = 2 * reports.length := by
    simp [reportWords_eq, Nat.mul_comm]
  have kind := answerHead_kind (b := b) (kind := 0x10) (count := 2 * reports.length) (argument := 0) (by omega)
    (by omega) (by omega)
  rw [answerWords, decodeAnswer_answerHead (by omega) (by omega) (by omega) good length]
  unfold answerOf
  rw [kind]
  clear kind good length
  rcases reports with _ | ⟨q, _ | ⟨q', _ | ⟨_, rest⟩⟩⟩
  · rfl
  · have read := reportOf_reportWords (hr q (by simp))
    simp only [List.flatMap_cons, List.flatMap_nil, reportWords_eq, List.append_nil, read]
  · have read := reportOf_reportWords (hr q (by simp))
    have read' := reportOf_reportWords (hr q' (by simp))
    simp only [List.flatMap_cons, List.flatMap_nil, reportWords_eq, List.append_nil, List.cons_append, List.nil_append,
      read, read']
  · simp at hl

/-- A CLAIM reads back with its reference, in two halves. -/
theorem decodeAnswer_claim (b : BayNo) {ref : Nat} (h : ref < 2 ^ 32) :
    decodeAnswer b (answerWords b (.claim ref)) = some (.claim ref) := by
  have high : ref / 65536 < 2 ^ 24 := by omega
  have low : ref % 65536 < 2 ^ 24 := by omega
  have good : [goodRx (ref / 65536), goodRx (ref % 65536)].all goodWord = true := by
    simp only [List.all_cons, List.all_nil, goodWord_goodRx high, goodWord_goodRx low, Bool.and_self]
  have kind := answerHead_kind (b := b) (kind := 0x11) (count := 2) (argument := 0) (by omega) (by omega) (by omega)
  rw [answerWords, decodeAnswer_answerHead (count := 2) (by omega) (by omega) (by omega) good rfl]
  unfold answerOf
  rw [kind]
  simp only [bits_goodRx high, bits_goodRx low, Option.some.injEq, Answer.claim.injEq]
  omega

/-- A START reads back with its arm, index and product. -/
theorem decodeAnswer_start (b : BayNo) (x : Arm) {index product : Nat} (hi : index < 8) (hp : product < 32) :
    decodeAnswer b (answerWords b (.start x index product)) = some (.start x index product) := by
  have hx := armCode_lt x
  have argument : armCode x * 2 ^ 11 + index * 2 ^ 8 + product < 4096 := by omega
  have kind := answerHead_kind (b := b) (kind := 0x12) (count := 0) (by omega) (by omega) argument
  have field := bits_answerHead (b := b) (kind := 0x12) (count := 0) (by omega) (by omega) argument
  rw [answerWords, decodeAnswer_answerHead (count := 0) (by omega) (by omega) argument rfl rfl]
  unfold answerOf
  rw [kind]
  simp only [field, Option.some.injEq, Answer.start.injEq]
  refine ⟨.trans (congrArg armOf ?_) (armOf_armCode x), ?_, ?_⟩ <;> omega

/-- A FAULT reads back with its code. -/
theorem decodeAnswer_fault (b : BayNo) {code : Nat} (h1 : 1 ≤ code) (h4 : code ≤ 4) :
    decodeAnswer b (answerWords b (.fault code)) = some (.fault code) := by
  have kind := answerHead_kind (b := b) (kind := 0x14) (count := 0) (argument := code) (by omega) (by omega) (by omega)
  have field := bits_answerHead (b := b) (kind := 0x14) (count := 0) (argument := code) (by omega) (by omega) (by omega)
  rw [answerWords, decodeAnswer_answerHead (count := 0) (by omega) (by omega) (by omega) rfl rfl]
  unfold answerOf
  rw [kind]
  simp only [field, Option.some.injEq, Answer.fault.injEq, faultCodeOf]
  split <;> omega

/-- Settles O29: the head word gives the kind and as many data words as it announces, all of them good, and each field
is read from the bits in which it was sent. -/
theorem answersReadBackWhole : Obligations.AnswersReadBackWhole := by
  intro b a h
  cases a with
  | status reports =>
    obtain ⟨hl, hr⟩ : reports.length ≤ 2 ∧ ∀ r ∈ reports, r.wellFormed = true := by
      simpa [Answer.wellFormed] using h
    exact decodeAnswer_status b hl hr
  | claim ref => exact decodeAnswer_claim b (by simpa [Answer.wellFormed] using h)
  | start x index product =>
    obtain ⟨hi, hp⟩ : index < 8 ∧ product < 32 := by simpa [Answer.wellFormed] using h
    exact decodeAnswer_start b x hi hp
  | finish => exact decodeAnswer_finish b
  | fault code =>
    obtain ⟨h1, h4⟩ : 1 ≤ code ∧ code ≤ 4 := by simpa [Answer.wellFormed] using h
    exact decodeAnswer_fault b h1 h4

end Sys2Proof.Machine

namespace Sys2Proof.Machine

/-! ### Exchanges begin (R57, R66, R67, R76) -/

/-- The visit of the next exchange is the one in progress, or that of the first bay left in the round. -/
theorem Rack.nextVisit_eq {r : Rack} {v : Visit} {left : List BayNo}
    (h : (r.visit = some v ∧ left = r.roundLeft)
      ∨ (r.visit = none ∧ r.roundLeft = v.bay :: left ∧ v = ⟨v.bay, 0, false⟩)) :
    r.nextVisit = some (v, left) := by
  rcases h with ⟨hv, rfl⟩ | ⟨hv, hround, hfresh⟩
  · rw [Rack.nextVisit, hv]
  · rw [Rack.nextVisit, hv, hround, hfresh]

/-- An exchange that begins: its message, its words and its window (R67). -/
theorem State.beginExchange_eq {s : State} {v : Visit} {left : List BayNo} (h : s.rack.nextVisit = some (v, left)) :
    s.beginExchange = { s with rack := { s.rack with
      roundLeft := left
      visit := some v
      exchange := some ⟨(s.bay v.bay).nextMessage,
        s.elapsed + 128 * (messageWords v.bay (s.bay v.bay).nextMessage).length + 400⟩
      out := messageWords v.bay (s.bay v.bay).nextMessage } } := by
  unfold State.beginExchange
  rw [h]
  rfl

/-- Settles O27: between two exchanges the line is free for an exchange where no ALL_STOP is owed, and for the ALL_STOP
where one is. -/
theorem exchangesSendTheOutboxInTurn : Obligations.ExchangesSendTheOutboxInTurn := by
  intro s hrun hex
  have running : s.running = true := by simp [State.running, hrun]
  refine ⟨fun hl hr v left m words hv hm hw => ?_, fun hl => ?_, fun hl hr => ?_⟩
  · have free : s.lineFree = true := by simp [State.lineFree, running, hex, hl, hr]
    have sent : (s.bay v.bay).nextMessage = m := hm.symm
    have spoken : messageWords v.bay m = words := by
      rw [hw]
      cases m with
      | none => rfl
      | some m => cases m <;> rfl
    change Host.Outcome.next (if s.lineFree then s.beginExchange else s) = _
    rw [if_pos free, State.beginExchange_eq (Rack.nextVisit_eq hv), sent, spoken]
  · change Host.Outcome.next (if s.running && s.rack.exchange.isNone && (s.rack.latchStop || s.rack.roundStop) then
      s.sendAllStop else s) = _
    rw [if_pos (by simp [running, hex, hl]), State.sendAllStop, if_pos hl]
    rfl
  · change Host.Outcome.next (if s.running && s.rack.exchange.isNone && (s.rack.latchStop || s.rack.roundStop) then
      s.sendAllStop else s) = _
    rw [if_pos (by simp [running, hex, hl, hr]), State.sendAllStop, if_neg (by simp [hl])]
    rfl

/-! ### An entry offered, an arm interrupted -/

/-- An offer changes the log alone, as the log, the clocks and the phase have it. -/
theorem State.offer_as (s : State) {t : State} (ref driver : Nat) (x : Payload) (hl : t.log = s.log := by rfl)
    (hp : t.phase = s.phase := by rfl) (he : t.elapsed = s.elapsed := by rfl) (ht : t.time = s.time := by rfl) :
    t.offer ref driver x = { t with log := (s.offer ref driver x).log } := by
  rw [State.offer_frame, State.offer_log_congr hl hp he ht]

/-! ### Misses and silence (R69 to R71) -/

/-- What an arm refers to is interrupted: an orphan in its record, a compartment in the dispatch table. -/
theorem State.interruptArm_eq (s : State) (b : BayNo) (a : Arm) :
    s.interruptArm b a = { s.setArm b a (s.arm b a).restarted with dispatch := (s.interruptArm b a).dispatch } := by
  have same : s.setArm b a (s.arm b a) = s := by
    rw [State.setArm, State.arm, BayRecord.setArmRecord_armRecord, State.setBay_bay]
  unfold State.interruptArm
  cases h : s.arm b a with
  | free =>
    rw [h] at same
    simp only [ArmRecord.restarted, same]
  | compartment i k =>
    rw [h] at same
    simp only [ArmRecord.restarted, same]
    exact State.updComp_frame ..
  | orphan o =>
    simp only [State.updOrphan_of_orphan h, ArmRecord.restarted]

/-- A bay's record at its silence (R71). -/
def BayRecord.silenced (r : BayRecord) : BayRecord :=
  { r with link := .silent, missed := 3, outbox := [], armA := r.armA.restarted, armB := r.armB.restarted }

theorem CompState.active_iff (x : CompState) : x.active = true ↔ x = .permitted ∨ x = .flowing ∨ x = .stopping := by
  cases x <;> simp [CompState.active]

/-- The dispatch table at the silence of a bay with record `r`: the compartments of its arms are interrupted (R71). -/
def State.silencedTable (s : State) (r : BayRecord) : Vector (Option Delivery) 16 :=
  Vector.ofFn fun i => (s.slot i).map fun d => { d with
    comps := d.comps.map fun c =>
      if r.armA = .compartment i c.index ∨ r.armB = .compartment i c.index then c.interrupt else c }

theorem State.slot_silencedTable {t : State} (s : State) (r : BayRecord) (h : t.dispatch = s.silencedTable r)
    (i : SlotNo) : t.slot i = (s.slot i).map fun d => { d with comps := d.comps.map fun c =>
      if (r.armA = .compartment i c.index ∨ r.armB = .compartment i c.index)
          ∧ (c.state = .permitted ∨ c.state = .flowing ∨ c.state = .stopping) then
        { c with state := .interrupted, deadline := none }
      else c } := by
  rw [State.slot, h, State.silencedTable, get_ofFn]
  refine congrArg (fun f => Option.map f (s.slot i)) (funext fun d => ?_)
  refine congrArg (fun cs => { d with comps := cs }) (List.map_congr_left fun c _ => ?_)
  rw [Compartment.interrupt, ite_and]
  simp only [CompState.active_iff]

/-- A bay's silence, part by part. -/
theorem State.silence_eq (s : State) (b : BayNo) : s.silence b = { s with
    bays := s.bays.set b.val (s.bay b).silenced b.isLt
    dispatch := s.silencedTable (s.bay b)
    log := (s.offer (s.boundRef b) 0 (.baySilent b (s.bay b).armA.cond (s.bay b).armB.cond)).log } := by
  generalize hq : { s.bay b with link := .silent, missed := 3, outbox := [] } = q
  have arms : ∀ a, q.armRecord a = (s.bay b).armRecord a := by
    subst hq
    exact fun a => by cases a <;> rfl
  have interrupted : ((s.setBay b q).interruptArm b .A).interruptArm b .B = { s with
      bays := s.bays.set b.val (s.bay b).silenced b.isLt
      dispatch := s.silencedTable (s.bay b) } := by
    have table : (((s.setBay b q).interruptArm b .A).interruptArm b .B).dispatch = s.silencedTable (s.bay b) :=
      vector_ext fun i => by
        rw [State.silencedTable, get_ofFn]
        exact State.slot_silence s b q arms i
    rw [State.interruptArm_eq, table, State.arm_interruptArm, State.interruptArm_eq]
    subst hq
    simp [State.setArm, State.setBay, State.bay, State.arm, get_set, BayRecord.silenced, BayRecord.setArmRecord,
      BayRecord.armRecord]
  have silent : s.silence b = (((s.setBay b q).interruptArm b .A).interruptArm b .B).offer (s.boundRef b) 0
      (.baySilent b (s.bay b).armA.cond (s.bay b).armB.cond) := by
    subst hq
    rfl
  rw [silent, interrupted]
  exact State.offer_as s ..

/-- A bay's delivery stays named where its record stays bound. -/
theorem State.boundRef_setBay {s : State} {b : BayNo} {r : BayRecord} (h : r.bound = (s.bay b).bound) :
    (s.setBay b r).boundRef b = s.boundRef b := by
  unfold State.boundRef
  rw [State.bay_setBay_self, h]
  rfl

/-- A bay's record after a miss (R70). -/
def BayRecord.afterMiss (r : BayRecord) : BayRecord :=
  match r.link with
  | .online => { r with link := .suspect, missed := 1 }
  | .suspect => if r.missed ≤ 1 then { r with missed := 2 } else r.silenced
  | .silent => { r with missed := 3 }

section

variable {q : BayRecord}

theorem BayRecord.afterMiss_online (h : q.link = .online) : q.afterMiss = { q with link := .suspect, missed := 1 } := by
  simp only [BayRecord.afterMiss, h]

theorem BayRecord.afterMiss_suspect (h : q.link = .suspect) (hm : q.missed ≤ 1) :
    q.afterMiss = { q with missed := 2 } := by
  simp only [BayRecord.afterMiss, h, if_pos hm]

theorem BayRecord.afterMiss_third (h : q.link = .suspect) (hm : ¬ q.missed ≤ 1) : q.afterMiss = q.silenced := by
  simp only [BayRecord.afterMiss, h, if_neg hm]

theorem BayRecord.afterMiss_silent (h : q.link = .silent) : q.afterMiss = { q with missed := 3 } := by
  simp only [BayRecord.afterMiss, h]

end

/-- A bay falls silent with its next miss (R70). -/
def BayRecord.failing (r : BayRecord) : Bool := r.link == .suspect && 1 < r.missed

/-- A miss, part by part: the bay's record, and at a silence the compartments of its arms and the entry. -/
theorem State.miss_eq (s : State) (b : BayNo) (checkError : Bool) : s.miss b checkError = { s with
    bays := s.bays.set b.val ((s.bay b).countMiss checkError).afterMiss b.isLt
    dispatch := if (s.bay b).failing then s.silencedTable (s.bay b) else s.dispatch
    log := if (s.bay b).failing then
        (s.offer (s.boundRef b) 0 (.baySilent b (s.bay b).armA.cond (s.bay b).armB.cond)).log
      else s.log } := by
  have counted : ((s.bay b).countMiss checkError).link = (s.bay b).link
      ∧ ((s.bay b).countMiss checkError).missed = (s.bay b).missed := ⟨rfl, rfl⟩
  obtain ⟨hlink, hmissed⟩ := counted
  unfold State.miss BayRecord.afterMiss BayRecord.failing
  dsimp only
  rw [hlink, hmissed]
  cases h : (s.bay b).link with
  | online | silent => rfl
  | suspect =>
    by_cases hm : (s.bay b).missed ≤ 1
    · simp only [hm, if_true, Nat.not_lt.2 hm, decide_false, Bool.and_false]
      rfl
    · have named : (s.setBay b ((s.bay b).countMiss checkError)).boundRef b = s.boundRef b := State.boundRef_setBay rfl
      rw [if_neg hm, State.silence_eq, State.bay_setBay_self, named,
        State.offer_as s (t := s.setBay b ((s.bay b).countMiss checkError))]
      simp only [hm, if_false, Nat.not_le.1 hm, decide_true, beq_self_eq_true, Bool.and_true, if_true, State.setBay,
        Vector.set_set]
      rfl

/-- The visit of a bay that missed is over. -/
theorem State.endVisit_miss (s : State) (b : BayNo) (checkError : Bool) :
    (s.miss b checkError).endVisit = { s.miss b checkError with rack := s.lineAfterVisit } := by
  rw [State.endVisit_eq, State.lineAfterVisit_congr] <;> rw [State.miss_eq]

theorem exec_answerWindowExpiry {s : State} {v : Visit} {e : Exchange} (hr : s.phase = .running)
    (hv : s.rack.visit = some v) (he : s.rack.exchange = some e) (hd : v.dropped = false) :
    exec .answerWindowExpiry s = .next { (s.reach e.windowEnd).miss v.bay false with rack := s.lineAfterVisit } := by
  have running : s.running = true := by simp [State.running, hr]
  change execAnswerWindowExpiry s = _
  simp only [execAnswerWindowExpiry, hv, he, running, if_true, State.endByWindow, hd, Bool.false_eq_true, if_false,
    State.endVisit_miss]
  rfl

theorem exec_answerReceived_bad {s : State} {v : Visit} {e : Exchange} {words : List RxWord} (hr : s.phase = .running)
    (hv : s.rack.visit = some v) (he : s.rack.exchange = some e) (hd : v.dropped = false)
    (hw : decodeAnswer v.bay words = none) :
    exec (.answerReceived words) s = .next { s.miss v.bay true with rack := s.lineAfterVisit } := by
  have running : s.running = true := by simp [State.running, hr]
  change execAnswerReceived words s = _
  simp only [execAnswerReceived, hv, he, running, if_true, State.endByAnswer, hd, hw, Bool.false_eq_true, if_false,
    State.endVisit_miss]

/-- An answer with a check error counts as no answer, and in the bay's check-error count. -/
theorem BayRecord.afterMiss_countMiss_true (r : BayRecord) : (r.countMiss true).afterMiss =
    { (r.countMiss false).afterMiss with checkErrors := min 65535 (r.checkErrors + 1) } := by
  unfold BayRecord.afterMiss BayRecord.countMiss
  dsimp only
  cases r.link with
  | online | silent => rfl
  | suspect =>
    dsimp only
    split <;> rfl

theorem ArmRecord.restarted_eq {down : ArmRecord → ArmRecord} (h : ∀ a, down a = match a with
    | .orphan o => .orphan { o with state := .interrupted, deadline := none }
    | a => a) : down = ArmRecord.restarted := by
  funext a
  rw [h]
  cases a <;> rfl

/-- Settles O28: a miss is counted at the end of the window as at a bad answer, which adds a check error; what the miss
makes of the bay follows its link state. -/
theorem missesCountDownToSilence : Obligations.MissesCountDownToSilence := by
  refine ⟨fun s v e n total r hr hv he hd hrec hn ht => ?_, fun s t v e words hr hv he hd hw ht => ?_⟩
  · subst hrec hn ht
    rw [exec_answerWindowExpiry hr hv he hd, State.miss_eq]
    have read : (s.reach e.windowEnd).bay v.bay = s.bay v.bay := rfl
    rw [read]
    refine ⟨fun hl => ?_, fun hl hm => ?_, fun hl => ?_, fun hl hm down hdown => ?_⟩
    · have sound : (s.bay v.bay).failing = false := by simp [BayRecord.failing, hl]
      rw [BayRecord.afterMiss_online (q := (s.bay v.bay).countMiss false) hl, sound]
      rfl
    · have sound : (s.bay v.bay).failing = false := by simp [BayRecord.failing, hm]
      rw [BayRecord.afterMiss_suspect (q := (s.bay v.bay).countMiss false) hl hm.le, sound]
      rfl
    · have sound : (s.bay v.bay).failing = false := by simp [BayRecord.failing, hl]
      rw [BayRecord.afterMiss_silent (q := (s.bay v.bay).countMiss false) hl, sound]
      rfl
    · obtain rfl := ArmRecord.restarted_eq hdown
      have third : ¬ ((s.bay v.bay).countMiss false).missed ≤ 1 := by
        rw [show ((s.bay v.bay).countMiss false).missed = 2 from hm]
        decide
      have failing : (s.bay v.bay).failing = true := by simp [BayRecord.failing, hl, hm]
      rw [BayRecord.afterMiss_third (q := (s.bay v.bay).countMiss false) hl third, failing, if_pos rfl, if_pos rfl]
      exact ⟨_, rfl, rfl, State.slot_silencedTable (s.reach e.windowEnd) (s.bay v.bay) rfl⟩
  · have bad := exec_answerReceived_bad hr hv he hd hw
    generalize hu : { s with rack := { s.rack with exchange := some ⟨e.sent, 0⟩ } } = u at ht
    have waited : exec .answerWindowExpiry u = .next { (u.reach 0).miss v.bay false with rack := s.lineAfterVisit } := by
      subst hu
      exact exec_answerWindowExpiry (s := { s with rack := { s.rack with exchange := some ⟨e.sent, 0⟩ } })
        (e := ⟨e.sent, 0⟩) hr hv rfl hd
    have reached : (u.reach 0).elapsed = s.elapsed := by
      subst hu
      exact Nat.max_zero _
    obtain rfl := Host.Outcome.next.inj (waited.symm.trans ht)
    have offered : ∀ x, ((u.reach 0).offer (s.boundRef v.bay) 0 x).log = (s.offer (s.boundRef v.bay) 0 x).log := fun x =>
      State.offer_log_congr (by rw [← hu]; rfl) (by rw [← hu]; rfl) reached (by rw [← hu]; rfl) ..
    have named : (u.reach 0).boundRef v.bay = s.boundRef v.bay := by rw [← hu]; rfl
    have record : (u.reach 0).bay v.bay = s.bay v.bay := by rw [← hu]; rfl
    have table : (u.reach 0).silencedTable = s.silencedTable := by rw [← hu]; rfl
    rw [bad, State.miss_eq, State.miss_eq, BayRecord.afterMiss_countMiss_true, named, record, table, offered]
    simp only [State.bay, get_set, if_true, Vector.set_set, reached]
    rw [← hu]
    rfl

end Sys2Proof.Machine

namespace Sys2Proof.Machine

/-! ### Requests of a bay that has been heard (R73, R74) -/

section

variable {s : State} {v : Visit} {sent : Option Message}

theorem State.bay_heard : (s.heard v sent).bay v.bay = (s.bay v.bay).heard sent := State.bay_setBay_self ..

theorem State.arm_heard (a : Arm) : (s.heard v sent).arm v.bay a = (s.bay v.bay).armRecord a := by
  rw [State.arm, State.bay_heard]
  cases a <;> rfl

/-- A bay that has been heard can be told. -/
theorem State.link_heard : ((s.heard v sent).bay v.bay).link ≠ .silent := by
  rw [State.bay_heard]
  exact nofun

theorem State.exchangeOver_told (hp : s.polled v.bay = true) (q : BayRequest) (x : Option Arm) (r : Option DenyReason) :
    ((s.heard v sent).queueVerdict v.bay q x r).exchangeOver v = (s.heard v sent).judged v q x r :=
  State.exchangeOver_queueVerdict (s := s.heard v sent) hp State.link_heard q x r

theorem State.exchangeOver_denied (hp : s.polled v.bay = true) (q : BayRequest) (x : Option Arm) (r : DenyReason) :
    ((s.heard v sent).deny v.bay q x r).exchangeOver v = (s.heard v sent).judged v q x (some r) :=
  State.exchangeOver_told hp q x (some r)

theorem State.offer_heard (ref driver : Nat) (x : Payload) :
    ((s.heard v sent).offer ref driver x).log = (s.offer ref driver x).log :=
  State.offer_log_congr (s := s) (t := s.heard v sent) rfl rfl rfl rfl ..

end

section

variable {s : State} {b : BayNo} {q : BayRecord}

/-- A message queued at a bay whose record has just been written. -/
theorem State.enqueue_setBay (hp : s.polled b = true) (hl : q.link ≠ .silent) (rule : List Message → List Message) :
    (s.setBay b q).enqueue b rule = s.setBay b { q with outbox := rule q.outbox } := by
  have read : (s.setBay b q).bay b = q := State.bay_setBay_self ..
  rw [State.enqueue_told (s := s.setBay b q) hp (by rwa [read]), read, State.setBay_setBay]

theorem State.judged_setBay (s : State) (v : Visit) (q : BayRecord) (x : BayRequest) (a : Option Arm)
    (y : Option DenyReason) : (s.setBay v.bay q).judged v x a y =
      (s.setBay v.bay { q with outbox := .verdict x a y :: q.outbox }).exchangeOver v := by
  have read : (s.setBay v.bay q).bay v.bay = q := State.bay_setBay_self ..
  rw [State.judged, read]
  exact congrArg (fun t : State => t.exchangeOver v) (State.setBay_setBay ..)

end

/-! ### CLAIM (R81, R82) -/

theorem State.takeClaim_unknown {s : State} {ref : Nat} (h : ref = 0 ∨ ∀ i d, s.slot i = some d → d.ref ≠ ref)
    (b : BayNo) : s.takeClaim b ref = s.deny b .claim none .unknownDelivery := by
  unfold State.takeClaim
  rcases h with rfl | h
  · cases s.find 0 <;> rfl
  · rw [State.find_eq_none h]

/-- A CLAIM that names a delivery: OWNED, a repeated claim, and the checks of R81 in order. -/
theorem State.takeClaim_eq {s : State} {i : SlotNo} {d : Delivery} (hd : s.holdsAt i d) (h0 : d.ref ≠ 0) (b : BayNo) :
    s.takeClaim b d.ref =
      if s.owned d then s.deny b .claim none .owned
      else if d.state = .atBay ∧ d.bay = some b then s.queueVerdict b .claim none none
      else match s.claimRefusal b d with
        | some r => s.deny b .claim none r
        | none => s.grantClaim b i d := by
  unfold State.takeClaim
  rw [State.find_of_holdsAt hd]
  exact if_neg h0

/-- A granted claim binds delivery and bay to each other and offers its entry. -/
theorem State.exchangeOver_grantClaim {s : State} {v : Visit} (hp : s.polled v.bay = true)
    (hl : (s.bay v.bay).link ≠ .silent) (i : SlotNo) (d : Delivery) :
    (s.grantClaim v.bay i d).exchangeOver v = State.judged
      { s with
        bays := s.bays.set v.bay.val { s.bay v.bay with bound := some i } v.bay.isLt
        dispatch := s.dispatch.set i.val (some { d with state := .atBay, bay := some v.bay, claim := some s.now }) i.isLt
        log := (s.offer d.ref (d.driver.getD 0) (.claim v.bay (s.projectFor d).margins.daily
          (s.projectFor d).margins.rolling ((s.projectFor d).margins.shift.getD 0))).log } v .claim none none := by
  have bound : ∀ x, ((s.setSlot i x).setBay v.bay { s.bay v.bay with bound := some i }).bay v.bay =
      { s.bay v.bay with bound := some i } := fun _ => State.bay_setBay_self ..
  rw [State.grantClaim, State.offer_as s, State.exchangeOver_queueVerdict]
  · rfl
  · exact hp
  · exact fun h => hl ((congrArg BayRecord.link (bound _)).symm.trans h)

/-- Settles O31: the claim is taken in the state that has heard it, and judged by the checks in their order. -/
theorem claimsAreJudgedInOrder : Obligations.ClaimsAreJudgedInOrder := by
  rintro s u v sent r ref hex hpolled hlink href rfl rfl hbox
  have takes : ((s.heard v sent).bay v.bay).takes true = true := by
    rw [State.bay_heard]
    exact BayRecord.takes_iff.2 ⟨List.any_eq_false.2 fun m hm => by simp [(hbox m hm).1],
      fun _ => List.any_eq_false.2 fun m hm => by have := (hbox m hm).2; cases m <;> simp_all [Message.isDismiss]⟩
  have taken : exec (.answerReceived (answerWords v.bay (.claim ref))) s =
      .next (((s.heard v sent).takeClaim v.bay ref).exchangeOver v) := by
    rw [exec_answerReceived hex hlink (decodeAnswer_claim _ href), State.takeAnswer, if_pos takes]
  simp only [taken, Host.Outcome.next.injEq]
  refine ⟨fun h => ?_, fun i d hd hr h0 => ?_⟩
  · rw [State.takeClaim_unknown (s := s.heard v sent) h, State.exchangeOver_denied hpolled]
  · subst hr
    have owned : (s.heard v sent).owned d = s.owned d := rfl
    rw [State.takeClaim_eq (s := s.heard v sent) hd h0, owned]
    refine ⟨fun ho => ?_, fun ho hs hb => ?_, fun ho hn x hx => ?_⟩
    · rw [if_pos ho, State.exchangeOver_denied hpolled]
    · rw [if_neg (by simp [ho]), if_pos ⟨hs, hb⟩, State.exchangeOver_told hpolled]
    · have refusal : (s.heard v sent).claimRefusal v.bay d = x := by
        rw [hx, State.claimRefusal, State.bay_heard]
        simp only [BayRecord.holdsReferences, Bool.or_eq_true, Option.isSome_iff_ne_none, bne_iff_ne]
        rfl
      rw [if_neg (by simp [ho]), if_neg hn, refusal]
      refine ⟨fun hx => ?_, fun hx => ?_⟩
      · obtain ⟨y, rfl⟩ := Option.ne_none_iff_exists'.1 hx
        exact State.exchangeOver_denied hpolled ..
      · subst x
        rw [hx]
        have granted := State.exchangeOver_grantClaim (s := s.heard v sent) hpolled State.link_heard i d
        rw [State.bay_heard, State.offer_heard] at granted
        exact granted

/-! ### START (R83 to R85) -/

theorem any_isPermit_false {a : Arm} {box : List Message} (h : ∀ m ∈ box, m.isPermit a = false) :
    box.any (Message.isPermit a) = false := List.any_eq_false.2 fun m hm => by simp [h m hm]

theorem BayRecord.not_available_iff {r : BayRecord} {a : Arm} :
    (!r.available a) = true ↔ r.armRecord a ≠ .free ∨ Message.stop a ∈ r.outbox := by
  rw [← any_isStop]
  simp [BayRecord.available, -List.any_eq_true]

/-- The checks of a START for a compartment of the bound delivery, in order (R83). -/
theorem State.startRefusal_eq (s : State) (b : BayNo) (a : Arm) (armProduct : Nat) (c : Compartment) :
    s.startRefusal b a armProduct c =
      if c.state ≠ .planned then some DenyReason.notPlanned
      else if (s.bay b).armRecord a ≠ .free ∨ Message.stop a ∈ (s.bay b).outbox then some .armBusy
      else if s.latch.isSet then some .shutdown
      else if (s.product c.product).state ≠ .enabled then some .productDisabled
      else if armProduct ≠ c.product then some .crossover
      else if (s.product c.last).state ≠ .undefined ∧ (s.product c.last).flash = .low
          ∧ (s.product c.product).flash = .high ∧ c.purge = false then some .switchLoad
      else none := by
  have load : s.switchLoad c = true ↔ (s.product c.last).state ≠ .undefined ∧ (s.product c.last).flash = .low
      ∧ (s.product c.product).flash = .high ∧ c.purge = false := by
    simp [State.switchLoad, and_assoc]
  simp only [State.startRefusal, BayRecord.not_available_iff, load]

theorem State.takeStart_unbound {s : State} {b : BayNo} (h : (s.bay b).bound = none) (a : Arm) (index armProduct : Nat) :
    s.takeStart b a index armProduct = s.deny b .start (some a) .unknownDelivery := by
  rw [State.takeStart, h]

section

variable {s : State} {b : BayNo} {i : SlotNo} {d : Delivery} {index : Nat}

theorem State.takeStart_owned (h : (s.bay b).bound = some i) (hd : s.slot i = some d) (ho : s.owned d = true) (a : Arm)
    (armProduct : Nat) : s.takeStart b a index armProduct = s.deny b .start (some a) .owned := by
  simp only [State.takeStart, h, hd, ho, if_true]

theorem State.takeStart_absent (h : (s.bay b).bound = some i) (hd : s.slot i = some d) (ho : s.owned d = false)
    (hc : d.comp index = none) (a : Arm) (armProduct : Nat) :
    s.takeStart b a index armProduct = s.deny b .start (some a) .noCompartment := by
  simp only [State.takeStart, h, hd, ho, hc, Bool.false_eq_true, if_false]

/-- A START for a compartment of the bound delivery, which is not owned: refused by a check, or granted. -/
theorem State.takeStart_checked {c : Compartment} (h : (s.bay b).bound = some i) (hd : s.slot i = some d)
    (ho : s.owned d = false) (hc : d.comp index = some c) (a : Arm) (armProduct : Nat) :
    s.takeStart b a index armProduct = (s.startRefusal b a armProduct c).elim (s.grantStart b a i c) fun y =>
      (s.logDeny b a armProduct d c y).deny b .start (some a) y := by
  simp only [State.takeStart, h, hd, ho, hc, Bool.false_eq_true, if_false]
  cases s.startRefusal b a armProduct c <;> rfl

end

/-- A denied START offers a DENY entry for CROSSOVER and SWITCH_LOAD alone (R84). -/
theorem State.logDeny_eq (s : State) (b : BayNo) (a : Arm) (armProduct : Nat) (d : Delivery) (c : Compartment)
    (y : DenyReason) : s.logDeny b a armProduct d c y = { s with
      log := if y = .crossover ∨ y = .switchLoad then
          (s.offer d.ref (d.driver.getD 0) (.deny b a c.index y armProduct c.product c.last)).log
        else s.log } := by
  unfold State.logDeny
  split
  · exact State.offer_frame ..
  · rfl

/-- A granted START: compartment and arm record refer to each other, and VERDICT and PERMIT are queued. -/
theorem State.exchangeOver_grantStart {s : State} {v : Visit} {i : SlotNo} {d : Delivery} {a : Arm} {c : Compartment}
    (hp : s.polled v.bay = true) (hl : (s.bay v.bay).link ≠ .silent) (hd : s.slot i = some d)
    (hno : ∀ m ∈ (s.bay v.bay).outbox, m.isPermit a = false) :
    (s.grantStart v.bay a i c).exchangeOver v = State.judged
      { s with
        bays := s.bays.set v.bay.val { (s.bay v.bay).setArmRecord a (.compartment i c.index) with
          outbox := (s.bay v.bay).outbox ++ [.permit a c.index c.product c.planned c.capacity] } v.bay.isLt
        dispatch := s.dispatch.set i.val (some { d with comps := d.comps.map fun y =>
          if y.index = c.index then
            { y with
              state := .permitted
              arm := some ⟨v.bay, a⟩
              deadline := some ⟨.permitWindow, s.elapsed + s.settings.permit * 1000000⟩
              acc := { y.acc with L := 0 } }
          else y }) i.isLt } v .start (some a) none := by
  have none_waits : (Message.verdict .start (some a) none :: (s.bay v.bay).outbox).any (Message.isPermit a) = false :=
    any_isPermit_false (List.forall_mem_cons.2 ⟨rfl, hno⟩)
  have link : ((s.bay v.bay).setArmRecord a (.compartment i c.index)).link ≠ .silent := by rwa [BayRecord.setArmRecord_link]
  have queued : ∀ (x : Option Delivery) rule q, q.link ≠ .silent → ((s.setSlot i x).setBay v.bay q).enqueue v.bay rule =
      (s.setSlot i x).setBay v.bay { q with outbox := rule q.outbox } := fun x rule _ hq =>
    State.enqueue_setBay (s := s.setSlot i x) hp hq rule
  rw [State.grantStart, State.updComp_of_some hd, State.setArm, State.bay_setSlot, State.queueVerdict, queued _ _ _ link,
    queued, withPermit, BayRecord.setArmRecord_outbox, none_waits]
  · exact (State.judged_setBay (s.setSlot i _) v { (s.bay v.bay).setArmRecord a (.compartment i c.index) with
      outbox := (s.bay v.bay).outbox ++ [.permit a c.index c.product c.planned c.capacity] } .start (some a) none).symm
  · exact link

/-- Settles O32: the request is taken in the state that has heard it, and judged by the checks in their order. -/
theorem startsAreJudgedInOrder : Obligations.StartsAreJudgedInOrder := by
  rintro s u v sent r a index armProduct hex hpolled hlink hindex hproduct rfl rfl hv
  have taken : exec (.answerReceived (answerWords v.bay (.start a index armProduct))) s =
      .next (((s.heard v sent).takeStart v.bay a index armProduct).exchangeOver v) := by
    rw [exec_answerReceived hex hlink (decodeAnswer_start _ _ hindex hproduct), State.takeAnswer, State.bay_heard,
      if_pos (State.takes_finish hv)]
  simp only [taken, Host.Outcome.next.injEq]
  refine ⟨fun hb => ?_, fun i d hb hd => ?_⟩
  · have unbound : ((s.heard v sent).bay v.bay).bound = none := by rwa [State.bay_heard]
    rw [State.takeStart_unbound unbound, State.exchangeOver_denied hpolled]
  · have bound : ((s.heard v sent).bay v.bay).bound = some i := by rwa [State.bay_heard]
    have owned : (s.heard v sent).owned d = s.owned d := rfl
    have held : (s.heard v sent).slot i = some d := hd
    refine ⟨fun ho => ?_, fun ho hc => ?_, fun ho c hc hpermit x hx => ?_⟩
    · rw [State.takeStart_owned bound held (owned.trans ho), State.exchangeOver_denied hpolled]
    · have absent : d.comp index = none := List.find?_eq_none.2 fun c hm => by simpa using hc c hm
      rw [State.takeStart_absent bound held (owned.trans ho) absent, State.exchangeOver_denied hpolled]
    · obtain ⟨hmem, rfl⟩ := Delivery.comp_mem hc
      have refusal : (s.heard v sent).startRefusal v.bay a armProduct c = x := by
        rw [State.startRefusal_eq, State.bay_heard, hx]
        rfl
      rw [State.takeStart_checked bound held (owned.trans ho) hc, refusal]
      refine ⟨fun hn => ?_, fun hn => ?_⟩
      · obtain ⟨y, rfl⟩ := Option.ne_none_iff_exists'.1 hn
        have denied := State.exchangeOver_queueVerdict (v := v) (s := { s.heard v sent with
          log := if y = .crossover ∨ y = .switchLoad then
              (s.offer d.ref (d.driver.getD 0) (.deny v.bay a c.index y armProduct c.product c.last)).log
            else s.log }) hpolled State.link_heard .start (some a) (some y)
        simp only [Option.elim_some, State.deny, State.logDeny_eq, State.offer_heard, Option.some.injEq]
        exact denied
      · subst x
        have free : ((s.bay v.bay).heard sent).armRecord a = .free := by
          by_contra hf
          rw [if_pos (Or.inl hf)] at hn
          split at hn <;> cases hn
        have no_permit : ∀ m ∈ ((s.heard v sent).bay v.bay).outbox, m.isPermit a = false := by
          rw [State.bay_heard]
          exact fun m hm => Bool.eq_false_iff.2 fun h => hpermit m hm h free
        rw [hn]
        have granted := State.exchangeOver_grantStart (s := s.heard v sent) (c := c) hpolled State.link_heard
          (show (s.heard v sent).slot i = some d from hd) no_permit
        rw [State.bay_heard] at granted
        exact granted

end Sys2Proof.Machine

namespace Sys2Proof.Machine

/-! ### STOPs at a bay that can be told (R64) -/

theorem State.queueStop_told {s : State} {b : BayNo} (hp : s.polled b = true) (hl : (s.bay b).link ≠ .silent) (a : Arm) :
    s.queueStop b a = s.setBay b { s.bay b with outbox := stopQueued a (s.bay b).outbox } := by
  rw [State.queueStop, State.enqueue_told hp hl, withStop_eq]

theorem State.stopIf_told {s : State} {b : BayNo} (hp : s.polled b = true) (hl : (s.bay b).link ≠ .silent) (x : Bool)
    (a : Arm) : s.stopIf x b a =
      s.setBay b { s.bay b with outbox := if x then stopQueued a (s.bay b).outbox else (s.bay b).outbox } := by
  cases x with
  | false => exact (s.setBay_bay b).symm
  | true => exact State.queueStop_told hp hl a

/-! ### FAULT (R87) -/

/-- The compartments of a delivery have indices of their own. -/
def State.indicesDiffer (s : State) : Prop :=
  ∀ i d, s.slot i = some d → (d.comps.map Compartment.index).Nodup

/-- The dispatch table after a granted FAULT of an arm with record `x`. -/
def State.faultedTable (s : State) (x : ArmRecord) : Vector (Option Delivery) 16 :=
  Vector.ofFn fun i => (s.slot i).map fun d => { d with
    comps := d.comps.map fun c => if x = .compartment i c.index then c.faulted (s.elapsed + 30000000) else c }

theorem State.faultedTable_eq_self {s : State} {x : ArmRecord}
    (h : ∀ i d c, s.slot i = some d → c ∈ d.comps → x = .compartment i c.index →
      c.faulted (s.elapsed + 30000000) = c) : s.faultedTable x = s.dispatch := by
  refine vector_ext fun i => ?_
  rw [State.faultedTable, get_ofFn]
  change (s.slot i).map _ = s.slot i
  cases hd : s.slot i with
  | none => rfl
  | some d =>
    refine congrArg (fun cs => some { d with comps := cs }) ((List.map_congr_left fun c hc => ?_).trans (List.map_id _))
    split
    · exact h i d c hd hc ‹_›
    · rfl

/-- The compartment of an index changed as a FAULT changes it. -/
theorem State.updComp_faulted {s : State} {i : SlotNo} {d : Delivery} {k : Nat} {c : Compartment}
    {g : Compartment → Compartment} (hu : s.indicesDiffer) (hd : s.slot i = some d) (hc : d.comp k = some c)
    (hg : g c = c.faulted (s.elapsed + 30000000)) :
    s.updComp i k g = { s with dispatch := s.faultedTable (.compartment i k) } := by
  have changed : (s.updComp i k g).dispatch = s.faultedTable (.compartment i k) := by
    refine vector_ext fun j => ?_
    rw [State.faultedTable, get_ofFn]
    refine (State.slot_updComp ..).trans ?_
    split
    · rename_i hj
      subst hj
      rw [hd]
      refine congrArg (fun cs => some { d with comps := cs }) (List.map_congr_left fun y hy => ?_)
      obtain ⟨hm, hk⟩ := Delivery.comp_mem hc
      by_cases hy' : y.index = k
      · obtain rfl := List.inj_on_of_nodup_map (hu j d hd) hy hm (hy'.trans hk.symm)
        simp [hy', hg]
      · simp [hy', Ne.symm hy']
    · rename_i hj
      simp [Ne.symm hj]
  rw [State.updComp_frame, changed]

theorem Compartment.faulted_index (n : Nat) (c : Compartment) : (c.faulted n).index = c.index := by
  unfold Compartment.faulted
  split
  · rfl
  · split <;> rfl

/-- What an arm refers to after a FAULT that is granted: flagged, its flow stopped, and a STOP queued where it was
active. -/
theorem State.faultArm_eq {s : State} (hu : s.indicesDiffer) (b : BayNo) (a : Arm) :
    s.faultArm b a = State.stopIf { s.setArm b a (s.arm b a).faulted with dispatch := s.faultedTable (s.arm b a) }
      (s.armActive b a) b a := by
  have same : s.setArm b a (s.arm b a) = s := by
    rw [State.setArm, State.arm, BayRecord.setArmRecord_armRecord, State.setBay_bay]
  unfold State.faultArm State.armActive
  cases hx : s.arm b a with
  | free =>
    rw [hx] at same
    rw [State.faultedTable_eq_self (by simp), show ArmRecord.free.faulted = .free from rfl, same]
    rfl
  | orphan o =>
    rw [State.faultedTable_eq_self (by simp), State.updOrphan_of_orphan hx]
    obtain ⟨ref, index, product, planned, capacity, state, deadline, acc⟩ := o
    cases state <;> rfl
  | compartment i k =>
    rw [hx] at same
    rw [show (ArmRecord.compartment i k).faulted = .compartment i k from rfl, same]
    dsimp only
    have calm : (∀ d c, s.slot i = some d → c ∈ d.comps → c.index = k → c.faulted (s.elapsed + 30000000) = c) →
        s.faultedTable (.compartment i k) = s.dispatch := fun h => by
      refine State.faultedTable_eq_self fun j d c hd hc hj => ?_
      obtain ⟨rfl, rfl⟩ := ArmRecord.compartment.inj hj
      exact h d c hd hc rfl
    cases hd : s.slot i with
    | none =>
      rw [calm (by simp [hd]), show s.comp i k = none by rw [State.comp, hd]]
      rfl
    | some d =>
      rw [State.comp_of_some hd]
      cases hc : d.comp k with
      | none =>
        have absent : ∀ c ∈ d.comps, c.index ≠ k := fun c hm => by simpa using List.find?_eq_none.1 hc c hm
        rw [calm fun e c he hm hk => by cases hd.symm.trans he; exact absurd hk (absent c hm)]
        rfl
      | some c =>
        have flagged : ∀ {g}, g c = c.faulted (s.elapsed + 30000000) →
            s.updComp i k g = { s with dispatch := s.faultedTable (.compartment i k) } :=
          State.updComp_faulted hu hd hc
        have inert : c.faulted (s.elapsed + 30000000) = c → s.faultedTable (.compartment i k) = s.dispatch :=
          fun h => congrArg State.dispatch ((flagged (g := id) h.symm).symm.trans (s.updComp_id i k))
        simp only [Option.any_some]
        cases hs : c.state with
        | permitted | flowing =>
          dsimp only
          rw [State.updComp_updComp, flagged]
          · rfl
          · simp [Compartment.faulted, hs, Acc.withFault]
            rfl
          · exact fun _ => rfl
        | stopping | interrupted =>
          dsimp only
          rw [flagged]
          · rfl
          · simp [Compartment.faulted, hs, Acc.withFault]
        | planned | done | void =>
          dsimp only
          rw [inert (by simp [Compartment.faulted, hs])]
          rfl

/-- A FAULT that is granted to the arm of a bay that can be told, part by part. -/
theorem State.faultArm_told {s : State} {b : BayNo} (hu : s.indicesDiffer) (hp : s.polled b = true)
    (hl : (s.bay b).link ≠ .silent) (a : Arm) : s.faultArm b a = { s with
      bays := s.bays.set b.val { (s.bay b).setArmRecord a (s.arm b a).faulted with
        outbox := if s.armActive b a then stopQueued a (s.bay b).outbox else (s.bay b).outbox } b.isLt
      dispatch := s.faultedTable (s.arm b a) } := by
  generalize ht : { s.setArm b a (s.arm b a).faulted with dispatch := s.faultedTable (s.arm b a) } = t
  have record : t.bay b = (s.bay b).setArmRecord a (s.arm b a).faulted := by
    subst ht
    exact State.bay_setBay_self ..
  have told : t.stopIf (s.armActive b a) b a = t.setBay b { t.bay b with
      outbox := if s.armActive b a then stopQueued a (t.bay b).outbox else (t.bay b).outbox } :=
    State.stopIf_told (by subst ht; exact hp) (by rwa [record, BayRecord.setArmRecord_link]) _ a
  rw [State.faultArm_eq hu, ht, told, record, BayRecord.setArmRecord_outbox]
  subst ht
  simp only [State.setBay, State.setArm, Vector.set_set]

theorem Delivery.comp_map {d : Delivery} {f : Compartment → Compartment} (hf : ∀ c, (f c).index = c.index) (k : Nat) :
    Delivery.comp { d with comps := d.comps.map f } k = (d.comp k).map f := by
  unfold Delivery.comp
  rw [List.find?_map]
  exact congrArg (fun p => (d.comps.find? p).map f) (funext fun c => by simp [hf])

section

variable {s t : State} {x : ArmRecord}

theorem State.slot_faultedTable (h : t.dispatch = s.faultedTable x) (i : SlotNo) : t.slot i = (s.slot i).map fun d =>
    { d with comps := d.comps.map fun c =>
      if x = .compartment i c.index then c.faulted (s.elapsed + 30000000) else c } := by
  rw [State.slot, h, State.faultedTable, get_ofFn]

theorem Compartment.ite_faulted_index (p : Prop) [Decidable p] (n : Nat) (c : Compartment) :
    (if p then c.faulted n else c).index = c.index := by
  split
  · exact c.faulted_index n
  · rfl

theorem State.indicesDiffer.faulted (hu : s.indicesDiffer) (h : t.dispatch = s.faultedTable x) : t.indicesDiffer := by
  intro i e he
  rw [State.slot_faultedTable h] at he
  obtain ⟨d, hd, rfl⟩ := Option.map_eq_some_iff.1 he
  refine (congrArg List.Nodup ?_).mpr (hu i d hd)
  rw [List.map_map]
  exact List.map_congr_left fun c _ => Compartment.ite_faulted_index ..

/-- A FAULT of one arm leaves the other active or not, as it was. -/
theorem State.armActive_faulted {b : BayNo} {a : Arm} (h : t.dispatch = s.faultedTable x)
    (ha : t.arm b a = s.arm b a) : t.armActive b a = s.armActive b a := by
  unfold State.armActive
  rw [ha]
  cases s.arm b a with
  | free => rfl
  | orphan o => rfl
  | compartment i k =>
    have active : ∀ (c : Compartment) (p : Prop) [Decidable p] n, ((if p then c.faulted n else c).state == .permitted
        || (if p then c.faulted n else c).state == .flowing || (if p then c.faulted n else c).state == .stopping) =
        (c.state == .permitted || c.state == .flowing || c.state == .stopping) := by
      intro c p _ n
      split
      · unfold Compartment.faulted
        cases hs : c.state <;> simp [hs]
      · rfl
    simp only [State.comp, State.slot_faultedTable h]
    cases hd : s.slot i with
    | none => rfl
    | some d =>
      simp only [Option.map_some]
      rw [Delivery.comp_map fun c => Compartment.ite_faulted_index ..]
      cases d.comp k with
      | none => rfl
      | some c => exact active c _ _

end

theorem Compartment.faulted_faulted (n : Nat) (c : Compartment) : (c.faulted n).faulted n = c.faulted n := by
  unfold Compartment.faulted
  cases hs : c.state <;> simp [hs]

/-- A granted FAULT, part by part. -/
theorem State.faultArms_eq {s : State} {b : BayNo} {r : BayRecord} (hu : s.indicesDiffer) (hp : s.polled b = true)
    (hr : s.bay b = r) (hl : r.link ≠ .silent) {box : List Message}
    (hbox : box = if s.armActive b .A then stopQueued .A r.outbox else r.outbox) :
    ∃ t, (s.faultArm b .A).faultArm b .B = t
      ∧ t = { s with
        dispatch := t.dispatch
        bays := s.bays.set b.val { r with
          armA := r.armA.faulted
          armB := r.armB.faulted
          outbox := if s.armActive b .B then stopQueued .B box else box } b.isLt }
      ∧ ∀ i, t.slot i = (s.slot i).map fun d => { d with
        comps := d.comps.map fun c =>
          if r.armA = .compartment i c.index ∨ r.armB = .compartment i c.index then c.faulted (s.elapsed + 30000000)
          else c } := by
  subst hr
  have first := State.faultArm_told hu hp hl .A
  rw [← hbox] at first
  generalize s.faultArm b .A = t at first
  have table : t.dispatch = s.faultedTable (s.arm b .A) := by rw [first]
  have record : t.bay b = { s.bay b with armA := (s.bay b).armA.faulted, outbox := box } := by
    rw [first]
    exact State.bay_setBay_self ..
  have other : t.arm b .B = s.arm b .B := by
    rw [State.arm, record]
    rfl
  have second := State.faultArm_told (s := t) (hu.faulted table) (by rw [first]; exact hp)
    (by rw [record]; exact hl) .B
  rw [State.armActive_faulted table other, other, record] at second
  refine ⟨_, rfl, ?_, fun i => ?_⟩
  · rw [second, first]
    simp only [Vector.set_set]
    rfl
  · have slots := State.slot_faultedTable (s := t) (t := t.faultArm b .B) (x := s.arm b .B) (by rw [second]) i
    have elapsed : t.elapsed = s.elapsed := by rw [first]
    rw [slots, State.slot_faultedTable table, Option.map_map, elapsed]
    refine congrArg (fun f => Option.map f (s.slot i)) (funext fun d => ?_)
    refine congrArg (fun cs => { d with comps := cs }) ((List.map_map ..).trans (List.map_congr_left fun c _ => ?_))
    simp only [Function.comp_apply, Compartment.ite_faulted_index]
    by_cases hA : (s.bay b).armA = .compartment i c.index
    · rw [if_pos (show s.arm b .A = _ from hA), if_pos (Or.inl hA)]
      split
      · exact c.faulted_faulted _
      · rfl
    · rw [if_neg (show ¬ s.arm b .A = _ from hA)]
      exact if_congr (or_iff_right hA).symm rfl rfl

theorem State.takeFault_owned {s : State} {b : BayNo} {i : SlotNo} {d : Delivery} (hb : (s.bay b).bound = some i)
    (hd : s.slot i = some d) (ho : s.owned d = true) (code : Nat) :
    s.takeFault b code = s.deny b .fault none .owned := by
  rw [State.takeFault, hb]
  dsimp only
  rw [hd]
  exact if_pos ho

theorem State.takeFault_granted {s : State} {b : BayNo}
    (h : ∀ i d, (s.bay b).bound = some i → s.slot i = some d → s.owned d = false) (code : Nat) :
    s.takeFault b code = s.grantFault b code := by
  unfold State.takeFault
  split
  · rfl
  · rename_i i hb
    split
    · rfl
    · rename_i d hd
      exact if_neg (by simp [h i d hb hd])

/-- Settles O34: the request is taken in the state that has heard it; where it is granted, each arm gets its part. -/
theorem faultsStopTheArms : Obligations.FaultsStopTheArms := by
  rintro s u v sent r code hex hpolled hlink h1 h4 rfl rfl hv
  have taken : exec (.answerReceived (answerWords v.bay (.fault code))) s =
      .next (((s.heard v sent).takeFault v.bay code).exchangeOver v) := by
    rw [exec_answerReceived hex hlink (decodeAnswer_fault _ h1 h4), State.takeAnswer, State.bay_heard,
      if_pos (State.takes_finish hv)]
  simp only [taken, Host.Outcome.next.injEq]
  refine ⟨fun i d hb hd ho => ?_, fun ho hu box hbox => ?_⟩
  · have bound : ((s.heard v sent).bay v.bay).bound = some i := by rwa [State.bay_heard]
    rw [State.takeFault_owned (s := s.heard v sent) bound hd ho, State.exchangeOver_denied hpolled]
  · have granted : (s.heard v sent).takeFault v.bay code = (s.heard v sent).grantFault v.bay code :=
      State.takeFault_granted (s := s.heard v sent) (b := v.bay) (fun i d hb hd =>
        ho i d (by rwa [State.bay_heard] at hb) hd) code
    have active : ∀ a, (s.heard v sent).armActive v.bay a = s.armActive v.bay a := fun a => by
      unfold State.armActive
      rw [State.arm_heard]
      rfl
    have named : (s.heard v sent).boundRef v.bay = s.boundRef v.bay := State.boundRef_setBay rfl
    obtain ⟨t, ht, parts, slots⟩ := State.faultArms_eq (s := s.heard v sent) hu hpolled State.bay_heard nofun
      (hbox.trans (by rw [active]))
    rw [active] at parts
    have offered := State.offer_as s (t := t) (s.boundRef v.bay) 0 (.bayFault v.bay code
      ((s.bay v.bay).heard sent).armA.cond ((s.bay v.bay).heard sent).armB.cond)
      (by rw [parts]; rfl) (by rw [parts]; rfl) (by rw [parts]; rfl) (by rw [parts]; rfl)
    generalize hlog : (s.offer (s.boundRef v.bay) 0 (.bayFault v.bay code ((s.bay v.bay).heard sent).armA.cond
      ((s.bay v.bay).heard sent).armB.cond)).log = log at offered
    have judged := State.exchangeOver_queueVerdict (v := v) (s := { t with log := log })
      (by rw [parts]; exact hpolled) (by
        rw [parts]
        exact fun h => nomatch (congrArg BayRecord.link (State.bay_setBay_self ..)).symm.trans h) .fault none none
    refine ⟨{ t with log := log }, ?_, ?_, slots⟩
    · rw [granted, State.grantFault, ht, State.bay_heard, named, offered]
      exact judged
    · exact congrArg (fun x : State => { x with log := log }) parts

end Sys2Proof.Machine

namespace Sys2Proof.Machine

/-! ### The reaching of DONE (R96, R103, R127, R128) -/

theorem Delivery.withComp_withComp (d : Delivery) (k : Nat) (c y : Compartment) (h : c.index = k) :
    (d.withComp k c).withComp k y = d.withComp k y := by
  refine congrArg (fun cs => { d with comps := cs }) ?_
  rw [Delivery.withComp, List.map_map]
  refine List.map_congr_left fun z _ => ?_
  by_cases hz : z.index = k <;> simp [hz, h]

/-- A paper rebuilt: its next version, the readouts of its compartments taken, and its entry offered (R126, R128). -/
theorem State.rebuild_eq {s : State} {i : SlotNo} {d : Delivery} {p : Paper} (hd : s.slot i = some d)
    (hp : d.paper = some p) : s.rebuild i = { s with
      dispatch := s.dispatch.set i.val (some { d.withReadouts with paper := some (s.nextVersion d p) }) i.isLt
      log := (s.offer d.ref (d.driver.getD 0) (.paper p.number (p.version + 1) (s.nextVersion d p).provisional
        (s.nextVersion d p).lines.length ((s.nextVersion d p).lines.map PaperLine.net).sum
        ((s.nextVersion d p).lines.map PaperLine.gross).sum)).log } := by
  simp only [State.rebuild, hd, hp, State.issuePaper, Delivery.paperReadouts_eq]
  exact State.offer_as s (t := s.setSlot i (some { d.withReadouts with paper := some (s.nextVersion d p) })) ..

theorem State.rebuild_absent {s : State} {i : SlotNo} {d : Delivery} (hd : s.slot i = some d) (hp : d.paper = none) :
    s.rebuild i = s := by
  simp only [State.rebuild, hd, hp]

/-- The arm of a compartment that has ended is free, and its COMPARTMENT entry is offered (R96). -/
def State.loggedEnd (s : State) (i : SlotNo) (d : Delivery) (c : Compartment) (b : BayNo) (a : Arm) : State :=
  { s with
    dispatch := s.dispatch.set i.val (some (d.withComp c.index c.ended)) i.isLt
    bays := s.bays.set b.val ((s.bay b).setArmRecord a .free) b.isLt
    log := (s.offer d.ref 0 (.compartment b a c.index c.product c.ended.state c.acc.net c.acc.gross c.acc.average
      c.ended.acc.flags)).log }

/-- The reaching of DONE in two parts: the end of the compartment, and the rebuilding of the paper of a LOADED or HELD
delivery that has one. -/
theorem State.doneAt_eq (s : State) (i : SlotNo) (d : Delivery) (c : Compartment) (b : BayNo) (a : Arm) :
    s.doneAt i d c b a = if d.state = .loaded ∨ d.state = .held then (s.loggedEnd i d c b a).rebuild i
      else s.loggedEnd i d c b a := by
  have slot : (s.loggedEnd i d c b a).slot i = some (d.withComp c.index c.ended) := State.slot_setSlot_self ..
  unfold State.doneAt
  dsimp only
  by_cases hs : d.state = .loaded ∨ d.state = .held
  · rw [if_pos hs, if_pos hs]
    cases hp : d.paper with
    | none => exact (State.rebuild_absent slot hp).symm
    | some p =>
      rw [State.rebuild_eq slot (p := p) hp]
      dsimp only
      have logged := fun x => State.offer_log_congr (s := s.offer d.ref 0 (.compartment b a c.index c.product
        c.ended.state c.acc.net c.acc.gross c.acc.average c.ended.acc.flags)) (t := s.loggedEnd i d c b a) rfl
        (by rw [State.offer_frame]; rfl) (by rw [State.offer_frame]; rfl) (by rw [State.offer_frame]; rfl)
        d.ref (d.driver.getD 0) x
      rw [← logged]
      simp only [State.loggedEnd, Vector.set_set]
      rfl
  · rw [if_neg hs, if_neg hs]
    rfl

theorem State.reachDone_eq {s : State} {i : SlotNo} {d : Delivery} {c : Compartment} {b : BayNo} {a : Arm}
    (hd : s.slot i = some (d.withComp c.index c)) (hc : (d.withComp c.index c).comp c.index = some c)
    (harm : c.arm = some ⟨b, a⟩) : s.reachDone i c.index = s.doneAt i d c b a := by
  have ended : s.updComp i c.index (fun _ => c.ended) = s.setSlot i (some (d.withComp c.index c.ended)) := by
    rw [State.updComp_of_some hd]
    exact congrArg (fun e => s.setSlot i (some e)) (Delivery.withComp_withComp d _ _ _ rfl)
  have logged : ((s.updComp i c.index (fun _ => c.ended)).freeArm c.arm).offer d.ref 0 (.compartment b a c.index c.product
      c.ended.state c.acc.net c.acc.gross c.acc.average c.ended.acc.flags) = s.loggedEnd i d c b a := by
    rw [ended, harm]
    exact State.offer_as s ..
  rw [State.doneAt_eq, ← logged, harm]
  simp only [State.reachDone, hd, hc, harm]
  rfl

/-- The record in the slot is replaced whole when a compartment of it reaches DONE. -/
theorem State.doneAt_setSlot (s : State) (i : SlotNo) (x : Option Delivery) (d : Delivery) (c : Compartment) (b : BayNo)
    (a : Arm) : (s.setSlot i x).doneAt i d c b a = s.doneAt i d c b a := by
  have logged : (s.setSlot i x).loggedEnd i d c b a = s.loggedEnd i d c b a := by
    rw [State.loggedEnd, State.offer_as s]
    simp only [State.setSlot, Vector.set_set]
    rfl
  rw [State.doneAt_eq, State.doneAt_eq, logged]

/-- A compartment that has been changed reaches DONE at its arm. -/
theorem State.reachDone_updComp {s : State} {i : SlotNo} {d : Delivery} {c : Compartment} {b : BayNo} {a : Arm}
    {g : Compartment → Compartment} (hd : s.slot i = some d) (hc : d.comp c.index = some c)
    (hu : ∀ y ∈ d.comps, y.index = c.index → y = c) (hg : ∀ y, (g y).index = y.index)
    (harm : (g c).arm = some ⟨b, a⟩) :
    (s.updComp i c.index g).reachDone i c.index = s.doneAt i d (g c) b a := by
  have changed : d.updComp c.index g = d.withComp (g c).index (g c) := by
    rw [Delivery.updComp_eq_withComp hu, hg]
  have found : (d.withComp (g c).index (g c)).comp (g c).index = some (g c) := by
    rw [← changed, hg, Delivery.comp_updComp _ _ _ _ hg, hc]
    simp
  rw [State.updComp_of_some hd, changed, ← hg c, State.reachDone_eq (State.slot_setSlot_self ..) found harm,
    State.doneAt_setSlot]

/-- An orphan reaches DONE: its entry is offered and its arm is free (R103). -/
theorem State.clearOrphan_eq {s : State} {b : BayNo} {a : Arm} {o : Orphan} (h : s.arm b a = .orphan o) :
    s.clearOrphan b a = s.orphanDone b a o := by
  unfold State.clearOrphan
  rw [h]
  dsimp only
  rw [State.offer_frame]
  rfl

theorem State.orphanDone_setArm (s : State) (b : BayNo) (a : Arm) (x : ArmRecord) (o : Orphan) :
    (s.setArm b a x).orphanDone b a o = s.orphanDone b a o := by
  have record : (s.setArm b a x).bay b = (s.bay b).setArmRecord a x := State.bay_setBay_self ..
  rw [State.orphanDone, State.offer_as s, record, BayRecord.setArmRecord_setArmRecord]
  simp only [State.setArm, State.setBay, Vector.set_set]
  rfl

/-- An orphan that has been changed reaches DONE. -/
theorem State.clearOrphan_updOrphan {s : State} {b : BayNo} {a : Arm} {o : Orphan} (h : s.arm b a = .orphan o)
    (g : Orphan → Orphan) : (s.updOrphan b a g).clearOrphan b a = s.orphanDone b a (g o) := by
  have changed : (s.setArm b a (.orphan (g o))).arm b a = .orphan (g o) := by rw [State.arm_setArm, if_pos ⟨rfl, rfl⟩]
  rw [State.updOrphan_of_orphan h, State.clearOrphan_eq changed, State.orphanDone_setArm]

/-! ### The checks of a report (R47, R89) -/

/-- A report's increment, readout and checks, with GAP where it ends an interruption. -/
theorem Report.found_eq (q : Report) (points : List CorrPoint) (a : Acc) (planned capacity allowance : Nat)
    (interrupted : Bool) : q.found points a planned capacity allowance interrupted =
      (if interrupted then (judgeReport points a planned capacity allowance q).acc.withGap
        else (judgeReport points a planned capacity allowance q).acc,
        (judgeReport points a planned capacity allowance q).cutOff) := by
  have limited : ∀ x : Acc, decide (65535 < x.rawNet) = decide (42949345280 ≤ x.A) := fun x =>
    decide_eq_decide.2 Acc.rawNet_gt_iff
  cases interrupted with
  | true =>
    simp only [Report.found, judgeReport, Acc.afterNet, limited, Acc.withGap, if_true, Bool.or_true]
    rfl
  | false =>
    simp only [Report.found, judgeReport, Acc.afterNet, limited, Bool.or_false, Bool.false_eq_true, if_false]
    rfl

end Sys2Proof.Machine

namespace Sys2Proof.Machine

/-! ### A report for an armed compartment (R89 to R92) -/

theorem stopQueued_stopQueued (a : Arm) (box : List Message) : stopQueued a (stopQueued a box) = stopQueued a box :=
  if_pos (stop_mem_stopQueued a box)

section

variable {s : State} {b : BayNo} {q : Report} {i : SlotNo} {d : Delivery} {c : Compartment} {acc : Acc} {cut : Bool}

/-- A report for an armed compartment: the set it finds, a STOP for a cut-off, and the move. -/
theorem State.reportComp_eq {k : Nat} (hc : s.comp i k = some c) (ha : c.state.armed = true)
    (hf : (acc, cut) = q.found (s.product c.product).points c.acc c.planned c.capacity s.settings.allowance
      (c.state == .interrupted)) :
    s.reportComp b q i k = ((s.updComp i k fun y => { y with acc := acc }).stopIf cut b q.arm).moveComp b q.arm i k
      (moveOf c q cut) := by
  rw [Report.found_eq] at hf
  obtain ⟨rfl, rfl⟩ := Prod.mk.inj hf
  simp only [beq_iff_eq]
  unfold State.reportComp
  rw [hc]
  exact if_pos ha

/-- A report that does not end the loading: the compartment's set, state and deadline, and the outbox. -/
theorem State.reportComp_moved (hp : s.polled b = true) (hl : (s.bay b).link ≠ .silent) (hd : s.slot i = some d)
    (hc : d.comp c.index = some c) (hu : ∀ y ∈ d.comps, y.index = c.index → y = c) (ha : c.state.armed = true)
    (hf : (acc, cut) = q.found (s.product c.product).points c.acc c.planned c.capacity s.settings.allowance
      (c.state == .interrupted)) (hm : moveOf c q cut ≠ .finish) :
    s.reportComp b q i c.index = { s with
      bays := s.bays.set b.val { s.bay b with
        outbox := if cut = true ∨ moveOf c q cut = .reopen then stopQueued q.arm (s.bay b).outbox
          else (s.bay b).outbox } b.isLt
      dispatch := s.dispatch.set i.val
        (some (d.withComp c.index (Compartment.movedBy s (moveOf c q cut) { c with acc := acc }))) i.isLt } := by
  generalize hr : { s.bay b with outbox := if cut then stopQueued q.arm (s.bay b).outbox else (s.bay b).outbox } = r
  generalize hmove : moveOf c q cut = m at hm
  have changed : ((s.setBay b r).updComp i c.index fun y => { y with acc := acc }).updComp i c.index
      (Compartment.movedBy s m) = (s.setBay b r).setSlot i (some (d.withComp c.index
        (Compartment.movedBy s m { c with acc := acc }))) := by
    rw [State.updComp_updComp, State.updComp_of_some (s := s.setBay b r) hd, Delivery.updComp_eq_withComp hu]
    · rfl
    · exact fun _ => rfl
  have moved : ∀ f, Compartment.movedBy ((s.setBay b r).updComp i c.index f) m = Compartment.movedBy s m := fun f => by
    rw [State.updComp_frame]
    cases m <;> rfl
  rw [State.reportComp_eq ((State.comp_of_some hd _).trans hc) ha hf, State.stopIf_updComp, State.stopIf_told hp hl, hr,
    hmove, State.moveComp_eq hm, moved, changed]
  generalize some (d.withComp c.index (Compartment.movedBy s m { c with acc := acc })) = x
  by_cases hreopen : m = .reopen
  · have record : ((s.setBay b r).setSlot i x).bay b = r := State.bay_setBay_self ..
    have box : stopQueued q.arm r.outbox = stopQueued q.arm (s.bay b).outbox := by
      subst hr
      cases cut with
      | false => rfl
      | true => exact stopQueued_stopQueued ..
    rw [if_pos hreopen, if_pos (Or.inr hreopen), State.queueStop_told (s := (s.setBay b r).setSlot i x) hp
      (by rw [record, ← hr]; exact hl), record, box, ← hr]
    simp only [State.setBay, State.setSlot, Vector.set_set]
  · rw [if_neg hreopen, ← hr]
    simp only [hreopen, or_false]
    rfl

end

/-- A report that does not end the loading of `c`: it leaves the state and deadline `move`, and a STOP where the valve
of a settling compartment opens again. -/
structure Compartment.Moves (s : State) (q : Report) (c : Compartment) (cut reopened : Bool)
    (move : CompState × Option Deadline) : Prop where
  armed : c.state.armed = true
  going : moveOf c q cut ≠ .finish
  reopens : moveOf c q cut = .reopen ↔ c.state = .stopping ∧ reopened = true
  moved : ∀ acc, Compartment.movedBy s (moveOf c q cut) { c with acc := acc } =
    { c with state := move.1, deadline := move.2, acc := acc }

namespace Compartment.Moves

variable {s : State} {q : Report} {c : Compartment} {cut reopened : Bool}

theorem of_move {m : Move} {move : CompState × Option Deadline} (hm : moveOf c q cut = m) (ha : c.state.armed = true)
    (hf : m ≠ .finish) (hr : m = .reopen ↔ c.state = .stopping ∧ reopened = true)
    (hstate : ∀ acc, Compartment.movedBy s m { c with acc := acc } =
      { c with state := move.1, deadline := move.2, acc := acc }) : c.Moves s q cut reopened move :=
  ⟨ha, by rwa [hm], by rwa [hm], by rwa [hm]⟩

/-- R90, from PERMITTED. -/
theorem permitted (hs : c.state = .permitted) (hq : q.valveOpen = true ∨ q.cumulative = 0 ∨ q.settled = false) :
    c.Moves s q cut reopened (if q.valveOpen then
        if cut then (.stopping, some ⟨.stopDeadline, s.elapsed + 30000000⟩)
        else (.flowing, some ⟨.flowingLimit, s.elapsed + s.settings.flowing * 1000000⟩)
      else if q.cumulative = 0 then (.permitted, c.deadline)
      else (.stopping, some ⟨.settleInterval, s.elapsed + s.settings.settle * 1000000⟩)) := by
  have armed : c.state.armed = true := by rw [hs]; rfl
  have move : moveOf c q cut = movePermitted q cut := by rw [moveOf, hs]
  have calm : ∀ {m : Move}, m ≠ .reopen → (m = .reopen ↔ c.state = .stopping ∧ reopened = true) := fun hm =>
    iff_of_false hm (by simp [hs])
  unfold movePermitted at move
  cases hv : q.valveOpen with
  | true =>
    rw [hv] at move
    cases cut with
    | true => exact .of_move (m := .await) move armed nofun (calm nofun) fun _ => rfl
    | false => exact .of_move (m := .flow) move armed nofun (calm nofun) fun _ => rfl
  | false =>
    rw [hv] at move
    by_cases hc : q.cumulative = 0
    · rw [if_neg nofun, if_pos hc] at move ⊢
      exact .of_move move armed nofun (calm nofun) fun _ => by rw [← hs]; rfl
    · have settled : q.settled = false := by simpa [hv, hc] using hq
      rw [if_neg nofun, if_neg hc] at move ⊢
      rw [settled] at move
      exact .of_move (m := .settle) move armed nofun (calm nofun) fun _ => rfl

/-- R90, from FLOWING. -/
theorem flowing (hs : c.state = .flowing) (hq : q.valveOpen = true ∨ q.settled = false) :
    c.Moves s q cut reopened (if q.valveOpen then
        if cut then (.stopping, some ⟨.stopDeadline, s.elapsed + 30000000⟩)
        else (.flowing, c.deadline)
      else (.stopping, some ⟨.settleInterval, s.elapsed + s.settings.settle * 1000000⟩)) := by
  have armed : c.state.armed = true := by rw [hs]; rfl
  have move : moveOf c q cut = moveFlowing q cut := by rw [moveOf, hs]
  have calm : ∀ {m : Move}, m ≠ .reopen → (m = .reopen ↔ c.state = .stopping ∧ reopened = true) := fun hm =>
    iff_of_false hm (by simp [hs])
  unfold moveFlowing at move
  cases hv : q.valveOpen with
  | true =>
    rw [hv] at move
    cases cut with
    | true => exact .of_move (m := .await) move armed nofun (calm nofun) fun _ => rfl
    | false => exact .of_move (m := .keep) move armed nofun (calm nofun) fun _ => by rw [← hs]; rfl
  | false =>
    rw [hv, show q.settled = false by simpa [hv] using hq] at move
    exact .of_move (m := .settle) move armed nofun (calm nofun) fun _ => rfl

/-- R91, awaiting closure. -/
theorem awaiting (hs : c.state = .stopping) (hk : c.deadline.map Deadline.kind = some .stopDeadline)
    (hr : reopened = (decide (c.deadline.map Deadline.kind = some .settleInterval) && q.valveOpen))
    (hq : q.valveOpen = true ∨ q.settled = false) :
    c.Moves s q cut reopened (if q.valveOpen then (.stopping, c.deadline)
      else (.stopping, some ⟨.settleInterval, s.elapsed + s.settings.settle * 1000000⟩)) := by
  have armed : c.state.armed = true := by rw [hs]; rfl
  have move : moveOf c q cut = if q.valveOpen then .keep else closedMove q.settled := by
    rw [moveOf, hs]
    dsimp only
    rw [moveStopping, hk]
  have calm : ∀ {m : Move}, m ≠ .reopen → (m = .reopen ↔ c.state = .stopping ∧ reopened = true) := fun hm =>
    iff_of_false hm (by simp [hr, hk])
  cases hv : q.valveOpen with
  | true =>
    rw [hv] at move
    exact .of_move (m := .keep) move armed nofun (calm nofun) fun _ => by rw [← hs]; rfl
  | false =>
    rw [hv, show q.settled = false by simpa [hv] using hq] at move
    exact .of_move (m := .settle) move armed nofun (calm nofun) fun _ => rfl

/-- R91, settling. -/
theorem settling (hs : c.state = .stopping) (hk : c.deadline.map Deadline.kind = some .settleInterval)
    (hr : reopened = (decide (c.deadline.map Deadline.kind = some .settleInterval) && q.valveOpen))
    (hq : q.valveOpen = true ∨ q.settled = false) :
    c.Moves s q cut reopened (if q.valveOpen then (.stopping, some ⟨.stopDeadline, s.elapsed + 30000000⟩)
      else (.stopping, c.deadline)) := by
  have armed : c.state.armed = true := by rw [hs]; rfl
  have move : moveOf c q cut = if q.valveOpen then .reopen else if q.settled then .finish else .keep := by
    rw [moveOf, hs]
    dsimp only
    rw [moveStopping, hk]
  cases hv : q.valveOpen with
  | true =>
    rw [hv] at move
    exact .of_move (m := .reopen) move armed nofun (iff_of_true rfl ⟨hs, by simp [hr, hk, hv]⟩) fun _ => rfl
  | false =>
    rw [hv, show q.settled = false by simpa [hv] using hq] at move
    exact .of_move (m := .keep) move armed nofun (iff_of_false nofun (by simp [hr, hv])) fun _ => by rw [← hs]; rfl

/-- R92. -/
theorem resolved (hs : c.state = .interrupted) (hq : q.valveOpen = true ∨ q.settled = false) :
    c.Moves s q cut reopened (if q.valveOpen then (.stopping, some ⟨.stopDeadline, s.elapsed + 30000000⟩)
      else (.stopping, some ⟨.settleInterval, s.elapsed + s.settings.settle * 1000000⟩)) := by
  have armed : c.state.armed = true := by rw [hs]; rfl
  have move : moveOf c q cut = if q.valveOpen then .await else closedMove q.settled := by rw [moveOf, hs, moveResolved]
  have calm : ∀ {m : Move}, m ≠ .reopen → (m = .reopen ↔ c.state = .stopping ∧ reopened = true) := fun hm =>
    iff_of_false hm (by simp [hs])
  cases hv : q.valveOpen with
  | true =>
    rw [hv] at move
    exact .of_move (m := .await) move armed nofun (calm nofun) fun _ => rfl
  | false =>
    rw [hv, show q.settled = false by simpa [hv] using hq] at move
    exact .of_move (m := .settle) move armed nofun (calm nofun) fun _ => rfl

end Compartment.Moves

section

variable {s : State} {v : Visit} {sent : Option Message}

/-- One report of a STATUS answer is taken in the state that has heard it. -/
theorem exec_report (h : s.exchanging v sent) (hl : (s.bay v.bay).link ≠ .silent) {q : Report}
    (hq : q.wellFormed = true) : exec (.answerReceived (answerWords v.bay (.status [q]))) s =
      .next (((s.heard v sent).report v.bay q).exchangeOver v) := by
  rw [exec_answerReceived h hl (decodeAnswer_status _ (by simp) (by simpa using hq))]
  rfl

theorem State.report_compartment {q : Report} {i : SlotNo} {k : Nat}
    (h : ((s.bay v.bay).heard sent).armRecord q.arm = .compartment i k) :
    (s.heard v sent).report v.bay q = (s.heard v sent).reportComp v.bay q i k := by
  rw [State.report, State.arm, State.bay_heard, h]

end

/-- Settles O35: the report moves the compartment as the table of its state says. -/
theorem reportsMoveTheCompartment : Obligations.ReportsMoveTheCompartment := by
  rintro s u v sent r q i d c acc cut reopened move hex hpolled hlink rfl rfl hq harm hd hc hu hf hr htable
  have moves : c.Moves s q cut reopened move := by
    rcases htable with ⟨hs, hv, rfl⟩ | ⟨hs, hv, rfl⟩ | ⟨hs, hk, hv, rfl⟩ | ⟨hs, hk, hv, rfl⟩ | ⟨hs, hv, rfl⟩
    · exact .permitted hs hv
    · exact .flowing hs hv
    · exact .awaiting hs hk hr hv
    · exact .settling hs hk hr hv
    · exact .resolved hs hv
  have taken := State.reportComp_moved (s := s.heard v sent) hpolled State.link_heard hd hc hu moves.armed hf moves.going
  have moved : Compartment.movedBy (s.heard v sent) (moveOf c q cut) { c with acc := acc } =
    { c with state := move.1, deadline := move.2, acc := acc } := moves.moved acc
  rw [moved, State.bay_heard] at taken
  simp only [moves.reopens] at taken
  rw [exec_report hex hlink hq, State.report_compartment harm, taken]
  rfl

/-- A settled report with the valve closed ends the loading, from PERMITTED with a cumulative above 0 (R90 to R92). -/
theorem moveOf_finish {q : Report} {c : Compartment} (cut : Bool) (hv : q.valveOpen = false) (hs : q.settled = true)
    (h : (c.state = .permitted ∧ q.cumulative ≠ 0) ∨ c.state = .flowing ∨ c.state = .stopping
      ∨ c.state = .interrupted) : moveOf c q cut = .finish := by
  rcases h with ⟨hc, h0⟩ | hc | hc | hc
  · simp [moveOf, hc, movePermitted, hv, h0, closedMove, hs]
  · simp [moveOf, hc, moveFlowing, hv, closedMove, hs]
  · simp only [moveOf, hc, moveStopping, hv, hs, closedMove, Bool.false_eq_true, if_false, if_true]
    split <;> rfl
  · simp [moveOf, hc, moveResolved, hv, closedMove, hs]

/-- Settles O36: the compartment takes what the report finds, a STOP is queued at a cut-off, and it reaches DONE. -/
theorem settledReportsEndTheLoading : Obligations.SettledReportsEndTheLoading := by
  rintro s u v sent r q i d c acc cut hex hpolled hlink rfl rfl hq harm hat hd hc hu hf hv hs hstate
  have armed : c.state.armed = true := by
    rcases hstate with ⟨h, -⟩ | h | h | h <;> rw [h] <;> rfl
  have found : (s.heard v sent).comp i c.index = some c := (State.comp_of_some (s := s.heard v sent) hd _).trans hc
  have told := State.stopIf_told (s := s.heard v sent) hpolled State.link_heard cut q.arm
  rw [State.bay_heard] at told
  have ended := fun t (ht : t.slot i = some d) => State.reachDone_updComp (s := t) (g := fun y => { y with acc := acc }) ht hc
    hu (fun _ => rfl) hat
  rw [exec_report hex hlink hq, State.report_compartment harm, State.reportComp_eq found armed hf,
    moveOf_finish cut hv hs hstate, State.stopIf_updComp, told]
  exact congrArg (fun t : State => Host.Outcome.next (t.exchangeOver v)) (ended ((s.heard v sent).setBay v.bay _) hd)

/-! ### A report for an orphan or a free arm (R98, R102, R103) -/


/-- Where a report moves an orphan (R102). -/
def Orphan.moveOf (o : Orphan) (q : Report) : Move :=
  match o.state with
  | .interrupted => moveResolved q
  | .stopping => moveStopping q o.deadline

/-- An orphan once a report has moved it on without ending it (R102). -/
def Orphan.movedBy (s : State) (m : Move) (o : Orphan) : Orphan :=
  match m with
  | .keep | .flow | .finish => o
  | .await | .reopen => { o with state := .stopping, deadline := some s.stopDeadline }
  | .settle => { o with state := .stopping, deadline := some s.settleDeadline }

section

variable {s : State} {b : BayNo} {q : Report} {o : Orphan} {acc : Acc} {cut : Bool}

theorem State.moveOrphan_eq {a : Arm} {m : Move} (h : s.arm b a = .orphan o) (hf : m ≠ .finish) :
    s.moveOrphan b a m = State.stopIf (s.setArm b a (.orphan (o.movedBy s m))) (m == .reopen) b a := by
  have same : s.setArm b a (.orphan o) = s := by
    rw [State.setArm, ← h, State.arm, BayRecord.setArmRecord_armRecord, State.setBay_bay]
  cases m with
  | keep | flow => exact same.symm
  | await | reopen | settle => simp only [State.moveOrphan, State.updOrphan_of_orphan h]; rfl
  | finish => exact absurd rfl hf

/-- A report for an orphan: the set it finds, a STOP for a cut-off, and the move. -/
theorem State.reportOrphan_eq (h : s.arm b q.arm = .orphan o)
    (hf : (acc, cut) = q.found (s.product o.product).points o.acc o.planned o.capacity s.settings.allowance
      (o.state == .interrupted)) :
    s.reportOrphan b q o =
      ((s.setArm b q.arm (.orphan { o with acc := acc })).stopIf cut b q.arm).moveOrphan b q.arm (o.moveOf q) := by
  rw [Report.found_eq] at hf
  obtain ⟨rfl, rfl⟩ := Prod.mk.inj hf
  simp only [beq_iff_eq]
  unfold State.reportOrphan
  dsimp only
  rw [State.updOrphan_of_orphan h]
  rfl

theorem BayRecord.setArmRecord_withBox (r : BayRecord) (a : Arm) (x y : ArmRecord) (box : List Message) :
    BayRecord.setArmRecord { r.setArmRecord a x with outbox := box } a y = { r.setArmRecord a y with outbox := box } := by
  cases a <;> rfl

/-- An arm record written and a STOP queued at a bay that can be told. -/
theorem State.stopIf_setArm (hp : s.polled b = true) (hl : (s.bay b).link ≠ .silent) (a : Arm) (x : ArmRecord)
    (y : Bool) : (s.setArm b a x).stopIf y b a = s.setBay b { (s.bay b).setArmRecord a x with
      outbox := if y then stopQueued a (s.bay b).outbox else (s.bay b).outbox } := by
  have record : (s.setArm b a x).bay b = (s.bay b).setArmRecord a x := State.bay_setBay_self ..
  rw [State.stopIf_told (s := s.setArm b a x) hp (by rwa [record, BayRecord.setArmRecord_link]), record,
    BayRecord.setArmRecord_outbox, State.setArm, State.setBay_setBay]

/-- A report that does not end an orphan: its set, state and deadline, and the outbox. -/
theorem State.reportOrphan_moved (hp : s.polled b = true) (hl : (s.bay b).link ≠ .silent)
    (h : s.arm b q.arm = .orphan o)
    (hf : (acc, cut) = q.found (s.product o.product).points o.acc o.planned o.capacity s.settings.allowance
      (o.state == .interrupted)) (hm : o.moveOf q ≠ .finish) :
    s.reportOrphan b q o = { s with
      bays := s.bays.set b.val
        { (s.bay b).setArmRecord q.arm (.orphan (Orphan.movedBy s (o.moveOf q) { o with acc := acc })) with
          outbox := if cut = true ∨ o.moveOf q = .reopen then stopQueued q.arm (s.bay b).outbox
            else (s.bay b).outbox } b.isLt } := by
  generalize hr : { (s.bay b).setArmRecord q.arm (.orphan { o with acc := acc }) with
    outbox := if cut then stopQueued q.arm (s.bay b).outbox else (s.bay b).outbox } = r
  have record : (s.setBay b r).bay b = r := State.bay_setBay_self ..
  have held : (s.setBay b r).arm b q.arm = .orphan { o with acc := acc } := by
    rw [State.arm, record, ← hr]
    exact BayRecord.armRecord_setArmRecord_self (s.bay b) q.arm _
  have link : r.link ≠ .silent := by
    rw [← hr]
    exact fun hs => hl ((BayRecord.setArmRecord_link ..).symm.trans hs)
  have box : (if o.moveOf q == .reopen then stopQueued q.arm r.outbox else r.outbox) =
      if cut = true ∨ o.moveOf q = .reopen then stopQueued q.arm (s.bay b).outbox else (s.bay b).outbox := by
    rw [← hr]
    cases cut with
    | false => simp
    | true => simp [stopQueued_stopQueued]
  rw [State.reportOrphan_eq h hf, State.stopIf_setArm hp hl, hr, State.moveOrphan_eq held hm,
    State.stopIf_setArm (s := s.setBay b r) hp (by rwa [record]), record, box, State.setBay_setBay, ← hr,
    BayRecord.setArmRecord_withBox]
  rfl

/-- A report that ends an orphan. -/
theorem State.reportOrphan_ended (hp : s.polled b = true) (hl : (s.bay b).link ≠ .silent)
    (h : s.arm b q.arm = .orphan o)
    (hf : (acc, cut) = q.found (s.product o.product).points o.acc o.planned o.capacity s.settings.allowance
      (o.state == .interrupted)) (hm : o.moveOf q = .finish) :
    s.reportOrphan b q o = (s.setBay b { s.bay b with
      outbox := if cut then stopQueued q.arm (s.bay b).outbox else (s.bay b).outbox }).orphanDone b q.arm
        { o with acc := acc } := by
  have written : s.setBay b { (s.bay b).setArmRecord q.arm (.orphan { o with acc := acc }) with
      outbox := if cut then stopQueued q.arm (s.bay b).outbox else (s.bay b).outbox } =
      (s.setBay b { s.bay b with
        outbox := if cut then stopQueued q.arm (s.bay b).outbox else (s.bay b).outbox }).setArm b q.arm
          (.orphan { o with acc := acc }) := by
    rw [State.setArm, State.bay_setBay_self, State.setBay_setBay]
    cases q.arm <;> rfl
  have held : ∀ t : State, (t.setArm b q.arm (.orphan { o with acc := acc })).arm b q.arm = .orphan { o with acc := acc } :=
    fun t => by rw [State.arm_setArm, if_pos ⟨rfl, rfl⟩]
  rw [State.reportOrphan_eq h hf, hm, State.stopIf_setArm hp hl, written]
  exact (State.clearOrphan_eq (held _)).trans (State.orphanDone_setArm ..)

end

/-- An orphan settles: it is STOPPING with its settle interval running (R91, R102). -/
def Orphan.settling (o : Orphan) : Bool :=
  decide (o.state = .stopping) && decide (o.deadline.map Deadline.kind = some .settleInterval)

theorem Orphan.moveOf_interrupted {o : Orphan} (h : o.state = .interrupted) (q : Report) :
    o.moveOf q = if q.valveOpen then .await else closedMove q.settled := by rw [Orphan.moveOf, h]; rfl

theorem Orphan.moveOf_settling {o : Orphan} (h : o.settling = true) (q : Report) :
    o.moveOf q = if q.valveOpen then .reopen else if q.settled then .finish else .keep := by
  obtain ⟨hs, hk⟩ : o.state = .stopping ∧ o.deadline.map Deadline.kind = some .settleInterval := by
    simpa [Orphan.settling] using h
  rw [Orphan.moveOf, hs]
  dsimp only
  rw [moveStopping, hk]

theorem Orphan.moveOf_awaiting {o : Orphan} (hs : o.state = .stopping) (h : o.settling = false) (q : Report) :
    o.moveOf q = if q.valveOpen then .keep else closedMove q.settled := by
  have hk : o.deadline.map Deadline.kind ≠ some .settleInterval := by simpa [Orphan.settling, hs] using h
  rw [Orphan.moveOf, hs]
  dsimp only
  rw [moveStopping]
  split
  · exact absurd ‹_› hk
  · rfl

/-- An orphan is INTERRUPTED, settles, or awaits closure. -/
theorem Orphan.conditions (o : Orphan) : (o.state = .interrupted ∧ o.settling = false)
    ∨ (o.state = .stopping ∧ o.settling = true) ∨ (o.state = .stopping ∧ o.settling = false) := by
  cases h : o.state with
  | interrupted => exact .inl ⟨rfl, by simp [Orphan.settling, h]⟩
  | stopping => cases o.settling <;> simp

theorem Orphan.moveOf_finish {q : Report} (o : Orphan) (hv : q.valveOpen = false) (hs : q.settled = true) :
    o.moveOf q = .finish := by
  rcases o.conditions with ⟨ho, -⟩ | ⟨-, ho⟩ | ⟨ho, hn⟩
  · rw [Orphan.moveOf_interrupted ho, hv, hs]
    rfl
  · rw [Orphan.moveOf_settling ho, hv, hs]
    rfl
  · rw [Orphan.moveOf_awaiting ho hn, hv, hs]
    rfl

/-- Where a report leaves an orphan that it does not end (R91, R92, R102). -/
theorem Orphan.moveOf_going {s : State} {q : Report} {o : Orphan} (hq : q.valveOpen = true ∨ q.settled = false) :
    o.moveOf q ≠ .finish ∧ (o.moveOf q = .reopen ↔ o.settling = true ∧ q.valveOpen = true)
      ∧ ∀ acc, Orphan.movedBy s (o.moveOf q) { o with acc := acc } =
        { o with
          state := .stopping
          deadline := if q.valveOpen then
              if o.state = .stopping ∧ o.settling = false then o.deadline
              else some ⟨.stopDeadline, s.elapsed + 30000000⟩
            else if o.settling then o.deadline
            else some ⟨.settleInterval, s.elapsed + s.settings.settle * 1000000⟩
          acc := acc } := by
  rcases o.conditions with ⟨ho, hn⟩ | ⟨ho, hn⟩ | ⟨ho, hn⟩
  · rw [Orphan.moveOf_interrupted ho]
    cases hv : q.valveOpen with
    | true => exact ⟨nofun, by simp [hn], fun acc => by simp [ho, Orphan.movedBy]; rfl⟩
    | false =>
      have hs : q.settled = false := by simpa [hv] using hq
      exact ⟨by simp [hs, closedMove], by simp [hs, closedMove], fun acc => by simp [hn, hs, closedMove, Orphan.movedBy]; rfl⟩
  · rw [Orphan.moveOf_settling hn]
    cases hv : q.valveOpen with
    | true => exact ⟨nofun, by simp [hn], fun acc => by simp [hn, Orphan.movedBy]; rfl⟩
    | false =>
      have hs : q.settled = false := by simpa [hv] using hq
      exact ⟨by simp [hs], by simp [hs], fun acc => by simp [hn, hs, Orphan.movedBy, ho]⟩
  · rw [Orphan.moveOf_awaiting ho hn]
    cases hv : q.valveOpen with
    | true => exact ⟨nofun, by simp [hn], fun acc => by simp [hn, ho, Orphan.movedBy]⟩
    | false =>
      have hs : q.settled = false := by simpa [hv] using hq
      exact ⟨by simp [hs, closedMove], by simp [hs, closedMove], fun acc => by simp [hn, hs, closedMove, Orphan.movedBy]; rfl⟩

/-- Flow at an arm that holds nothing: an UNPERMITTED entry and a STOP (R98). -/
theorem State.reportFree_flow {s : State} {b : BayNo} {q : Report} (hp : s.polled b = true)
    (hl : (s.bay b).link ≠ .silent) (h : q.valveOpen = true ∨ 0 < q.cumulative) : s.reportFree b q = { s with
      bays := s.bays.set b.val { s.bay b with outbox := stopQueued q.arm (s.bay b).outbox } b.isLt
      log := (s.offer (s.boundRef b) 0 (.unpermitted b q.arm q.cumulative (clampTemp q.temp) q.valveOpen)).log } := by
  have flow : (q.valveOpen || decide (0 < q.cumulative)) = true := by simpa using h
  generalize hx : Payload.unpermitted b q.arm q.cumulative (clampTemp q.temp) q.valveOpen = x
  have told := State.queueStop_told (s := { s with log := (s.offer (s.boundRef b) 0 x).log }) hp hl q.arm
  rw [State.reportFree, if_pos flow, hx, State.offer_frame, told]
  rfl

theorem State.reportFree_quiet {s : State} {q : Report} (hv : q.valveOpen = false) (hc : q.cumulative = 0) (b : BayNo) :
    s.reportFree b q = s := by
  simp [State.reportFree, hv, hc]

/-- Settles O37: the report is taken in the state that has heard it, for an orphan as for an armed compartment. -/
theorem reportsReachOrphansAndFreeArms : Obligations.ReportsReachOrphansAndFreeArms := by
  rintro s u v sent r q hex hpolled hlink rfl rfl hq
  rw [exec_report hex hlink hq]
  simp only [Host.Outcome.next.injEq]
  have bay := State.bay_heard (s := s) (v := v) (sent := sent)
  refine ⟨fun o acc cut settling box deadline harm hf hset hbox => ?_, fun harm => ?_⟩
  · obtain rfl : settling = o.settling := hset
    have held : (s.heard v sent).arm v.bay q.arm = .orphan o := by rw [State.arm, bay, harm]
    have taken : (s.heard v sent).report v.bay q = (s.heard v sent).reportOrphan v.bay q o := by rw [State.report, held]
    rw [taken]
    refine ⟨fun hv hs => ?_, fun hgo hdl => ?_⟩
    · have ended := State.reportOrphan_ended (s := s.heard v sent) hpolled State.link_heard held hf (o.moveOf_finish hv hs)
      have same : box = if cut then stopQueued q.arm ((s.bay v.bay).heard sent).outbox
          else ((s.bay v.bay).heard sent).outbox := by simpa [hv] using hbox
      rw [ended, bay, ← same]
      rfl
    · obtain ⟨hm, hreopen, hmoved⟩ := Orphan.moveOf_going (s := s.heard v sent) (o := o) hgo
      have moved := State.reportOrphan_moved (s := s.heard v sent) hpolled State.link_heard held hf hm
      simp only [hreopen] at moved
      rw [moved, bay, hmoved, hbox, hdl]
      rfl
  · have held : (s.heard v sent).arm v.bay q.arm = .free := by rw [State.arm, bay, harm]
    have taken : (s.heard v sent).report v.bay q = (s.heard v sent).reportFree v.bay q := by rw [State.report, held]
    have named : (s.heard v sent).boundRef v.bay = s.boundRef v.bay := State.boundRef_setBay rfl
    rw [taken]
    refine ⟨fun h => ?_, fun hv hc => ?_⟩
    · rw [State.reportFree_flow (s := s.heard v sent) hpolled State.link_heard h, named, State.offer_heard, bay]
      rfl
    · rw [State.reportFree_quiet hv hc]

end Sys2Proof.Machine

namespace Sys2Proof.Machine

/-! ### A latch event (R99, R100) -/

theorem Compartment.underLatch_eq (s : State) (c : Compartment) :
    c.underLatch s.stopDeadline = c.atLatch (s.elapsed + 30000000) := by
  unfold Compartment.underLatch Compartment.atLatch
  cases hs : c.state <;> rfl

/-- The arm of a bay at which a compartment stands. -/
def Compartment.armAt (b : BayNo) (c : Compartment) : Option Arm :=
  c.arm.bind fun x => if x.bay = b then some x.arm else none

theorem State.armsStopped_eq (s : State) (b : BayNo) :
    s.armsStopped b = s.latchTargets.filterMap (Compartment.armAt b) := by
  unfold State.armsStopped State.latchTargets
  rw [List.filterMap_flatMap]
  refine congrArg (List.flatMap · (List.finRange 16)) (funext fun i => ?_)
  cases s.slot i with
  | none => rfl
  | some d =>
    dsimp only
    rw [List.filterMap_filter]
    refine congrArg (fun f => List.filterMap f d.comps) (funext fun c => ?_)
    unfold Compartment.armAt
    cases c.arm with
    | none => simp
    | some x => by_cases hb : x.bay = b <;> simp [hb]

theorem State.latchTargets_length (s : State) : s.latchTargets.length = s.flows := by
  unfold State.latchTargets State.flows
  rw [List.length_flatMap]
  refine congrArg (fun f => (List.map f (List.finRange 16)).sum) (funext fun i => ?_)
  cases s.slot i with
  | none => rfl
  | some d => exact List.countP_eq_length_filter.symm

theorem State.latchArm_frame (s : State) (c : Compartment) : s.latchArm c = { s with bays := (s.latchArm c).bays } := by
  unfold State.latchArm
  cases c.arm with
  | none => rfl
  | some x =>
    dsimp only
    rw [State.queueStop_frame]
    split <;> rfl

theorem State.latchArms_frame (cs : List Compartment) (s : State) :
    cs.foldl State.latchArm s = { s with bays := (cs.foldl State.latchArm s).bays } := by
  induction cs generalizing s with
  | nil => rfl
  | cons c cs ih =>
    rw [List.foldl_cons, ih, State.latchArm_frame]

/-- The bay's part of a moved compartment: an arm record, and a STOP at a bay that can be told. -/
theorem State.bay_latchArm (s : State) (c : Compartment) (b : BayNo) : ∃ x y, (s.latchArm c).bay b = { s.bay b with
    armA := x
    armB := y
    outbox := if s.polled b = true ∧ (s.bay b).link ≠ .silent then
        (c.armAt b).toList.foldl (fun box a => stopQueued a box) (s.bay b).outbox
      else (s.bay b).outbox } := by
  unfold State.latchArm Compartment.armAt
  cases c.arm with
  | none => exact ⟨_, _, by simp; rfl⟩
  | some y =>
    dsimp only
    generalize hf : (if c.state = .permitted then s.setArm y.bay y.arm .free else s) = freed
    have polled : freed.settings = s.settings := by
      rw [← hf]
      split <;> rfl
    obtain ⟨x, z, record⟩ : ∃ x z, freed.bay b = { s.bay b with armA := x, armB := z } := by
      rw [← hf]
      split
      · rw [State.bay_setArm]
        split
        · rename_i hb
          subst hb
          cases y.arm
          · exact ⟨.free, _, rfl⟩
          · exact ⟨_, .free, rfl⟩
        · exact ⟨_, _, rfl⟩
      · exact ⟨_, _, rfl⟩
    refine ⟨x, z, ?_⟩
    rw [State.queueStop, State.bay_enqueue, State.polled, polled, record]
    by_cases hb : b = y.bay
    · subst hb
      simp only [record, true_and, Option.bind_some, if_true, Option.toList_some, List.foldl_cons, List.foldl_nil,
        withStop_eq]
      rfl
    · simp [hb, Ne.symm hb]

/-- What a latch event makes of a bay: its arm records, and its outbox, with a STOP for each arm concerned where the bay
can be told. -/
theorem State.bay_latchArms (b : BayNo) (cs : List Compartment) (s : State) : ∃ x y,
    (cs.foldl State.latchArm s).bay b = { s.bay b with
      armA := x
      armB := y
      outbox := if s.polled b = true ∧ (s.bay b).link ≠ .silent then
          (cs.filterMap (Compartment.armAt b)).foldl (fun box a => stopQueued a box) (s.bay b).outbox
        else (s.bay b).outbox } := by
  induction cs generalizing s with
  | nil => exact ⟨_, _, by simp; rfl⟩
  | cons c cs ih =>
    obtain ⟨x, y, step⟩ := s.bay_latchArm c b
    obtain ⟨x', y', rest⟩ := ih (s.latchArm c)
    have polled : (s.latchArm c).polled b = s.polled b := by rw [State.latchArm_frame]; rfl
    refine ⟨x', y', ?_⟩
    rw [List.foldl_cons, rest, polled, step]
    by_cases told : s.polled b = true ∧ (s.bay b).link ≠ .silent
    · simp only [told, ne_eq, not_false_eq_true, and_self, if_true, List.filterMap_cons]
      cases c.armAt b <;> rfl
    · simp only [told, if_false]

theorem State.latchEvent_stoppedBy (s : State) : s.stoppedBy s.latchEvent := by
  have bay : ∀ b, ∃ x y, s.latchEvent.bay b = _ := fun b => State.bay_latchArms b s.latchTargets s.latchMoved
  have targets : ∀ b a, (∃ c ∈ s.latchTargets, c.state = .permitted ∧ c.arm = some ⟨b, a⟩) ↔
      ∃ i d c, s.slot i = some d ∧ c ∈ d.comps ∧ c.arm = some ⟨b, a⟩ ∧ c.state = .permitted := fun b a => by
    simp only [State.mem_latchTargets]
    constructor
    · rintro ⟨c, ⟨i, d, hd, hc, -⟩, hs, ha⟩
      exact ⟨i, d, c, hd, hc, ha, hs⟩
    · rintro ⟨i, d, c, hd, hc, ha, hs⟩
      exact ⟨c, ⟨i, d, hd, hc, .inl hs⟩, hs, ha⟩
  refine ⟨fun i => ?_, fun b => ?_, fun b a => ?_, fun i d c b a hd hc ha hs => ?_, fun b a hn => ?_, fun b => ?_⟩
  · rw [State.slot_latchEvent]
    exact congrArg (fun f => (s.slot i).map fun d => { d with comps := d.comps.map f }) (funext (Compartment.underLatch_eq s))
  · obtain ⟨x, y, h⟩ := bay b
    rw [h]
    rfl
  · rw [State.arm_latchEvent]
    split
    · exact .inl rfl
    · exact .inr rfl
  · rw [State.arm_latchEvent, if_pos ((targets b a).2 ⟨i, d, c, hd, hc, ha, hs⟩)]
  · rw [State.arm_latchEvent, if_neg]
    rintro h
    obtain ⟨i, d, c, hd, hc, ha, hs⟩ := (targets b a).1 h
    exact hn i d c hd hc ha hs
  · obtain ⟨x, y, h⟩ := bay b
    rw [h, State.armsStopped_eq]
    rfl

theorem State.latchEvent_frame (s : State) : s.latchEvent = { s with
    dispatch := s.latchEvent.dispatch
    bays := s.latchEvent.bays
    rack := { s.rack with latchStop := true } } := by
  rw [State.latchEvent_eq, State.latchArms_frame]
  rfl

/-! ### A cause added to the latch (R99) -/

section

variable {s : State} {c : Cause}

theorem State.addCause_held (h : s.latch.has c = true) : s.addCause c = s := if_pos h

theorem Latch.isSet_iff (l : Latch) : l.isSet = true ↔ l ≠ ⟨false, false, false, false⟩ := by
  obtain ⟨a, b, c, d⟩ := l
  revert a b c d
  decide

theorem State.addCause_joined (h : s.latch.has c = false) (hset : s.latch ≠ ⟨false, false, false, false⟩) :
    s.addCause c = { s with
      latch := s.latch.add c
      log := (s.offer 0 0 (.shutdown c (s.latch.add c) 0)).log } := by
  unfold State.addCause
  rw [if_neg (by simp [h])]
  dsimp only
  rw [if_pos ((Latch.isSet_iff _).2 hset)]
  exact State.offer_as s ..

/-- A cause added to an empty latch: a latch event, and its entry with the number moved. -/
theorem State.addCause_latched (hl : s.latch = ⟨false, false, false, false⟩) : ∃ t, s.addCause c = t
    ∧ t = { s with
      latch := s.latch.add c
      rack := { s.rack with latchStop := true }
      dispatch := t.dispatch
      bays := t.bays
      log := (s.offer 0 0 (.shutdown c (s.latch.add c) s.flows)).log }
    ∧ s.stoppedBy t := by
  have fresh : s.latch.has c = false := by
    rw [hl]
    cases c <;> rfl
  have unset : ¬ s.latch.isSet = true := by
    rw [hl]
    exact nofun
  have added : s.addCause c = (State.latchEvent { s with latch := s.latch.add c }).offer 0 0
      (.shutdown c (s.latch.add c) s.latchTargets.length) := by
    unfold State.addCause
    rw [if_neg (by simp [fresh])]
    exact if_neg unset
  have stopped : s.stoppedBy (State.latchEvent { s with latch := s.latch.add c }) :=
    State.latchEvent_stoppedBy { s with latch := s.latch.add c }
  have frame := State.latchEvent_frame { s with latch := s.latch.add c }
  generalize State.latchEvent { s with latch := s.latch.add c } = t at added stopped frame
  have offered := State.offer_as s (t := t) 0 0 (.shutdown c (s.latch.add c) s.latchTargets.length)
    (by rw [frame]) (by rw [frame]) (by rw [frame]) (by rw [frame])
  rw [added, offered, State.latchTargets_length]
  exact ⟨_, rfl, congrArg (fun u : State => { u with
    log := (s.offer 0 0 (.shutdown c (s.latch.add c) s.flows)).log }) frame, stopped⟩

end

/-! ### The expiry of a stop deadline (R95, R102) -/

theorem exec_stopDeadlineExpiry {s : State} {target : DeadlineOf} {t : Nat} (hr : s.phase = .running)
    (h : s.stoppingDeadline target = some ⟨.stopDeadline, t⟩) :
    exec (.stopDeadlineExpiry target) s = .next ((s.reach t).stopExpired target) := by
  change execStopDeadlineExpiry target s = _
  rw [execStopDeadlineExpiry, h, State.expire]
  dsimp only
  rw [if_pos ⟨hr, rfl⟩]

/-- The reaching of DONE leaves the latch and the line. -/
theorem State.doneAt_latch_rack (s : State) (i : SlotNo) (d : Delivery) (c : Compartment) (b : BayNo) (a : Arm) :
    (s.doneAt i d c b a).latch = s.latch ∧ (s.doneAt i d c b a).rack = s.rack := by
  unfold State.doneAt
  dsimp only
  split <;> exact ⟨rfl, rfl⟩

/-- The stop deadline's expiry: what it is for ends UNCLOSED, and STOP_FAILED is added. -/
theorem State.stopExpired_eq {s ended : State} {t : Nat} {target : DeadlineOf}
    (h : (∃ (i : SlotNo) (d : Delivery) (c : Compartment) (b : BayNo) (a : Arm),
      target = .compartment i c.index ∧ s.slot i = some d ∧ d.comp c.index = some c
        ∧ (∀ y ∈ d.comps, y.index = c.index → y = c) ∧ c.state = .stopping
        ∧ c.deadline = some ⟨.stopDeadline, t⟩ ∧ c.arm = some ⟨b, a⟩
        ∧ ended = State.doneAt { s with elapsed := max s.elapsed t } i d
          { c with acc := { c.acc with flags := { c.acc.flags with unclosed := true } } } b a)
      ∨ (∃ (b : BayNo) (a : Arm) (o : Orphan), target = .orphan b a ∧ s.arm b a = .orphan o
        ∧ o.state = .stopping ∧ o.deadline = some ⟨.stopDeadline, t⟩
        ∧ ended = State.orphanDone { s with elapsed := max s.elapsed t } b a
          { o with acc := { o.acc with flags := { o.acc.flags with unclosed := true } } })) :
    s.stoppingDeadline target = some ⟨.stopDeadline, t⟩
      ∧ (s.reach t).stopExpired target = ended.addCause .stopFailed
      ∧ ended.latch = s.latch ∧ ended.rack = s.rack := by
  rcases h with ⟨i, d, c, b, a, rfl, hd, hc, hu, hs, hk, ha, rfl⟩ | ⟨b, a, o, rfl, ho, hs, hk, rfl⟩
  · refine ⟨?_, ?_, State.doneAt_latch_rack ..⟩
    · rw [State.stoppingDeadline, State.compDeadline, State.comp_of_some hd, hc]
      exact (if_pos hs).trans hk
    · have done := State.reachDone_updComp (s := s.reach t) (g := fun y => { y with acc := y.acc.withUnclosed }) hd hc hu
        (fun _ => rfl) ha
      exact congrArg (fun u : State => u.addCause .stopFailed) done
  · refine ⟨?_, ?_, rfl, rfl⟩
    · rw [State.stoppingDeadline, ho]
      exact (if_pos hs).trans hk
    · have done := State.clearOrphan_updOrphan (s := s.reach t) ho fun o => { o with acc := o.acc.withUnclosed }
      exact congrArg (fun u : State => u.addCause .stopFailed) done

/-- Settles O41: what the deadline was for ends, and the three cases are those of the latch. -/
theorem stopDeadlineLatchesTheFailure : Obligations.StopDeadlineLatchesTheFailure := by
  intro s ended t target hr h
  obtain ⟨running, expired, latch, rack⟩ := State.stopExpired_eq h
  rw [exec_stopDeadlineExpiry hr running, expired]
  refine ⟨fun hf => ?_, fun hf hset => ?_, fun hl => ?_⟩
  · rw [State.addCause_held (latch ▸ hf)]
  · rw [State.addCause_joined (latch ▸ hf) (latch ▸ hset), latch]
    rfl
  · obtain ⟨u, hu, parts, stopped⟩ := State.addCause_latched (c := .stopFailed) (latch.trans hl)
    refine ⟨u, congrArg _ hu, parts.trans ?_, stopped⟩
    rw [latch, rack, hl]
    rfl

/-! ### The shutdown input and SHUTDOWN_CLEAR (R99 to R101) -/

theorem State.shutdownClear_active {s : State} (h : s.shutdownInput = true) :
    s.shutdownClear = (s, .refused .shutdownActive) := if_pos h

theorem State.shutdownClear_empty {s : State} (h : s.shutdownInput = false)
    (hl : s.latch = ⟨false, false, false, false⟩) : s.shutdownClear = (s, .done (.cleared s.latch)) := by
  unfold State.shutdownClear
  rw [if_neg (by simp [h]), if_neg (by rw [hl]; exact nofun)]

theorem State.shutdownClear_set {s : State} (h : s.shutdownInput = false)
    (hl : s.latch ≠ ⟨false, false, false, false⟩) : s.shutdownClear = ({ s with
      latch := ⟨false, false, false, false⟩
      rack := { s.rack with latchStop := false, roundStop := false }
      log := (s.offer 0 0 (.shutdownClear s.latch)).log }, .done (.cleared s.latch)) := by
  unfold State.shutdownClear
  rw [if_neg (by simp [h]), if_pos ((Latch.isSet_iff _).2 hl), State.offer_as s]
  rfl

/-- Settles O42: an assertion adds INPUT to the latch, as any cause is added; SHUTDOWN_CLEAR reaches its owner at
once. -/
theorem theShutdownLatchStopsEveryFlow : Obligations.TheShutdownLatchStopsEveryFlow := by
  refine ⟨fun s => ⟨rfl, fun hp => ?_, fun hi hp => ?_⟩, fun s tag hready => ⟨fun hi => ?_, fun hi hl => ?_, fun hi hl => ?_⟩⟩
  · change Host.Outcome.next (if s.shutdownInput then s else s.assertInput) = _
    split
    · rename_i h
      rw [← h]
    · rw [State.assertInput]
      exact congrArg _ (if_neg hp)
  · have asserted : exec .shutdownInputAsserted s = .next (State.addCause { s with shutdownInput := true } .input) := by
      change Host.Outcome.next (if s.shutdownInput then s else s.assertInput) = _
      rw [if_neg (by simp [hi]), State.assertInput]
      exact congrArg _ (if_pos hp)
    have offered : ∀ x, (State.offer { s with shutdownInput := true } 0 0 x).log = (s.offer 0 0 x).log := fun x =>
      State.offer_log_congr (s := s) (t := { s with shutdownInput := true }) rfl rfl rfl rfl 0 0 x
    rw [asserted]
    refine ⟨fun hl => ?_, fun hl => ?_⟩
    · obtain ⟨t, ht, parts, stopped⟩ := State.addCause_latched (s := { s with shutdownInput := true }) (c := .input) hl
      refine ⟨t, congrArg _ ht, parts.trans ?_, stopped⟩
      rw [offered]
      simp only [hl]
      rfl
    · cases hin : s.latch.input with
      | true =>
        have same : { s.latch with input := true } = s.latch := by rw [← hin]
        rw [State.addCause_held (s := { s with shutdownInput := true }) (c := .input) hin, same]
        rfl
      | false =>
        rw [State.addCause_joined (s := { s with shutdownInput := true }) (c := .input) hin hl, offered]
        rfl
  · exact congrArg Host.Outcome.next ((State.request_answered (body := .shutdownClear) hready rfl (by simp)
      (State.shutdownClear_active (s := s.serving .office tag 0x10) hi)).trans rfl)
  · refine congrArg Host.Outcome.next ((State.request_answered (body := .shutdownClear) hready rfl (by simp)
      (State.shutdownClear_empty (s := s.serving .office tag 0x10) hi hl)).trans ?_)
    rw [show (s.serving .office tag 0x10).latch = ⟨false, false, false, false⟩ from hl]
    rfl
  · refine congrArg Host.Outcome.next ((State.request_answered (body := .shutdownClear) hready rfl (by simp)
      (State.shutdownClear_set (s := s.serving .office tag 0x10) hi hl)).trans ?_)
    rw [State.offer_log_congr (s := s) (t := s.serving .office tag 0x10) rfl rfl rfl rfl]
    rfl

end Sys2Proof.Machine

namespace Sys2Proof.Machine

/-! ### Reports read nothing of the line -/

/-- The state with another line. -/
def State.onRack (s : State) (k : Rack) : State := { s with rack := k }

section

variable (s : State) (k : Rack)

theorem State.offer_onRack (ref driver : Nat) (x : Payload) :
    (s.onRack k).offer ref driver x = (s.offer ref driver x).onRack k := by
  rw [State.offer_as s, State.offer_frame s]
  rfl

theorem State.enqueue_onRack (b : BayNo) (rule : List Message → List Message) :
    (s.onRack k).enqueue b rule = (s.enqueue b rule).onRack k := by
  rw [State.enqueue_eq, State.enqueue_eq]
  rfl

theorem State.stopIf_onRack (x : Bool) (b : BayNo) (a : Arm) :
    (s.onRack k).stopIf x b a = (s.stopIf x b a).onRack k := by
  cases x with
  | false => rfl
  | true => exact State.enqueue_onRack ..

theorem State.updComp_onRack (i : SlotNo) (n : Nat) (f : Compartment → Compartment) :
    (s.onRack k).updComp i n f = (s.updComp i n f).onRack k := by
  cases hd : s.slot i with
  | none => simp only [State.updComp, State.updDelivery, hd, show (s.onRack k).slot i = none from hd]
  | some d =>
    rw [State.updComp_of_some hd, State.updComp_of_some (s := s.onRack k) hd]
    rfl

theorem State.updOrphan_onRack (b : BayNo) (a : Arm) (f : Orphan → Orphan) :
    (s.onRack k).updOrphan b a f = (s.updOrphan b a f).onRack k := by
  rw [State.updOrphan_eq, State.updOrphan_eq]
  rfl

theorem State.freeArm_onRack (x : Option ArmRef) : (s.onRack k).freeArm x = (s.freeArm x).onRack k := by
  cases x <;> rfl

theorem State.rebuild_onRack (i : SlotNo) : (s.onRack k).rebuild i = (s.rebuild i).onRack k := by
  cases hd : s.slot i with
  | none => simp only [State.rebuild, hd, show (s.onRack k).slot i = none from hd]
  | some d =>
    cases hp : d.paper with
    | none => rw [State.rebuild_absent hd hp, State.rebuild_absent (s := s.onRack k) hd hp]
    | some p =>
      have issued : ∀ t : State, t.slot i = some d → t.rebuild i = t.issuePaper i d p.number (p.version + 1) := fun t ht => by
        simp only [State.rebuild, ht, hp]
      rw [issued s hd, issued (s.onRack k) hd]
      exact State.offer_onRack (s.setSlot i _) k ..

theorem State.reachDone_onRack (i : SlotNo) (n : Nat) : (s.onRack k).reachDone i n = (s.reachDone i n).onRack k := by
  cases hd : s.slot i with
  | none => simp only [State.reachDone, hd, show (s.onRack k).slot i = none from hd]
  | some d =>
    cases hc : d.comp n with
    | none => simp only [State.reachDone, hd, hc, show (s.onRack k).slot i = some d from hd]
    | some c =>
      simp only [State.reachDone, hd, hc, show (s.onRack k).slot i = some d from hd, State.updComp_onRack,
        State.freeArm_onRack]
      cases c.arm with
      | none => split <;> simp only [State.rebuild_onRack]
      | some x => split <;> simp only [State.offer_onRack, State.rebuild_onRack]

theorem State.clearOrphan_onRack (b : BayNo) (a : Arm) : (s.onRack k).clearOrphan b a = (s.clearOrphan b a).onRack k := by
  have arm : (s.onRack k).arm b a = s.arm b a := rfl
  unfold State.clearOrphan
  rw [arm]
  cases s.arm b a with
  | free | compartment i n => rfl
  | orphan o =>
    dsimp only
    rw [State.offer_onRack]
    rfl

theorem State.moveComp_onRack (b : BayNo) (a : Arm) (i : SlotNo) (n : Nat) (m : Move) :
    (s.onRack k).moveComp b a i n m = (s.moveComp b a i n m).onRack k := by
  cases m with
  | keep => rfl
  | flow | await | settle => exact State.updComp_onRack ..
  | reopen => exact (congrArg (fun t : State => t.queueStop b a) (s.updComp_onRack k ..)).trans (State.enqueue_onRack ..)
  | finish => exact State.reachDone_onRack ..

theorem State.moveOrphan_onRack (b : BayNo) (a : Arm) (m : Move) :
    (s.onRack k).moveOrphan b a m = (s.moveOrphan b a m).onRack k := by
  cases m with
  | keep | flow => rfl
  | await | settle => exact State.updOrphan_onRack ..
  | reopen => exact (congrArg (fun t : State => t.queueStop b a) (s.updOrphan_onRack k ..)).trans (State.enqueue_onRack ..)
  | finish => exact State.clearOrphan_onRack ..

theorem State.report_onRack (b : BayNo) (q : Report) : (s.onRack k).report b q = (s.report b q).onRack k := by
  have arm : (s.onRack k).arm b q.arm = s.arm b q.arm := rfl
  unfold State.report
  rw [arm]
  cases s.arm b q.arm with
  | free =>
    dsimp only [State.reportFree]
    split
    · exact (congrArg (fun t : State => t.queueStop b q.arm) (s.offer_onRack k ..)).trans (State.enqueue_onRack ..)
    · rfl
  | compartment i n =>
    cases hc : s.comp i n with
    | none => simp only [State.reportComp, hc, show (s.onRack k).comp i n = none from hc]
    | some c =>
      simp only [State.reportComp, hc, show (s.onRack k).comp i n = some c from hc]
      split
      · rw [State.updComp_onRack, State.stopIf_onRack, State.moveComp_onRack]
        rfl
      · rfl
  | orphan o =>
    dsimp only [State.reportOrphan]
    rw [State.updOrphan_onRack, State.stopIf_onRack, State.moveOrphan_onRack]
    rfl

end

theorem State.rack_report (s : State) (b : BayNo) (q : Report) : (s.report b q).rack = s.rack := by
  have same := congrArg State.rack (s.report_onRack s.rack b q)
  exact same

/-! ### The return of a SILENT bay (R72) -/

theorem State.awaitsReturn_eq (s : State) (b : BayNo) (a : Arm) : s.awaitsReturn b a = s.armInterrupted b a := by
  unfold State.awaitsReturn State.armInterrupted
  cases s.arm b a with
  | free | orphan o => rfl
  | compartment i n =>
    dsimp only
    cases s.comp i n <;> rfl

section

variable {s : State} {b : BayNo} {q : BayRecord}

/-- A STOP queued, or none, at a bay whose record has just been written. -/
theorem State.stopIf_setBay (hp : s.polled b = true) (hl : q.link ≠ .silent) (x : Bool) (a : Arm) :
    (s.setBay b q).stopIf x b a = s.setBay b { q with outbox := if x then stopQueued a q.outbox else q.outbox } := by
  have read : (s.setBay b q).bay b = q := State.bay_setBay_self ..
  rw [State.stopIf_told (s := s.setBay b q) hp (by rwa [read]), read, State.setBay_setBay]

end

/-- What the return of a SILENT bay leaves (R72). -/
def State.returned (s : State) (b : BayNo) : State :=
  { s with
    bays := s.bays.set b.val { s.bay b with
      link := .online
      missed := 0
      outbox := (if s.armInterrupted b .A then [.stop .A] else []) ++ (if s.armInterrupted b .B then [.stop .B] else [])
        ++ (if (s.bay b).bound = none then [.dismiss] else []) } b.isLt
    log := (s.offer (s.boundRef b) 0 (.bayBack b (s.bay b).missedTotal)).log }

theorem State.bayReturn_returned {s : State} {b : BayNo} (hp : s.polled b = true) (hbox : (s.bay b).outbox = []) :
    s.bayReturn b = s.returned b := by
  generalize hlog : (s.offer (s.boundRef b) 0 (.bayBack b (s.bay b).missedTotal)).log = log
  generalize hq : { s.bay b with link := .online, missed := 0 } = q
  have link : q.link ≠ .silent := by
    rw [← hq]
    exact nofun
  have empty : q.outbox = [] := by
    rw [← hq]
    exact hbox
  have back : (s.setOnline b).offer (s.boundRef b) 0 (.bayBack b (s.bay b).missedTotal) =
      State.setBay { s with log := log } b q := by
    rw [State.offer_as s, hlog, State.setOnline, hq]
    rfl
  have stops : s.returnStops b = State.setBay { s with log := log } b { q with
      outbox := (if s.armInterrupted b .A then [.stop .A] else [])
        ++ (if s.armInterrupted b .B then [.stop .B] else []) } := by
    have polled : State.polled { s with log := log } b = true := hp
    rw [State.returnStops, back, State.awaitsReturn_eq, State.awaitsReturn_eq, State.stopIf_setBay polled link,
      State.stopIf_setBay polled (by exact link), empty]
    cases s.armInterrupted b .A <;> cases s.armInterrupted b .B <;> rfl
  rw [State.bayReturn_eq, stops, State.returned, hlog]
  cases hb : (s.bay b).bound with
  | none =>
    have told := State.enqueue_setBay (s := { s with log := log }) (b := b) (q := { q with
      outbox := (if s.armInterrupted b .A then [.stop .A] else [])
        ++ (if s.armInterrupted b .B then [.stop .B] else []) }) hp link fun box => box ++ [.dismiss]
    rw [State.queueDismiss, told]
    subst hq
    simp only [hb, Option.isNone_none, if_true]
    rfl
  | some i =>
    subst hq
    simp only [hb, Option.isNone_some, Bool.false_eq_true, if_false, reduceCtorEq, List.append_nil]
    rfl

/-! ### Answers taken and not taken (R73, R74) -/

theorem exec_answerReceived_valid {s : State} {v : Visit} {sent : Option Message} {ws : List RxWord} {a : Answer}
    (h : s.exchanging v sent) (hd : decodeAnswer v.bay ws = some a) :
    exec (.answerReceived ws) s = .next ((s.validAnswer v.bay sent a).exchangeOver v) := by
  obtain ⟨hp, hv, hdrop, e, he, rfl⟩ := h
  have running : s.running = true := by simp [State.running, hp]
  change execAnswerReceived ws s = _
  simp only [execAnswerReceived, hv, he, running, if_true, State.endByAnswer, hdrop, hd, State.afterExchange_eq hdrop]
  rfl

/-- A bay that is ONLINE with no miss is left as it is by a valid answer. -/
theorem State.answered_online_self {s : State} {b : BayNo} (hl : (s.bay b).link = .online) (hm : (s.bay b).missed = 0) :
    s.answered b = s := by
  have same : { s.bay b with link := .online, missed := 0 } = s.bay b := by rw [← hl, ← hm]
  rw [State.answered_eq (by rw [hl]; exact nofun), same, State.setBay_bay]

/-- An attention answer that finds a VERDICT waiting is not taken (R74). -/
theorem State.takeAnswer_verdict {s : State} {b : BayNo} (h : ∃ m ∈ (s.bay b).outbox, m.isVerdict = true) {a : Answer}
    (ha : ∀ q, a ≠ .status q) : s.takeAnswer b a = s := by
  have refused : ∀ claim, ¬ (s.bay b).takes claim = true := fun claim hc => by
    have none_waits := (BayRecord.takes_iff.1 hc).1
    exact absurd (List.any_eq_true.2 h) (by simp [none_waits])
  cases a with
  | status q => exact absurd rfl (ha q)
  | claim | start | finish | fault => exact if_neg (refused _)

/-- A CLAIM that finds a DISMISS waiting is not taken (R74). -/
theorem State.takeAnswer_dismiss {s : State} {b : BayNo} (h : .dismiss ∈ (s.bay b).outbox) (ref : Nat) :
    s.takeAnswer b (.claim ref) = s := by
  refine if_neg fun hc => ?_
  exact List.any_eq_false.1 ((BayRecord.takes_iff.1 hc).2 rfl) _ h rfl

theorem State.exchangeOver_onRack (s : State) (v : Visit) (e : Option Exchange) :
    (s.onRack { s.rack with exchange := e }).exchangeOver v = s.exchangeOver v := rfl

/-- A bay that is ONLINE with no miss is left as it is where its exchange carried no message. -/
theorem State.heard_none {s : State} {v : Visit} (hl : (s.bay v.bay).link = .online) (hm : (s.bay v.bay).missed = 0) :
    s.heard v none = s := by
  have same : (s.bay v.bay).heard none = s.bay v.bay := by
    rw [BayRecord.heard, ← hl, ← hm]
    rfl
  rw [State.heard, same]
  exact State.setBay_bay ..

/-- A report of an ONLINE bay taken by itself, whatever exchange brought it. -/
theorem exec_report_alone {w : State} {v : Visit} {q : Report} {n m : Nat} (hp : w.phase = .running)
    (hv : w.rack.visit = some v) (hd : v.dropped = false) (hline : (w.bay v.bay).line = (.online, 0, n, m))
    (hq : q.wellFormed = true) :
    exec (.answerReceived (answerWords v.bay (.status [q])))
      { w.exchangeOver v with rack := { w.rack with exchange := some ⟨none, 0⟩ } } =
        .next ((w.report v.bay q).exchangeOver v) := by
  simp only [BayRecord.line, Prod.mk.injEq] at hline
  obtain ⟨hl, hm, -, -⟩ := hline
  generalize hx : w.onRack { w.rack with exchange := some ⟨none, 0⟩ } = x
  have visiting : x.exchanging v none := by
    rw [← hx]
    exact ⟨hp, hv, hd, _, rfl, rfl⟩
  have record : x.bay v.bay = w.bay v.bay := by
    rw [← hx]
    rfl
  have taken := exec_report visiting (by rw [record, hl]; exact nofun) hq
  rw [State.heard_none (by rw [record, hl]) (by rw [record, hm]), ← hx, State.report_onRack] at taken
  refine taken.trans (congrArg Host.Outcome.next ?_)
  have rack := State.rack_report w v.bay q
  rw [← rack]
  exact State.exchangeOver_onRack ..

/-- Settles O30: a bay that returns is then as one that was ONLINE; an answer that is not taken changes what every valid
answer changes; and a report reads nothing of the line, so that a second is taken as if it came alone. -/
theorem validAnswersRestoreTheLink : Obligations.ValidAnswersRestoreTheLink := by
  refine ⟨?_, ?_⟩
  · rintro s u v sent r box a hex hpolled rfl hl hbox ha rfl rfl
    have decoded := answersReadBackWhole v.bay a ha
    have returned : s.answered v.bay = s.returned v.bay := (if_pos hl).trans (State.bayReturn_returned hpolled hbox)
    have record : (s.returned v.bay).bay v.bay = _ := State.bay_setBay_self ..
    have again : (s.returned v.bay).answered v.bay = s.returned v.bay :=
      State.answered_online_self (by rw [record]) (by rw [record])
    have same : s.validAnswer v.bay sent a = (s.returned v.bay).validAnswer v.bay sent a := by
      rw [State.validAnswer, State.validAnswer, returned, again]
    have visiting : (s.returned v.bay).exchanging v sent := hex
    rw [exec_answerReceived_valid hex decoded, same]
    exact (exec_answerReceived_valid visiting decoded).symm
  · rintro s u v sent r hex hl rfl rfl
    have taken : ∀ a, a.wellFormed = true → (s.heard v sent).takeAnswer v.bay a = s.heard v sent →
        exec (.answerReceived (answerWords v.bay a)) s = .next ((s.heard v sent).exchangeOver v) := fun a ha h => by
      rw [exec_answerReceived hex hl (answersReadBackWhole v.bay a ha), h]
    refine ⟨taken _ rfl rfl, fun hv a ha hn => ?_, fun hd ref href => ?_, fun q q' t hq hq' ht => ?_⟩
    · exact taken a ha (State.takeAnswer_verdict (by rwa [State.bay_heard]) hn)
    · exact taken _ (by simpa [Answer.wellFormed] using href) (State.takeAnswer_dismiss (by rwa [State.bay_heard]) ref)
    · rw [exec_report hex hl hq] at ht
      obtain rfl := Host.Outcome.next.inj ht
      have decoded := decodeAnswer_status v.bay (reports := [q, q']) (by simp) (by simp [hq, hq'])
      have both : exec (.answerReceived (answerWords v.bay (.status [q, q']))) s =
          .next ((((s.heard v sent).report v.bay q).report v.bay q').exchangeOver v) := exec_answerReceived hex hl decoded
      have kept : LineKept (s.heard v sent) ((s.heard v sent).report v.bay q) := (LineKept.refl _).report
      have phase : ((s.heard v sent).report v.bay q).phase = .running :=
        (State.SameLinks.report ..).phase.trans hex.1
      have rack : ((s.heard v sent).report v.bay q).rack = s.rack := State.rack_report ..
      have line := (kept.bay v.bay).trans (congrArg BayRecord.line State.bay_heard)
      generalize (s.heard v sent).report v.bay q = w at both phase rack line
      obtain ⟨-, hv, hdrop, -⟩ := hex
      have again := exec_report_alone (w := w) (v := v) phase (rack ▸ hv) hdrop line hq'
      rw [both]
      rw [rack] at again
      exact again.symm

end Sys2Proof.Machine

namespace Sys2Proof.Machine

/-! ### SETTINGS_WRITE (R66, R78, R185) -/

theorem storedSettings_eq (b : SettingsBody) : storedSettings b =
    { daily := max 240 (min 900 b.daily)
      rolling := max 1200 (min 6000 b.rolling)
      shift := max 360 (min 1080 b.shift)
      validity := max 60 (min 4320 b.validity)
      allowance := min 500 b.allowance
      flowing := max 300 (min 3600 b.flowing)
      permit := max 60 (min 900 b.permit)
      settle := max 1 (min 10 b.settle)
      polled := Vector.ofFn fun k => b.polled.testBit (k.val + 1) } := by
  simp only [storedSettings, clampTo, polledOf, Nat.zero_max]

theorem State.leavingInUse_iff (s : State) (polled : Vector Bool 12) : s.leavingInUse polled = true ↔
    ∃ k, s.polled k = true ∧ polled.get k = false
      ∧ ((s.bay k).bound ≠ none ∨ (s.bay k).armA ≠ .free ∨ (s.bay k).armB ≠ .free) := by
  simp [State.leavingInUse, BayRecord.holdsReferences, Option.isSome_iff_ne_none, and_assoc]

/-- The settings stored and the bays that leave silenced, the visit and the round left to be settled. -/
def State.settingsStored (s : State) (x : Settings) : State :=
  { s with
    settings := x
    bays := Vector.ofFn fun k =>
      if s.polled k = true ∧ x.polled.get k = false then
        { s.bay k with outbox := [], link := .silent, missed := 3 }
      else s.bay k
    rack := { s.rack with roundLeft := s.rack.roundLeft.filter fun k => x.polled.get k } }

section

variable {s : State} {x : Settings}

theorem State.writeSettings_eq (s : State) (x : Settings) : s.writeSettings x =
    State.settleRound { s.settingsStored x with rack := { (s.settingsStored x).rack with
      visit := s.rack.dropVisit x.polled.get } } := by
  have bays : (Vector.ofFn fun b => if s.polled b && !x.polled.get b then (s.bay b).unpolled else s.bay b) =
      (s.settingsStored x).bays := by
    refine congrArg Vector.ofFn (funext fun k => if_congr (by simp) rfl rfl)
  rw [State.writeSettings, bays]
  rfl

/-- No round is settled while a visit goes on or a bay is left in the round. -/
theorem State.settleRound_busy {s : State} (h : s.rack.visit ≠ none ∨ s.rack.roundLeft ≠ []) : s.settleRound = s := by
  refine if_neg fun hs => ?_
  rw [Bool.and_eq_true, Option.isNone_iff_eq_none, List.isEmpty_iff] at hs
  exact h.elim (fun hv => hv hs.1) fun hr => hr hs.2

theorem State.writeSettings_visited {v : Visit} (hv : s.rack.visit = some v) (hp : x.polled.get v.bay = true) :
    s.writeSettings x = s.settingsStored x := by
  have kept : s.rack.dropVisit x.polled.get = s.rack.visit := by
    rw [Rack.dropVisit, hv]
    exact if_pos hp
  rw [State.writeSettings_eq, kept]
  exact State.settleRound_busy (.inl (by rw [hv]; exact nofun))

theorem State.writeSettings_left (hv : s.rack.visit = none) (hr : ∃ k ∈ s.rack.roundLeft, x.polled.get k = true) :
    s.writeSettings x = s.settingsStored x := by
  have kept : s.rack.dropVisit x.polled.get = s.rack.visit := by rw [Rack.dropVisit, hv]
  obtain ⟨k, hk, hp⟩ := hr
  rw [State.writeSettings_eq, kept]
  exact State.settleRound_busy (.inr (List.ne_nil_of_mem (List.mem_filter.2 ⟨hk, hp⟩)))

theorem State.writeSettings_marked {v : Visit} (hv : s.rack.visit = some v) (hp : x.polled.get v.bay = false)
    (he : s.rack.exchange ≠ none) : s.writeSettings x = { s.settingsStored x with
      rack := { (s.settingsStored x).rack with visit := some { v with dropped := true } } } := by
  have marked : s.rack.dropVisit x.polled.get = some { v with dropped := true } := by
    rw [Rack.dropVisit, hv]
    exact (if_neg (by simp [hp])).trans (if_pos (Option.isSome_iff_ne_none.2 he))
  rw [State.writeSettings_eq, marked]
  exact State.settleRound_busy (.inl nofun)

theorem State.writeSettings_over (hv : s.rack.visit = none ∨ ∃ v, s.rack.visit = some v ∧ x.polled.get v.bay = false)
    (he : s.rack.exchange = none) : s.writeSettings x = { s.settingsStored x with
      rack := (s.settingsStored x).lineAfterVisit } := by
  have dropped : s.rack.dropVisit x.polled.get = none := by
    rcases hv with hv | ⟨v, hv, hp⟩
    · rw [Rack.dropVisit, hv]
    · rw [Rack.dropVisit, hv]
      exact (if_neg (by simp [hp])).trans (if_neg (by simp [he]))
  rw [State.writeSettings_eq, dropped, ← State.endVisit_eq, State.endVisit]
  have line : (s.settingsStored x).rack.exchange = none := he
  rw [← line]

end

/-- Settles O18: the request reaches its owner at once; a visit goes on, is marked, or is over as its bay stays or
leaves, and a marked visit ends with its exchange. -/
theorem settingsWriteClampsAndStores : Obligations.SettingsWriteClampsAndStores := by
  refine ⟨fun s tag b x hready hx => ?_, fun s v e hr hv hd he => ?_⟩
  · obtain rfl : x = storedSettings b := hx.trans (storedSettings_eq b).symm
    have answered : ∀ y : State × FrameBody, (s.serving .office tag 0x0D).settingsWrite b = y →
        exec (.settingsWrite .office tag b) s = .next (y.1.push .office ⟨tag, 0x0D, y.2⟩) := fun y hy =>
      congrArg Host.Outcome.next (State.request_answered (body := .settingsWrite b) hready rfl (by simp) hy)
    refine ⟨fun h => ?_, fun h u hu => ?_⟩
    · have refused : (s.serving .office tag 0x0D).settingsWrite b = _ :=
        if_pos ((State.leavingInUse_iff (s.serving .office tag 0x0D) (polledOf b.polled)).2 h)
      exact (answered _ refused).trans rfl
    · have free : ¬ (s.serving .office tag 0x0D).leavingInUse (polledOf b.polled) = true := fun hu => by
        obtain ⟨k, hp, hx, hn⟩ := (State.leavingInUse_iff ..).1 hu
        obtain ⟨hb, hA, hB⟩ := h k hp hx
        rcases hn with hn | hn | hn
        · exact hn hb
        · exact hn hA
        · exact hn hB
      have accepted : (s.serving .office tag 0x0D).settingsWrite b = _ := if_neg free
      rw [answered _ accepted, hu]
      refine ⟨?_, fun v hv hp he => ?_, fun hv he => ?_⟩
      · rintro (⟨v, hv, hp⟩ | ⟨hv, hr⟩)
        · rw [State.writeSettings_visited (s := s.serving .office tag 0x0D) hv hp]
          rfl
        · rw [State.writeSettings_left (s := s.serving .office tag 0x0D) hv hr]
          rfl
      · rw [State.writeSettings_marked (s := s.serving .office tag 0x0D) hv hp he]
        rfl
      · rw [State.writeSettings_over (s := s.serving .office tag 0x0D) hv he]
        rfl
  · have running : s.running = true := by simp [State.running, hr]
    refine ⟨fun words => ?_, ?_⟩
    · change execAnswerReceived words s = _
      simp only [execAnswerReceived, hv, he, running, if_true, State.endByAnswer, hd, State.endVisit_eq]
    · change execAnswerWindowExpiry s = _
      simp only [execAnswerWindowExpiry, hv, he, running, if_true, State.endByWindow, hd, State.endVisit_eq]
      rfl

end Sys2Proof.Machine

namespace Sys2Proof.Machine

/-! ### RELEASE accepted (R62, R134, R136) -/

/-- Only arm records differ. -/
structure State.ArmsChanged (s t : State) : Prop where
  rest : t = { s with bays := t.bays }
  bay : ∀ b, t.bay b = { s.bay b with armA := t.arm b .A, armB := t.arm b .B }

theorem State.ArmsChanged.refl (s : State) : s.ArmsChanged s := ⟨rfl, fun _ => rfl⟩

theorem State.ArmsChanged.trans {s t u : State} (h : s.ArmsChanged t) (k : t.ArmsChanged u) : s.ArmsChanged u := by
  refine ⟨?_, fun b => ?_⟩
  · rw [k.rest, h.rest]
  · rw [k.bay b, h.bay b]

theorem State.ArmsChanged.setArm (s : State) (b : BayNo) (a : Arm) (x : ArmRecord) :
    s.ArmsChanged (s.setArm b a x) := by
  refine ⟨rfl, fun c => ?_⟩
  simp only [State.arm, State.bay_setArm]
  split
  · next h =>
    subst h
    cases a <;> rfl
  · rfl

theorem State.ArmsChanged.makeOrphan (d : Delivery) (s : State) (c : Compartment) :
    s.ArmsChanged (s.makeOrphan d c) := by
  unfold State.makeOrphan
  split
  · split
    · exact .refl s
    · exact .setArm ..
  · exact .refl s

theorem State.ArmsChanged.makeOrphans (d : Delivery) (cs : List Compartment) (s : State) :
    s.ArmsChanged (cs.foldl (State.makeOrphan d) s) := by
  induction cs generalizing s with
  | nil => exact .refl s
  | cons c cs ih => exact .trans (.makeOrphan d s c) (ih _)

theorem State.arm_makeOrphan_self (s : State) (d : Delivery) {c : Compartment} {b : BayNo} {a : Arm}
    (hc : c.state = .interrupted) (ha : c.arm = some ⟨b, a⟩) :
    (s.makeOrphan d c).arm b a = .orphan (orphanOf d c) := by
  have made : s.makeOrphan d c = s.setArm b a (.orphan (orphanOf d c)) := by
    simp only [State.makeOrphan, hc, ha, if_true]
  rw [made, State.arm_setArm, if_pos ⟨rfl, rfl⟩]

/-- The arms of the INTERRUPTED compartments of a list (R5, R136). -/
def interruptedArms (cs : List Compartment) : List (Option ArmRef) :=
  (cs.filter fun c => c.state == .interrupted).map Compartment.arm

theorem mem_interruptedArms {cs : List Compartment} {x : Option ArmRef} :
    x ∈ interruptedArms cs ↔ ∃ c ∈ cs, c.state = .interrupted ∧ c.arm = x := by
  simp [interruptedArms, and_assoc]

theorem interruptedArms_cons {c : Compartment} {cs : List Compartment} (hc : c.state = .interrupted) :
    interruptedArms (c :: cs) = c.arm :: interruptedArms cs := by
  simp [interruptedArms, hc]

theorem interruptedArms_sublist (c : Compartment) (cs : List Compartment) :
    (interruptedArms cs).Sublist (interruptedArms (c :: cs)) :=
  ((List.sublist_cons_self c cs).filter _).map _

/-- The readouts leave states and arms as they are. -/
theorem Delivery.interruptedArms_withReadouts (d : Delivery) :
    interruptedArms d.withReadouts.comps = interruptedArms d.comps := by
  have state : ∀ c : Compartment, (if c.state = .done ∨ c.state = .interrupted then
      { c with acc := c.acc.afterReadouts } else c : Compartment).state = c.state := fun c => by split <;> rfl
  have arm : ∀ c : Compartment, (if c.state = .done ∨ c.state = .interrupted then
      { c with acc := c.acc.afterReadouts } else c : Compartment).arm = c.arm := fun c => by split <;> rfl
  simp only [interruptedArms, Delivery.withReadouts, List.filter_map, List.map_map, Function.comp_def, state, arm]

/-- Where no arm is named twice, each INTERRUPTED compartment's arm holds its orphan. -/
theorem State.arm_makeOrphans_of_mem (d : Delivery) {cs : List Compartment} (s : State)
    (hn : (interruptedArms cs).Nodup) {c : Compartment} (hm : c ∈ cs) (hc : c.state = .interrupted) {b : BayNo}
    {a : Arm} (ha : c.arm = some ⟨b, a⟩) :
    (cs.foldl (State.makeOrphan d) s).arm b a = .orphan (orphanOf d c) := by
  induction cs generalizing s with
  | nil => cases hm
  | cons x cs ih =>
    rw [List.foldl_cons]
    rcases List.mem_cons.1 hm with rfl | hm
    · rw [interruptedArms_cons hc, List.nodup_cons, ha] at hn
      rw [(State.arm_makeOrphans d b a cs _).2 fun y hy hs hya => hn.1 (mem_interruptedArms.2 ⟨y, hy, hs, hya⟩)]
      exact State.arm_makeOrphan_self s d hc ha
    · exact ih _ (hn.sublist (interruptedArms_sublist x cs)) hm

/-- The state in which an accepted RELEASE leaves its delivery, before its orphans are made. -/
def State.releasing (s : State) (p : Port) (tag : Nat) (i : SlotNo) (d : Delivery) : State :=
  ((s.setSlot i (some d)).acceptDeferred p tag 0x22 d.ref (d.driver.getD 0) d.releasePayload).1.setSlot i
    (some { d with state := .releasing, holds := HoldSet.empty })

theorem State.acceptRelease_accepted {s : State} {p : Port} {tag : Nat} {i : SlotNo} {d : Delivery}
    (h : s.deferrableRefusal p tag = none) : s.acceptRelease p tag i d =
      (d.comps.foldl (State.makeOrphan d) (s.releasing p tag i d), .deferredEntry s.log.nextNumber) := by
  have admitted : (s.setSlot i (some d)).deferrableRefusal p tag = none := h
  simp only [State.acceptRelease, admitted]
  rfl

theorem Delivery.releasePayload_eq {d : Delivery} {p : Paper} (h : d.paper = some p) : d.releasePayload =
    .release p.number p.version p.provisional d.overrides d.driving d.duty (p.lines.map PaperLine.net).sum
      (p.lines.map PaperLine.gross).sum := by
  rw [Delivery.releasePayload, h]
  rfl

/-- An accepted RELEASE at the gate port: the record, the entry and the deferred request (R136, R172). -/
theorem State.releasing_gate (s : State) (tag : Nat) (i : SlotNo) (d : Delivery) :
    (s.serving .gate tag 0x22).releasing .gate tag i d =
      { s with
        dispatch := s.dispatch.set i.val (some { d with state := .releasing, holds := HoldSet.empty }) i.isLt
        log := (s.admitEntry d.ref (d.driver.getD 0) d.releasePayload).log
        gate := { s.gate.holding ⟨tag, 0x22, .delivery d.ref s.log.nextNumber⟩ with
          inService := some (tag, 0x22) } } := by
  have twice : ∀ x y, (s.dispatch.set i.val x i.isLt).set i.val y i.isLt = s.dispatch.set i.val y i.isLt :=
    fun x y => Vector.set_set ..
  rw [← twice (some d)]
  rfl

theorem State.computeHolds_record (s : State) (d : Delivery) : (s.computeHolds d).record = d.withReadouts := by
  rw [State.computeHolds_eq]

theorem State.ArmsChanged.push {s t : State} (h : s.ArmsChanged t) (p : Port) (f : OutFrame) :
    (s.push p f).ArmsChanged (t.push p f) := by
  obtain ⟨hr, hb⟩ := h
  refine ⟨?_, ?_⟩
  · rw [hr]
    cases p <;> rfl
  · cases p <;> exact hb

/-- Settles O22: the request reaches its owner at once, which accepts it; the orphans change arm records alone. -/
theorem releaseMakesOrphansAndWaits : Obligations.ReleaseMakesOrphansAndWaits := by
  rintro s tag n i d e paper hready hroom hr hn hd ho hs hp hdr hc rfl hi hq hf ha hnd
  have computed := State.release_computed (s := s.serving .gate tag 0x22) (p := .gate) (tag := tag)
    hd hr hn ho (hs.imp_left fun h => ⟨h, by simp [hp]⟩) hdr hc
  have empty := State.computeHolds_empty (s := s.serving .gate tag 0x22) hi hq hf ha.2
  have driver : d.withReadouts.driver.getD 0 = n := congrArg (Option.getD · 0) hdr
  rw [if_neg (not_not.2 empty), State.computeHolds_record,
    State.acceptRelease_accepted (State.deferrableRefusal_eq hready hroom ha), State.releasing_gate,
    Delivery.releasePayload_eq (d := d.withReadouts) hp, driver] at computed
  refine ⟨_, congrArg Host.Outcome.next (State.request_answered (body := .release d.ref n) hready rfl (by simp)
    computed), ?_⟩
  have changed := fun u => State.ArmsChanged.push (.makeOrphans d.withReadouts d.withReadouts.comps u) .gate
  refine ⟨(changed _ _).rest.trans rfl, (changed _ _).bay, fun c hm hs b x hx => ?_, fun b x hx => ?_⟩
  · exact State.arm_makeOrphans_of_mem d.withReadouts _
      ((Delivery.interruptedArms_withReadouts d).symm ▸ hnd) hm hs hx
  · refine (State.arm_makeOrphans d.withReadouts b x d.withReadouts.comps _).2 fun c hm hs hx' => ?_
    have named : some ⟨b, x⟩ ∈ interruptedArms d.comps := by
      rw [← Delivery.interruptedArms_withReadouts]
      exact mem_interruptedArms.2 ⟨c, hm, hs, hx'⟩
    obtain ⟨y, hy, hys, hyx⟩ := mem_interruptedArms.1 named
    exact hx y hy hys hyx

end Sys2Proof.Machine

namespace Sys2Proof.Machine

/-! ### Loading deadlines (R93 to R96, R102, R103) -/

section

variable {s : State} {i : SlotNo} {d : Delivery} {c : Compartment} {b : BayNo} {a : Arm} {t : Nat}

/-- The deadline of a kind expires while it runs: the counter stands at its expiry when it is handled (R183). -/
theorem State.expire_due {x : Option Deadline} {k : DeadlineKind} (hr : s.phase = .running) (hx : x = some ⟨k, t⟩)
    (f : State → State) : s.expire x k f = f { s with elapsed := max s.elapsed t } := by
  subst hx
  exact if_pos ⟨hr, rfl⟩

/-- A compartment in the state asked for: its deadline is the one that runs. -/
theorem State.compDeadline_of_state {k : Nat} (hc : s.comp i k = some c) :
    s.compDeadline i k c.state = c.deadline := by
  rw [State.compDeadline, hc]
  exact if_pos rfl

/-- A STOPPING orphan's deadline is the one that runs. -/
theorem State.stoppingDeadline_orphan {o : Orphan} (h : s.arm b a = .orphan o) (hs : o.state = .stopping) :
    s.stoppingDeadline (.orphan b a) = o.deadline := by
  simp only [State.stoppingDeadline, h, hs, if_true]

/-- The only compartment of its index changed in its slot. -/
theorem State.updComp_withComp (hd : s.slot i = some d) (hu : ∀ y ∈ d.comps, y.index = c.index → y = c)
    (f : Compartment → Compartment) :
    s.updComp i c.index f = s.setSlot i (some (d.withComp c.index (f c))) := by
  rw [State.updComp_of_some hd, Delivery.updComp_eq_withComp hu]

/-- An arm freed and a STOP queued for it, as one change of its bay's record (R64, R93). -/
theorem State.queueStop_setArm (s : State) (b : BayNo) (a : Arm) (x : ArmRecord) : (s.setArm b a x).queueStop b a =
    s.setBay b { (s.bay b).setArmRecord a x with outbox := s.boxWithStop b a } := by
  have record : (s.setArm b a x).bay b = (s.bay b).setArmRecord a x := State.bay_setBay_self ..
  have box : (s.setArm b a x).boxWithStop b a = s.boxWithStop b a := by
    unfold State.boxWithStop
    rw [record, BayRecord.setArmRecord_link, BayRecord.setArmRecord_outbox]
    rfl
  rw [State.queueStop_eq, record, box, State.setArm, State.setBay_setBay]

/-- The permit window's expiry: the compartment is PLANNED, its arm is free, and a STOP is queued (R93). -/
theorem State.permitExpired_eq (hd : s.slot i = some d) (hc : d.comp c.index = some c)
    (hu : ∀ y ∈ d.comps, y.index = c.index → y = c) (ha : c.arm = some ⟨b, a⟩) : s.permitExpired i c.index =
      { s with
        dispatch := s.dispatch.set i.val
          (some (d.withComp c.index { c with state := .planned, deadline := none, arm := none })) i.isLt
        bays := s.bays.set b.val { (s.bay b).setArmRecord a .free with outbox := s.boxWithStop b a } b.isLt } := by
  have found : s.comp i c.index = some c := (State.comp_of_some hd _).trans hc
  simp only [State.permitExpired, found, ha, State.freeArm, State.updComp_withComp hd hu, State.queueStop_setArm]
  rfl

/-- The flowing limit's expiry: the compartment awaits closure with TIME set, and a STOP is queued (R94). -/
theorem State.flowingExpired_eq (hd : s.slot i = some d) (hc : d.comp c.index = some c)
    (hu : ∀ y ∈ d.comps, y.index = c.index → y = c) (ha : c.arm = some ⟨b, a⟩) : s.flowingExpired i c.index =
      { s with
        dispatch := s.dispatch.set i.val
          (some (d.withComp c.index { c with
            state := .stopping
            deadline := some ⟨.stopDeadline, s.elapsed + 30000000⟩
            acc := { c.acc with flags := { c.acc.flags with time := true } } })) i.isLt
        bays := s.bays.set b.val { s.bay b with outbox := s.boxWithStop b a } b.isLt } := by
  have found : s.comp i c.index = some c := (State.comp_of_some hd _).trans hc
  simp only [State.flowingExpired, found, ha, State.updComp_withComp hd hu, State.queueStop_eq]
  rfl

/-- An arm whose record is free is available once no STOP for it waits (R61). -/
theorem BayRecord.available_without_stop {r : BayRecord} (h : r.armRecord a = .free) :
    BayRecord.available { r with outbox := r.outbox.filter fun m => !m.isStop a } a = true := by
  have free : BayRecord.armRecord { r with outbox := r.outbox.filter fun m => !m.isStop a } a = .free := by
    cases a <;> exact h
  simp [BayRecord.available, free]

end

/-- Settles O38: the running permit window is the deadline that expires; the bay's record holds the freed arm. -/
theorem permitWindowReturnsToPlanned : Obligations.PermitWindowReturnsToPlanned := by
  rintro s u i d c t b a hr hd hc hu hs hdue ha rfl
  have running : s.compDeadline i c.index .permitted = some ⟨.permitWindow, t⟩ := by
    rw [← hs, State.compDeadline_of_state ((State.comp_of_some hd _).trans hc), hdue]
  refine ⟨?_, fun ⟨_, _, gross, _⟩ => gross (.inr (.inl hs)), ?_⟩
  · refine congrArg Host.Outcome.next ((State.expire_due hr running _).trans ?_)
    exact State.permitExpired_eq (s := { s with elapsed := max s.elapsed t }) hd hc hu ha
  · rintro r rfl
    refine BayRecord.available_without_stop ?_
    rw [State.bay, get_set, if_pos rfl]
    cases a <;> rfl

/-- Settles O39: the stop deadline runs from the moment of the expiry. -/
theorem flowingLimitStopsTheFlow : Obligations.FlowingLimitStopsTheFlow := by
  intro s i d c t b a hr hd hc hu hs hdue ha
  have running : s.compDeadline i c.index .flowing = some ⟨.flowingLimit, t⟩ := by
    rw [← hs, State.compDeadline_of_state ((State.comp_of_some hd _).trans hc), hdue]
  refine congrArg Host.Outcome.next ((State.expire_due hr running _).trans ?_)
  exact State.flowingExpired_eq (s := { s with elapsed := max s.elapsed t }) hd hc hu ha

/-- Settles O40: a STOPPING compartment reaches DONE and a STOPPING orphan is cleared, each as it stands. -/
theorem settleIntervalEndsTheLoading : Obligations.SettleIntervalEndsTheLoading := by
  refine fun s t hr => ⟨fun i d c b a hd hc hu hs hdue ha => ?_, fun b a o ho hs hdue => ?_⟩
  · have running : s.stoppingDeadline (.compartment i c.index) = some ⟨.settleInterval, t⟩ := by
      rw [State.stoppingDeadline, ← hs, State.compDeadline_of_state ((State.comp_of_some hd _).trans hc), hdue]
    have ended := State.reachDone_updComp (s := { s with elapsed := max s.elapsed t }) (g := id) hd hc hu
      (fun _ => rfl) ha
    rw [State.updComp_id] at ended
    exact congrArg Host.Outcome.next ((State.expire_due hr running _).trans ended)
  · have running : s.stoppingDeadline (.orphan b a) = some ⟨.settleInterval, t⟩ :=
      (State.stoppingDeadline_orphan ho hs).trans hdue
    refine congrArg Host.Outcome.next ((State.expire_due hr running _).trans ?_)
    exact State.clearOrphan_eq (s := { s with elapsed := max s.elapsed t }) ho

end Sys2Proof.Machine

namespace Sys2Proof.Machine

/-! ### The hours table beside the dispatch table (R104 to R107) -/

/-- Every slot of a day ring is lawful. -/
def RingLawful (today : Nat) (ring : Vector DayEntry 14) : Prop := ∀ k : Fin 14, slotLawful today (ring.get k)

theorem ringLawful_slots {today : Nat} {x : Driver} :
    RingLawful today x.ring ↔ ∀ e ∈ x.slots, slotLawful today e := by
  have mem : ∀ e, e ∈ x.slots ↔ ∃ k : Fin 14, x.ring.get k = e := fun e => by
    simp only [Driver.slots, Vector.get_eq_getElem, Array.mem_toList_iff, Vector.mem_toArray_iff,
      Vector.mem_iff_getElem, Fin.exists_iff]
  simp only [RingLawful, mem, forall_exists_index, forall_apply_eq_imp_iff]

/-- A lawful slot written. -/
theorem RingLawful.writeDay {today : Nat} {ring : Vector DayEntry 14} (h : RingLawful today ring) {e : DayEntry}
    (he : slotLawful today e) : RingLawful today (writeDay ring e) := fun k => by
  have written := get_set ring (ringIndex e.day) k e
  rw [show (Machine.writeDay ring e).get k = _ from written]
  split
  · exact he
  · exact h k

/-- What a commit adds to a day keeps driving not above duty, and both stop at 1,440 (R121). -/
theorem RingLawful.commitRing {today : Nat} {ring : Vector DayEntry 14} (h : RingLawful today ring) {driving duty : Nat}
    (ht : driving ≤ duty) : RingLawful today (commitRing ring today driving duty) := by
  have held := h (ringIndex today)
  refine h.writeDay ?_
  split
  · exact ⟨min_le_min_left _ (Nat.add_le_add held.1 ht), min_le_left .., le_rfl⟩
  · exact ⟨min_le_min_left _ (Nat.add_le_add_left ht _), min_le_left .., le_rfl⟩

/-- What is kept of a declared day is lawful (R115, steps 1 and 2). -/
theorem slotLawful_clampDay {today : Nat} {e : DayEntry} (h : validOn today e = true) :
    slotLawful today (clampDay e) := by
  simp only [validOn, Bool.and_eq_true, decide_eq_true_eq] at h
  exact ⟨le_max_left .., max_le (min_le_left ..) (min_le_left ..), h.2⟩

/-- A declaration writes lawful slots alone (R115). -/
theorem RingLawful.mergeRing {today : Nat} {ring : Vector DayEntry 14} (h : RingLawful today ring) (y : Declaration) :
    RingLawful today (mergeRing ring y today) := by
  have kept : ∀ e ∈ remainingDays y today, slotLawful today e := fun e he => by
    obtain ⟨f, hf, rfl⟩ := List.mem_map.1 he
    exact slotLawful_clampDay (List.mem_filter.1 hf).2
  unfold Machine.mergeRing
  generalize remainingDays y today = es at kept ⊢
  induction es generalizing ring with
  | nil => exact h
  | cons e es ih =>
    obtain ⟨he, hes⟩ := List.forall_mem_cons.1 kept
    exact ih (h.writeDay he) hes

/-- A driver's entry in a state: its ring's slots are lawful, its shift start is not later than terminal time, and the
delivery it is bound to names it in a state that binds. -/
structure Driver.LawfulIn (s : State) (x : Driver) : Prop where
  ring : RingLawful s.today x.ring
  start : ∀ t, x.shiftStart = some t → t ≤ s.now
  binding : ∀ i, x.bound = some i → ∃ d, s.slot i = some d ∧ d.driver = some x.number ∧ d.state.bindsDriver

/-- The law of the hours table and of the trips that a RELEASE commits to it. -/
structure HoursLaw (s : State) : Prop where
  room : s.drivers.length ≤ Config.driverEntries
  differ : (s.drivers.map Driver.number).Nodup
  entries : ∀ x ∈ s.drivers, x.LawfulIn s
  trips : ∀ i d, s.slot i = some d → d.driving ≤ d.duty

theorem hoursLaw_iff (s : State) : HoursLaw s ↔ DriverLaw s ∧ RingLaw s := by
  constructor
  · rintro ⟨room, differ, entries, trips⟩
    exact ⟨⟨room, differ, fun x hx => (entries x hx).binding⟩,
      fun x hx => ⟨ringLawful_slots.1 (entries x hx).ring, (entries x hx).start⟩, trips⟩
  · rintro ⟨⟨room, differ, bindings⟩, rings, trips⟩
    exact ⟨room, differ, fun x hx => ⟨ringLawful_slots.2 (rings x hx).1, (rings x hx).2, bindings x hx⟩, trips⟩

/-- A record that may stand in place of another: it still binds the driver that the other bound, and its trip is
lawful where the other's was. -/
structure Delivery.Succeeds (d e : Delivery) : Prop where
  binding : d.state.bindsDriver → e.state.bindsDriver ∧ e.driver = d.driver
  trip : d.driving ≤ d.duty → e.driving ≤ e.duty

/-- A record that differs in neither driver, state nor trip. -/
theorem Delivery.Succeeds.same {d e : Delivery} (hs : e.state = d.state) (hn : e.driver = d.driver)
    (hg : e.driving = d.driving) (hy : e.duty = d.duty) : d.Succeeds e :=
  ⟨fun h => ⟨hs ▸ h, hn⟩, fun h => by rwa [hg, hy]⟩

/-- A record with the same driver and trip, in a state that binds. -/
theorem Delivery.Succeeds.binds {d e : Delivery} (hs : e.state.bindsDriver) (hn : e.driver = d.driver)
    (hg : e.driving = d.driving) (hy : e.duty = d.duty) : d.Succeeds e :=
  ⟨fun _ => ⟨hs, hn⟩, fun h => by rwa [hg, hy]⟩

/-- A record in place of one that binds no driver. -/
theorem Delivery.Succeeds.unbound {d e : Delivery} (hs : d.state.bindsDriver = false)
    (ht : d.driving ≤ d.duty → e.driving ≤ e.duty) : d.Succeeds e :=
  ⟨fun h => by simp [hs] at h, ht⟩

/-- What a slot may hold after another content, while the hours table stays as it is. -/
def SlotSucceeds : Option Delivery → Option Delivery → Prop
  | some d, some e => d.Succeeds e
  | none, some e => e.driving ≤ e.duty
  | some d, none => d.state.bindsDriver = false
  | none, none => True

theorem SlotSucceeds.refl : ∀ x, SlotSucceeds x x
  | some _ => .same rfl rfl rfl rfl
  | none => trivial

/-- A record amended in place: an owned delivery keeps its trip, and one that is not BOOKED its driver (R17). -/
theorem Delivery.amend_succeeds {d : Delivery} {b : AmendBody} (hb : ¬ badAmend b = true)
    (hs : ¬ d.amendState b = true) : d.Succeeds (d.amend b) where
  binding hd := by
    refine ⟨hd, ?_⟩
    have driver : (driverPart b).isSome = true → d.state = .booked := by
      intro h
      by_contra hn
      exact hs (by simp [Delivery.amendState, h, hn])
    unfold Delivery.amend
    dsimp only
    split
    · rfl
    · rename_i n hn
      rw [driver (by rw [hn]; rfl)] at hd
      cases hd
  trip ht := by
    obtain ⟨-, trip, -⟩ := badAmend_iff.1 (Bool.not_eq_true _ ▸ hb)
    by_cases h : b.driving = 0 ∧ b.duty = 0
    · simpa [Delivery.amend, tripPart, h] using ht
    · simpa [Delivery.amend, tripPart, h] using (trip (by omega)).2.1

theorem State.offerDeclaration_frame (s : State) (ref now : Nat) (x : Driver) (y : Option Declaration) :
    s.offerDeclaration ref x now y = { s with log := (s.offerDeclaration ref x now y).log } := by
  cases y with
  | none => rfl
  | some y => exact s.offer_frame ..

namespace HoursLaw

variable {s t : State}

/-- The law reads the dispatch table, the hours table and terminal time alone, which may go on. -/
theorem of_slots (h : HoursLaw s) (hs : ∀ i, SlotSucceeds (s.slot i) (t.slot i)) (hx : t.drivers = s.drivers)
    (ht : s.now ≤ t.now) : HoursLaw t where
  room := hx ▸ h.room
  differ := hx ▸ h.differ
  entries x hm := by
    obtain ⟨ring, start, binding⟩ := h.entries x (hx ▸ hm)
    refine ⟨fun k => ?_, fun k hk => (start k hk).trans ht, fun i hi => ?_⟩
    · obtain ⟨driving, duty, day⟩ := ring k
      exact ⟨driving, duty, day.trans (Nat.div_le_div_right ht)⟩
    · obtain ⟨d, hd, hn, hb⟩ := binding i hi
      have kept := hs i
      rw [hd] at kept
      cases he : t.slot i with
      | none =>
        rw [he] at kept
        exact absurd hb (by simp [show d.state.bindsDriver = false from kept])
      | some e =>
        rw [he] at kept
        obtain ⟨hb, hn'⟩ := Delivery.Succeeds.binding kept hb
        exact ⟨e, rfl, hn'.trans hn, hb⟩
  trips i e he := by
    have kept := hs i
    rw [he] at kept
    cases hd : s.slot i with
    | none =>
      rw [hd] at kept
      exact kept
    | some d =>
      rw [hd] at kept
      exact Delivery.Succeeds.trip kept (h.trips i d hd)

theorem frame (h : HoursLaw s) (hd : t.dispatch = s.dispatch) (hx : t.drivers = s.drivers) (ht : t.time = s.time) :
    HoursLaw t :=
  h.of_slots (fun i => by rw [State.slot, State.slot, hd]; exact .refl _) hx (by rw [State.now, State.now, ht])

/-- Terminal time goes on. -/
theorem later (h : HoursLaw s) {n : Nat} (hn : s.now ≤ n) : HoursLaw { s with time := some n } :=
  h.of_slots (fun _ => .refl _) rfl hn

/-- Records that stay alike in driver, state and trip. -/
theorem alike (h : HoursLaw s) (k : s.Alike t) (hx : t.drivers = s.drivers) (ht : t.time = s.time) : HoursLaw t := by
  refine h.of_slots (fun i => ?_) hx (by rw [State.now, State.now, ht])
  cases he : t.slot i with
  | none =>
    have none := k.slot i
    rw [he] at none
    cases hd : s.slot i with
    | none => trivial
    | some d => rw [hd] at none; cases none
  | some e =>
    obtain ⟨d, hd, hh⟩ := k.record he
    simp only [Delivery.head, Prod.mk.injEq] at hh
    obtain ⟨-, hs, -, hn, hg, hy, -⟩ := hh
    rw [hd]
    exact Delivery.Succeeds.same hs hn hg hy

/-- A slot written. -/
theorem write (h : HoursLaw s) {i : SlotNo} {x : Option Delivery} (hx : SlotSucceeds (s.slot i) x) :
    HoursLaw (s.setSlot i x) :=
  h.of_slots (fun j => by
    rw [State.slot_setSlot]
    split
    · rename_i hj
      exact hj ▸ hx
    · exact .refl _) rfl le_rfl

/-- A record written in place of another. -/
theorem setSlot (h : HoursLaw s) {i : SlotNo} {d e : Delivery} (hd : s.slot i = some d) (he : d.Succeeds e) :
    HoursLaw (s.setSlot i (some e)) := h.write (hd ▸ he)

/-- A slot freed to which no driver is bound. -/
theorem clear (h : HoursLaw s) {i : SlotNo} (hi : ∀ x ∈ s.drivers, x.bound ≠ some i) : HoursLaw (s.setSlot i none) where
  room := h.room
  differ := h.differ
  entries x hx := by
    obtain ⟨ring, start, binding⟩ := h.entries x hx
    refine ⟨ring, start, fun j hj => ?_⟩
    have hji : j ≠ i := fun e => hi x hx (e ▸ hj)
    rw [State.slot_setSlot, if_neg hji]
    exact binding j hj
  trips j d hd := by
    rcases State.slot_setSlot_some hd with ⟨-, hd⟩ | ⟨-, hd⟩
    · exact h.trips j d hd
    · cases hd

/-- Every entry of the hours table changed, each keeping its number. -/
theorem mapDrivers (h : HoursLaw s) {f : Driver → Driver} (hn : ∀ x ∈ s.drivers, (f x).number = x.number)
    (hf : ∀ x ∈ s.drivers, x.LawfulIn s → (f x).LawfulIn s) : HoursLaw { s with drivers := s.drivers.map f } where
  room := by simpa using h.room
  differ := by
    have numbers : (s.drivers.map f).map Driver.number = s.drivers.map Driver.number := by
      rw [List.map_map]
      exact List.map_congr_left hn
    exact (congrArg List.Nodup numbers).mpr h.differ
  entries y hy := by
    obtain ⟨x, hx, rfl⟩ := List.mem_map.1 hy
    obtain ⟨ring, start, binding⟩ := hf x hx (h.entries x hx)
    exact ⟨ring, start, binding⟩
  trips := h.trips

/-- The entry of a number written with a lawful entry of that number. -/
theorem setDriver (h : HoursLaw s) {y : Driver} {n : Nat} (hy : y.LawfulIn s) (hn : y.number = n) :
    HoursLaw (s.updDriver n fun _ => y) := by
  refine h.mapDrivers (fun x _ => ?_) fun x _ hx => ?_
  · split
    · rename_i hxn
      exact hn.trans hxn.symm
    · rfl
  · split
    · exact hy
    · exact hx

/-- An entry entered under a number that the table does not hold. -/
theorem enter (h : HoursLaw s) {n day : Nat} (hroom : s.drivers.length < Config.driverEntries)
    (hn : s.driver n = none) : HoursLaw { s with drivers := s.drivers ++ [Driver.fresh n day] } where
  room := by simpa using hroom
  differ := by
    have unused : n ∉ s.drivers.map Driver.number := fun hm => by
      obtain ⟨x, hx, hxn⟩ := List.mem_map.1 hm
      exact List.find?_eq_none.1 hn x hx (by simp [hxn])
    rw [List.map_append, List.nodup_append]
    refine ⟨h.differ, List.nodup_singleton _, fun a ha b hb => ?_⟩
    obtain rfl : b = n := by simpa [Driver.fresh] using hb
    exact fun hab => unused (hab ▸ ha)
  entries x hx := by
    rcases List.mem_append.1 hx with hx | hx
    · obtain ⟨ring, start, binding⟩ := h.entries x hx
      exact ⟨ring, start, binding⟩
    · obtain rfl := List.mem_singleton.1 hx
      refine ⟨fun k => ?_, nofun, nofun⟩
      rw [show (Driver.fresh n day).ring.get k = ⟨0, 0, 0⟩ from get_replicate ..]
      exact ⟨le_rfl, Nat.zero_le _, Nat.zero_le _⟩
  trips := h.trips

/-- Entries taken out of the table. -/
theorem remove (h : HoursLaw s) {p : Driver → Bool} : HoursLaw { s with drivers := s.drivers.filter p } where
  room := (List.length_filter_le ..).trans h.room
  differ := h.differ.sublist (List.filter_sublist.map _)
  entries x hx := by
    obtain ⟨ring, start, binding⟩ := h.entries x (List.mem_filter.1 hx).1
    exact ⟨ring, start, binding⟩
  trips := h.trips

theorem ite {p : Prop} [Decidable p] (h : HoursLaw s) (k : p → HoursLaw t) : HoursLaw (if p then t else s) := by
  split
  · exact k ‹_›
  · exact h

theorem foldl {α : Type} {f : State → α → State} (hf : ∀ s y, HoursLaw s → HoursLaw (f s y)) {ys : List α}
    (h : HoursLaw s) : HoursLaw (ys.foldl f s) := by
  induction ys generalizing s with
  | nil => exact h
  | cons y ys ih => exact ih (hf s y h)

/-! #### Bays, compartments, the log and the ports -/

theorem setBay {b : BayNo} {q : BayRecord} (h : HoursLaw s) : HoursLaw (s.setBay b q) := h.frame rfl rfl rfl

theorem setArm {b : BayNo} {a : Arm} {y : ArmRecord} (h : HoursLaw s) : HoursLaw (s.setArm b a y) := h.setBay

theorem updComp {i : SlotNo} {k : Nat} {f : Compartment → Compartment} (h : HoursLaw s) : HoursLaw (s.updComp i k f) :=
  h.alike (.updComp ..) (by rw [State.updComp_frame]) (by rw [State.updComp_frame])

theorem updOrphan {b : BayNo} {a : Arm} {f : Orphan → Orphan} (h : HoursLaw s) : HoursLaw (s.updOrphan b a f) := by
  rw [State.updOrphan_eq]
  exact h.setArm

theorem freeArm {y : Option ArmRef} (h : HoursLaw s) : HoursLaw (s.freeArm y) := by
  cases y with
  | none => exact h
  | some y => exact h.setArm

theorem admitEntry {ref driver : Nat} {y : Payload} (h : HoursLaw s) : HoursLaw (s.admitEntry ref driver y) :=
  h.frame rfl rfl rfl

theorem offer {ref driver : Nat} {y : Payload} (h : HoursLaw s) : HoursLaw (s.offer ref driver y) :=
  ite (h.frame rfl rfl rfl) fun _ => h.admitEntry

theorem setPort {p : Port} {y : PortState} (h : HoursLaw s) : HoursLaw (s.setPort p y) := by
  cases p <;> exact h.frame rfl rfl rfl

theorem enqueue {b : BayNo} {rule : List Message → List Message} (h : HoursLaw s) : HoursLaw (s.enqueue b rule) :=
  h.ite fun _ => h.setBay

theorem stopIf {y : Bool} {b : BayNo} {a : Arm} (h : HoursLaw s) : HoursLaw (s.stopIf y b a) := h.ite fun _ => h.enqueue

theorem replyPage {p : PageNo} {y : PageOutcome} (h : HoursLaw s) : HoursLaw (s.replyPage p y) := h.frame rfl rfl rfl

theorem replyAwaited {n : Nat} {b : FrameBody} (h : HoursLaw s) : HoursLaw (s.replyAwaited n b) := h.frame rfl rfl rfl

theorem beginWrite (h : HoursLaw s) : HoursLaw s.beginWrite := h.frame rfl rfl rfl

theorem settleRound (h : HoursLaw s) : HoursLaw s.settleRound := h.ite fun _ => h.frame rfl rfl rfl

theorem endVisit (h : HoursLaw s) : HoursLaw s.endVisit := settleRound (h.frame rfl rfl rfl)

/-! #### Papers, sessions and reports -/

theorem issuePaper {i : SlotNo} {d e : Delivery} {n v : Nat} (h : HoursLaw s) (hd : s.slot i = some d)
    (he : d.Succeeds e) : HoursLaw (s.issuePaper i e n v) :=
  offer (h.setSlot hd ⟨he.binding, he.trip⟩)

theorem rebuild {i : SlotNo} (h : HoursLaw s) : HoursLaw (s.rebuild i) := by
  unfold State.rebuild
  split
  · exact h
  · rename_i d hd
    split
    · exact h
    · exact h.issuePaper hd (.same rfl rfl rfl rfl)

/-- A session ends in ARRIVED or LOADED, which both bind. -/
theorem endSession {i : SlotNo} (h : HoursLaw s) : HoursLaw (s.endSession i) := by
  unfold State.endSession
  split
  · exact h
  · rename_i d hd
    have session : d.Succeeds d.afterSession :=
      .binds (by unfold Delivery.afterSession; dsimp only; split <;> rfl) rfl rfl rfl
    have ended : HoursLaw ((s.setSlot i (some d.afterSession)).unbindBay d.bay) := by
      cases d.bay with
      | none => exact h.setSlot hd session
      | some b => exact (h.setSlot hd session).setBay
    have issued : ∀ {n v : Nat} {t : State}, HoursLaw t → t.slot i = some d.afterSession →
        HoursLaw (t.issuePaper i d.afterSession n v) := fun h hd => h.issuePaper hd (.same rfl rfl rfl rfl)
    have slot : ((s.setSlot i (some d.afterSession)).unbindBay d.bay).slot i = some d.afterSession :=
      (State.slot_unbindBay ..).trans (State.slot_setSlot_self ..)
    exact ended.ite fun _ => ite (issued (ended.frame rfl rfl rfl) slot) fun _ => ended

theorem reachDone {i : SlotNo} {k : Nat} (h : HoursLaw s) : HoursLaw (s.reachDone i k) := by
  unfold State.reachDone
  iterate 2 (split; · exact h)
  rename_i c _
  have freed : HoursLaw ((s.updComp i k fun _ => c.ended).freeArm c.arm) := h.updComp.freeArm
  have logged : ∀ {ref driver : Nat} {y : Payload},
      HoursLaw (((s.updComp i k fun _ => c.ended).freeArm c.arm).offer ref driver y) := freed.offer
  dsimp only
  split <;> split
  · exact freed.rebuild
  · exact logged.rebuild
  · exact freed
  · exact logged

theorem clearOrphan {b : BayNo} {a : Arm} (h : HoursLaw s) : HoursLaw (s.clearOrphan b a) := by
  unfold State.clearOrphan
  split
  · exact h.offer.setArm
  · exact h

theorem moveComp {b : BayNo} {a : Arm} {i : SlotNo} {k : Nat} {y : Move} (h : HoursLaw s) :
    HoursLaw (s.moveComp b a i k y) := by
  cases y with
  | keep => exact h
  | flow | await | settle => exact h.updComp
  | reopen => exact h.updComp.enqueue
  | finish => exact h.reachDone

theorem moveOrphan {b : BayNo} {a : Arm} {y : Move} (h : HoursLaw s) : HoursLaw (s.moveOrphan b a y) := by
  cases y with
  | keep | flow => exact h
  | await | settle => exact h.updOrphan
  | reopen => exact h.updOrphan.enqueue
  | finish => exact h.clearOrphan

theorem report {b : BayNo} {y : Report} (h : HoursLaw s) : HoursLaw (s.report b y) := by
  unfold State.report
  split
  · exact h.ite fun _ => h.offer.enqueue
  · unfold State.reportComp
    split
    · exact h
    · exact h.ite fun _ => h.updComp.stopIf.moveComp
  · exact h.updOrphan.stopIf.moveOrphan

/-! #### Interruption, the latch, and loading deadlines -/

theorem interruptArm {b : BayNo} {a : Arm} (h : HoursLaw s) : HoursLaw (s.interruptArm b a) := by
  unfold State.interruptArm
  split
  · exact h
  · exact h.updComp
  · exact h.updOrphan

theorem latchEvent (h : HoursLaw s) : HoursLaw s.latchEvent :=
  h.alike (.latchEvent s) (by rw [State.latchEvent_frame]) (by rw [State.latchEvent_frame])

theorem addCause {c : Cause} (h : HoursLaw s) : HoursLaw (s.addCause c) := by
  have latched : HoursLaw { s with latch := s.latch.add c } := h.frame rfl rfl rfl
  exact ite (latched.latchEvent.offer.ite fun _ => latched.offer) fun _ => h

theorem permitExpired {i : SlotNo} {k : Nat} (h : HoursLaw s) : HoursLaw (s.permitExpired i k) := by
  unfold State.permitExpired
  split
  · exact h
  · dsimp only
    split
    · exact h.updComp.freeArm
    · exact h.updComp.freeArm.enqueue

theorem flowingExpired {i : SlotNo} {k : Nat} (h : HoursLaw s) : HoursLaw (s.flowingExpired i k) := by
  unfold State.flowingExpired
  split
  · exact h
  · dsimp only
    split
    · exact h.updComp
    · exact h.updComp.enqueue

theorem settleExpired {y : DeadlineOf} (h : HoursLaw s) : HoursLaw (s.settleExpired y) := by
  cases y with
  | compartment i k => exact h.reachDone
  | orphan b a => exact h.clearOrphan

theorem stopExpired {y : DeadlineOf} (h : HoursLaw s) : HoursLaw (s.stopExpired y) := by
  cases y with
  | compartment i k => exact h.updComp.reachDone.addCause
  | orphan b a => exact h.updOrphan.clearOrphan.addCause

theorem expire {y : Option Deadline} {k : DeadlineKind} {f : State → State} (h : HoursLaw s)
    (hf : ∀ t, HoursLaw t → HoursLaw (f t)) : HoursLaw (s.expire y k f) := by
  unfold State.expire
  split
  · exact h
  · exact h.ite fun _ => hf _ (h.frame rfl rfl rfl)

theorem assertInput (h : HoursLaw s) : HoursLaw s.assertInput := by
  have asserted : HoursLaw { s with shutdownInput := true } := h.frame rfl rfl rfl
  exact asserted.ite fun _ => asserted.addCause

/-! #### Bay requests -/

/-- A CLAIM takes a delivery to AT_BAY, which binds. -/
theorem takeClaim {b : BayNo} {ref : Nat} (h : HoursLaw s) : HoursLaw (s.takeClaim b ref) := by
  unfold State.takeClaim
  split
  · exact h.enqueue
  · rename_i hf
    iterate 4 (split; · exact h.enqueue)
    exact enqueue (offer (setBay (h.setSlot (State.find_some hf).1 (.binds rfl rfl rfl rfl))))

theorem takeStart {b : BayNo} {a : Arm} {k p : Nat} (h : HoursLaw s) : HoursLaw (s.takeStart b a k p) := by
  unfold State.takeStart
  iterate 4 (split; · exact h.enqueue)
  split
  · exact enqueue (h.ite fun _ => h.offer)
  · exact h.updComp.setArm.enqueue.enqueue

theorem takeFinish {b : BayNo} (h : HoursLaw s) : HoursLaw (s.takeFinish b) := by
  unfold State.takeFinish
  iterate 4 (split; · exact h.enqueue)
  exact h.endSession.enqueue

theorem faultArm {b : BayNo} {a : Arm} (h : HoursLaw s) : HoursLaw (s.faultArm b a) := by
  unfold State.faultArm
  split
  · exact h
  · split
    · exact h
    · dsimp only
      split
      · exact h.updComp.updComp.enqueue
      · exact h.updComp.updComp.enqueue
      · exact h.updComp.enqueue
      · exact h.updComp
      all_goals exact h
  · dsimp only
    split
    · exact h.updOrphan.enqueue
    · exact h.updOrphan

theorem takeFault {b : BayNo} {code : Nat} (h : HoursLaw s) : HoursLaw (s.takeFault b code) := by
  have granted : HoursLaw (s.grantFault b code) := h.faultArm.faultArm.offer.enqueue
  unfold State.takeFault
  iterate 2 (split; · exact granted)
  exact granted.ite fun _ => h.enqueue

/-! #### Exchanges -/

theorem takeAnswer {b : BayNo} {a : Answer} (h : HoursLaw s) : HoursLaw (s.takeAnswer b a) := by
  cases a with
  | status ys => exact h.foldl fun _ _ h => h.report
  | claim ref => exact h.ite fun _ => h.takeClaim
  | start a k p => exact h.ite fun _ => h.takeStart
  | finish => exact h.ite fun _ => h.takeFinish
  | fault code => exact h.ite fun _ => h.takeFault

theorem miss {b : BayNo} {y : Bool} (h : HoursLaw s) : HoursLaw (s.miss b y) := by
  unfold State.miss
  dsimp only
  split
  · exact h.setBay
  · exact ite (h.setBay.setBay.interruptArm.interruptArm.offer) fun _ => h.setBay
  · exact h.setBay

theorem answered {b : BayNo} (h : HoursLaw s) : HoursLaw (s.answered b) := by
  have stops : HoursLaw (s.returnStops b) := h.setBay.offer.stopIf.stopIf
  exact h.setBay.ite fun _ => stops.ite fun _ => stops.enqueue

theorem endByAnswer {v : Visit} {e : Exchange} {words : List RxWord} (h : HoursLaw s) :
    HoursLaw (s.endByAnswer v e words) := by
  unfold State.endByAnswer
  split
  · exact h.endVisit
  · split
    · exact h.miss.endVisit
    · rename_i a _
      have taken : HoursLaw (s.validAnswer v.bay e.sent a) := by
        refine takeAnswer ?_
        rw [State.removeSent_eq]
        exact h.answered.setBay
      exact ite (taken.frame rfl rfl rfl) fun _ => taken.endVisit

theorem endByWindow {v : Visit} (h : HoursLaw s) : HoursLaw (s.endByWindow v) := h.miss.endVisit.ite fun _ => h.endVisit

theorem beginExchange (h : HoursLaw s) : HoursLaw s.beginExchange := by
  unfold State.beginExchange
  split
  · exact h
  · exact h.frame rfl rfl rfl

theorem sendAllStop (h : HoursLaw s) : HoursLaw s.sendAllStop :=
  ite (h.frame rfl rfl rfl) fun _ => h.frame rfl rfl rfl

/-! #### The requests of the office -/

theorem acceptDeferred {p : Port} {tag code ref driver : Nat} {y : Payload} (h : HoursLaw s) :
    HoursLaw (s.acceptDeferred p tag code ref driver y).1 := setPort h.admitEntry

/-- A delivery enters its slot with the trip that R12 admits. -/
theorem book {b : BookBody} (h : HoursLaw s) : HoursLaw (s.book b).1 := by
  unfold State.book
  split
  · exact h
  · rename_i hb
    obtain ⟨-, -, -, -, -, ⟨trip, -⟩, -⟩ := badBook_iff.1 (Bool.not_eq_true _ ▸ hb)
    iterate 2 (split; · exact h)
    split
    · exact h
    · exact h
    · rename_i i _ hi
      split
      · exact h
      · refine h.admitEntry.write ?_
        rw [show (s.admitEntry b.ref 0 _).slot i = none from State.slot_freeSlot hi]
        exact trip

/-- Only a BOOKED delivery, which binds no driver, changes its driver; a new trip is in the ranges of R12. -/
theorem amend {b : AmendBody} (h : HoursLaw s) : HoursLaw (s.amend b).1 := by
  unfold State.amend
  split
  · exact h
  · rename_i hb
    split
    · exact h
    · rename_i i d hf
      iterate 2 (split; · exact h)
      split
      · exact h
      · rename_i hs
        split
        · exact h
        · exact h.admitEntry.setSlot (State.find_some hf).1 (Delivery.amend_succeeds hb hs)

theorem dismissBay {i : SlotNo} {b : Option BayNo} (h : HoursLaw s) : HoursLaw (s.dismissBay i b) := by
  cases b with
  | none => exact h
  | some b =>
    unfold State.dismissBay State.queueDismiss
    exact h.setBay.enqueue

theorem cancel {p : Port} {tag ref : Nat} (h : HoursLaw s) : HoursLaw (s.cancel p tag ref).1 := by
  unfold State.cancel
  split
  · exact h
  · rename_i i d hf
    iterate 3 (split; · exact h)
    refine dismissBay (h.acceptDeferred.setSlot (d := d) ?_ (.binds rfl rfl rfl rfl))
    cases p <;> exact (State.find_some hf).1

theorem detach {ref : Nat} (h : HoursLaw s) : HoursLaw (s.detach ref).1 := by
  unfold State.detach
  iterate 4 (split; · exact h)
  exact h.admitEntry.endSession

theorem override {p : Port} {tag ref set supervisor : Nat} (h : HoursLaw s) :
    HoursLaw (s.override p tag ref set supervisor).1 := by
  unfold State.override
  iterate 6 (split; · exact h)
  exact h.acceptDeferred

theorem deliveryRead {ref : Nat} (h : HoursLaw s) : HoursLaw (s.deliveryRead ref).1 := by
  unfold State.deliveryRead
  split
  · exact h
  · rename_i hf
    exact h.setSlot (State.find_some hf).1 (.same rfl rfl rfl rfl)

theorem setProduct {k : Nat} {e : Product} (h : HoursLaw s) : HoursLaw (s.setProduct k e) := by
  rw [State.setProduct_frame]
  exact h.frame rfl rfl rfl

theorem productDefine {b : ProductBody} (h : HoursLaw s) : HoursLaw (s.productDefine b).1 := by
  unfold State.productDefine
  iterate 3 (split; · exact h)
  exact h.setProduct

theorem productState {code target : Nat} (h : HoursLaw s) : HoursLaw (s.productState code target).1 := by
  unfold State.productState
  iterate 3 (split; · exact h)
  exact h.setProduct

theorem settingsWrite {b : SettingsBody} (h : HoursLaw s) : HoursLaw (s.settingsWrite b).1 := by
  unfold State.settingsWrite
  split
  · exact h
  · exact settleRound (h.frame rfl rfl rfl)

/-- A delivery expires from BOOKED, which binds no driver. -/
theorem expireSlot {i : SlotNo} (h : HoursLaw s) : HoursLaw (s.expireSlot i) := by
  unfold State.expireSlot
  split
  · exact h
  · rename_i d hd
    refine h.ite fun ⟨due, _⟩ => h.admitEntry.setSlot hd (.unbound ?_ id)
    simp only [Delivery.due, Bool.and_eq_true, beq_iff_eq] at due
    rw [due.1]
    rfl

theorem moveTime {n : Nat} (h : HoursLaw s) (hn : s.now ≤ n) : HoursLaw (s.moveTime n) :=
  foldl (fun _ _ h => h.expireSlot) (h.later hn)

/-- TIME_SET does not turn terminal time back. -/
theorem timeSet {n : Nat} (h : HoursLaw s) : HoursLaw (s.timeSet n).1 := by
  unfold State.timeSet
  split
  · exact h
  · split
    · exact h
    · rename_i hb
      split
      · exact h
      · refine ite (h.admitEntry.moveTime ?_) fun _ => h.admitEntry
        change s.now ≤ n
        unfold State.now
        cases ht : s.time with
        | none => exact Nat.zero_le n
        | some now => simpa [ht] using hb

theorem advanceTime (h : HoursLaw s) : HoursLaw s.advanceTime := by
  unfold State.advanceTime
  split
  · exact h
  · rename_i now ht
    have forward : s.now ≤ now + 1 := by simp [State.now, ht]
    exact h.ite fun _ => ite (h.later forward) fun _ => h.moveTime forward

theorem shutdownClear (h : HoursLaw s) : HoursLaw s.shutdownClear.1 := by
  unfold State.shutdownClear
  split
  · exact h
  · split
    · exact .offer (h.frame rfl rfl rfl)
    · exact h

theorem reclaim {p : Port} {tag n : Nat} (h : HoursLaw s) : HoursLaw (s.reclaim p tag n).1 := by
  unfold State.reclaim
  split
  · iterate 2 (split; · exact h)
    exact .setPort (h.frame rfl rfl rfl)
  · exact h

theorem bayRead {n : Nat} (h : HoursLaw s) : HoursLaw (s.bayRead n).1 := by
  unfold State.bayRead
  split
  · exact h.updOrphan.updOrphan
  · split <;> exact h

theorem restart {n : Nat} (h : HoursLaw s) : HoursLaw (s.restart n).1 := by
  unfold State.restart
  split
  · exact h
  · exact h
  · split <;> exact h

/-! #### RELEASE -/

theorem makeOrphans {d : Delivery} {cs : List Compartment} (h : HoursLaw s) :
    HoursLaw (cs.foldl (State.makeOrphan d) s) := by
  refine h.foldl fun s c h => ?_
  unfold State.makeOrphan
  split
  · split
    · exact h
    · exact h.setArm
  · exact h

/-- A RELEASE takes a delivery to HELD or RELEASING, which both bind. -/
theorem release {p : Port} {tag ref driver : Nat} (h : HoursLaw s) : HoursLaw (s.release p tag ref driver).1 := by
  unfold State.release
  split
  · exact h
  · split
    · exact h
    · rename_i i d hf
      have hd := (State.find_some hf).1
      iterate 4 (split; · exact h)
      dsimp only
      split
      · have held : HoursLaw (s.setSlot i (some { d.paperReadouts with
            state := .held, holds := (s.computeHolds d).holds })) := h.setSlot hd (.binds rfl rfl rfl rfl)
        exact held.offer.ite fun _ => held
      · have read : HoursLaw (s.setSlot i (some d.paperReadouts)) := h.setSlot hd (.same rfl rfl rfl rfl)
        unfold State.acceptRelease
        dsimp only
        split
        · exact read
        · refine makeOrphans (read.acceptDeferred.setSlot (d := d.paperReadouts) ?_ (.binds rfl rfl rfl rfl))
          cases p <;> exact State.slot_setSlot_self ..

/-! #### The drivers of the hours table -/

/-- DRIVER_REGISTER enters a number that the table does not hold, and only while there is room (R108). -/
theorem driverRegister {n day : Nat} (h : HoursLaw s) : HoursLaw (s.driverRegister n day).1 := by
  unfold State.driverRegister
  split
  · exact h
  · split
    · rename_i x hx
      obtain ⟨hm, hn⟩ := State.driver_number hx
      obtain ⟨ring, start, binding⟩ := h.entries x hm
      split
      · exact h
      · exact h.setDriver ⟨ring, start, binding⟩ hn
    · rename_i hx
      split
      · exact h
      · rename_i room
        exact h.enter (Nat.not_le.1 room) hx

theorem driverRemove {n : Nat} (h : HoursLaw s) : HoursLaw (s.driverRemove n).1 := by
  unfold State.driverRemove
  iterate 4 (split; · exact h)
  exact h.remove

theorem offerDeclaration {ref now : Nat} {x : Driver} {y : Option Declaration} (h : HoursLaw s) :
    HoursLaw (s.offerDeclaration ref x now y) := by
  cases y with
  | none => exact h
  | some y => exact h.offer

/-- The declared or kept ring and shift start of the driver who arrives are lawful at the present moment. -/
theorem acceptArrive {b : ArriveBody} {now : Nat} {i : SlotNo} {d : Delivery} {x : Driver} (h : HoursLaw s)
    (ht : s.time = some now) (hd : s.slot i = some d) (hs : d.state = .booked) (hx : s.driver b.driver = some x) :
    HoursLaw (s.acceptArrive b now i d x).1 := by
  obtain ⟨hm, hn⟩ := State.driver_number hx
  obtain ⟨ring, start, -⟩ := h.entries x hm
  have hnow : s.now = now := by rw [State.now, ht]; rfl
  rw [State.today, hnow] at ring
  rw [hnow] at start
  have arrived : ∀ u : State, HoursLaw u → u.time = s.time → u.dispatch = s.dispatch →
      HoursLaw ((u.setSlot i (some (d.arrive b.driver now))).updDriver b.driver
        fun _ => x.arrive b.declaration now i) := by
    intro u hu hut hud
    have hunow : u.now = now := by rw [State.now, hut]; exact hnow
    have bound : HoursLaw (u.setSlot i (some (d.arrive b.driver now))) :=
      hu.setSlot (d := d) (by rw [State.slot, hud]; exact hd) (.unbound (by rw [hs]; rfl) id)
    refine bound.setDriver ⟨?_, fun k hk => ?_, fun j hj => ?_⟩ ?_
    · rw [State.today, show (u.setSlot i _).now = now from hunow]
      cases b.declaration with
      | none => exact ring
      | some y => exact ring.mergeRing y
    · rw [show (u.setSlot i _).now = now from hunow]
      cases hy : b.declaration with
      | none => exact start k (by simpa [Driver.arrive, hy] using hk)
      | some y =>
        obtain rfl : min y.restEnd now = k := by simpa [Driver.arrive, Driver.declare, hy] using hk
        exact min_le_right ..
    · obtain rfl : i = j := Option.some.inj hj
      refine ⟨_, State.slot_setSlot_self .., ?_, rfl⟩
      cases b.declaration <;> exact congrArg some hn.symm
    · cases b.declaration <;> exact hn
  refine arrived _ (offerDeclaration h.admitEntry) ?_ ?_
  · rw [State.offerDeclaration_frame]; rfl
  · rw [State.offerDeclaration_frame]; rfl

/-- ARRIVE binds a driver to a BOOKED delivery, to which none is bound, and names that driver (R114). -/
theorem announce {b : ArriveBody} (h : HoursLaw s) : HoursLaw (s.announce b).1 := by
  unfold State.announce
  iterate 2 (split; · exact h)
  rename_i now ht
  split
  · exact h
  · rename_i i d hf
    iterate 2 (split; · exact h)
    rename_i hs
    split
    · exact h
    · split
      · exact h
      · exact h
      · rename_i x hx _
        exact h.acceptArrive ht (State.find_some hf).1 (not_not.1 hs) hx

/-! #### The log store -/

/-- The completion of a RELEASE commits the trip of the driver that the delivery names (R121). -/
theorem commit {i : SlotNo} {d : Delivery} (h : HoursLaw s) (hd : s.slot i = some d) : HoursLaw (s.commit d) := by
  unfold State.commit
  split
  · exact h
  · refine h.mapDrivers (fun x _ => by split <;> rfl) fun x _ hx => ?_
    split
    · exact ⟨hx.ring.commitRing (h.trips i d hd), hx.start, nofun⟩
    · exact hx

/-- After the commit of a delivery no driver is bound to its slot. -/
theorem commit_unbound {i : SlotNo} {d : Delivery} (h : HoursLaw s) (hd : s.slot i = some d) :
    ∀ x ∈ (s.commit d).drivers, x.bound ≠ some i := by
  have named : ∀ x ∈ s.drivers, x.bound = some i → d.driver = some x.number := fun x hx hb => by
    obtain ⟨e, he, hn, -⟩ := (h.entries x hx).binding i hb
    rwa [Option.some.inj (hd.symm.trans he)]
  unfold State.commit
  split
  · rename_i hn
    intro x hx hb
    have := named x hx hb
    simp [hn] at this
  · rename_i n hn
    intro y hy
    obtain ⟨x, hx, rfl⟩ := List.mem_map.1 hy
    split
    · exact nofun
    · rename_i hne
      exact fun hb => hne (Option.some.inj ((named x hx hb).symm.trans hn))

/-- The completion of a CANCEL clears the binding to its slot (R121). -/
theorem unbind (i : SlotNo) (h : HoursLaw s) : HoursLaw (s.unbind i) := by
  refine h.mapDrivers (fun x _ => by split <;> rfl) fun x _ hx => ?_
  split
  · exact ⟨hx.ring, hx.start, nofun⟩
  · exact hx

theorem unbind_unbound (s : State) (i : SlotNo) : ∀ x ∈ (s.unbind i).drivers, x.bound ≠ some i := by
  intro y hy
  obtain ⟨x, hx, rfl⟩ := List.mem_map.1 hy
  split
  · exact nofun
  · assumption

theorem takeLeave {i : SlotNo} (h : HoursLaw s) : HoursLaw (s.takeLeave i) := h.frame rfl rfl rfl

/-- A slot is freed after its driver is unbound, or from EXPIRING, which binds none. -/
theorem complete {e : Entry} (h : HoursLaw s) : HoursLaw (s.complete e) := by
  unfold State.complete
  split
  · exact h
  · rename_i i d hf
    have hd := (State.find_some hf).1
    unfold State.completeFor
    split
    · exact h.ite fun _ => (h.commit hd).replyAwaited.clear (h.commit_unbound hd)
    · exact h.ite fun _ => (h.unbind i).takeLeave.replyAwaited.clear (unbind_unbound s i)
    · refine h.ite fun hs => h.write ?_
      rw [hd]
      change d.state.bindsDriver = false
      rw [hs]
      rfl
    · exact replyAwaited (h.setSlot hd (.same rfl rfl rfl rfl))
    · exact h

theorem writeDone (h : HoursLaw s) : HoursLaw s.writeDone := by
  unfold State.writeDone
  split
  · exact h
  · rename_i e rest _
    have done : HoursLaw ({ s with log := s.log.written e rest }.complete e) := .complete (h.frame rfl rfl rfl)
    exact done.frame rfl rfl rfl

theorem takePages {ps : List PageNo} (h : HoursLaw s) : HoursLaw (State.takePages ps s) := by
  induction ps generalizing s with
  | nil => exact h.frame rfl rfl rfl
  | cons p ps ih =>
    unfold State.takePages
    split
    · exact ih h.replyPage
    · exact h.frame rfl rfl rfl

theorem eraseDone (h : HoursLaw s) : HoursLaw s.eraseDone := by
  unfold State.eraseDone
  split
  · exact h
  · exact .beginWrite (.takePages (h.frame rfl rfl rfl))

theorem eraseFailed (h : HoursLaw s) : HoursLaw s.eraseFailed := by
  unfold State.eraseFailed
  split
  · exact h
  · exact .beginWrite (.takePages (.replyPage (.offer (h.frame rfl rfl rfl))))

/-! #### Starts -/

theorem enterStep2 (h : HoursLaw s) : HoursLaw s.enterStep2 := by
  rw [State.enterStep2_frame]
  exact h.frame rfl rfl rfl

theorem enterStep1 (h : HoursLaw s) : HoursLaw s.enterStep1 := by
  rw [State.enterStep1_frame]
  exact h.frame rfl rfl rfl

/-- A cold start leaves no delivery and no driver (R25). -/
theorem coldState (s : State) : HoursLaw s.coldState where
  room := Nat.zero_le _
  differ := List.nodup_nil
  entries := nofun
  trips i d hd := by
    have free : s.coldState.slot i = none := get_replicate ..
    rw [free] at hd
    cases hd

theorem begin {kind : StartKind} (h : HoursLaw s) : HoursLaw (s.begin kind) := by
  cases kind with
  | warm =>
    have warm : HoursLaw s.warmState :=
      h.alike (.warm (fun i => get_mapTable ..) (fun b => get_mapTable ..) id) rfl rfl
    exact warm.enterStep1
  | cold => exact (coldState s).enterStep1

theorem startErase {v : Bool} (h : HoursLaw s) : HoursLaw (s.startErase v) := by
  unfold State.startErase
  split
  · exact h
  · exact enterStep2 (ite (h.frame rfl rfl rfl) fun _ => h.frame rfl rfl rfl)

theorem deassertReset (h : HoursLaw s) : HoursLaw s.deassertReset := by
  have free : HoursLaw { s with resetInput := false } := h.frame rfl rfl rfl
  exact free.ite fun _ => free.enterStep2

theorem assertReset (h : HoursLaw s) : HoursLaw s.assertReset := by
  have asserted : HoursLaw { s with resetInput := true } := h.frame rfl rfl rfl
  exact (asserted.ite fun _ => asserted.begin).ite fun _ => h

theorem regainPower {x : Bool} (h : HoursLaw s) : HoursLaw (s.regainPower x) :=
  (h.begin.ite fun _ => h.begin).ite fun _ => h

theorem dropWritten {es : List Entry} (h : HoursLaw s) : HoursLaw (State.dropWritten es s) := by
  induction es generalizing s with
  | nil => exact h
  | cons e es ih => exact h.ite fun _ => ih (.complete (h.frame rfl rfl rfl))

/-- A delivery returns to BOOKED from EXPIRING, which binds no driver. -/
theorem withdrawExpiry {e : Entry} (h : HoursLaw s) : HoursLaw (s.withdrawExpiry e) := by
  unfold State.withdrawExpiry
  split
  · rename_i hf
    exact h.ite fun hs => h.setSlot (State.find_some hf).1 (.unbound (hs ▸ rfl) id)
  · exact h

theorem dropBack (h : HoursLaw s) : HoursLaw s.dropBack := by
  unfold State.dropBack
  split
  · exact h
  · exact h.ite fun _ => withdrawExpiry (h.frame rfl rfl rfl)

theorem scanStep {found : CutWrite} (h : HoursLaw s) : HoursLaw (s.scanStep found) := by
  have dropped : HoursLaw (State.dropWritten (s.log.scan found).queue { s with log := s.log.scan found }).dropBack :=
    .dropBack (.dropWritten (h.frame rfl rfl rfl))
  exact dropped.frame rfl rfl rfl

theorem decideStatus (h : HoursLaw s) : HoursLaw s.decideStatus := h.frame rfl rfl rfl

theorem logStart {n k : Nat} (h : HoursLaw s) : HoursLaw (s.logStart n k) := .offer (h.frame rfl rfl rfl)

theorem openPorts (h : HoursLaw s) : HoursLaw s.openPorts := .settleRound (h.frame rfl rfl rfl)

theorem scanEnd {found : CutWrite} (h : HoursLaw s) : HoursLaw (s.scanEnd found) :=
  h.scanStep.decideStatus.logStart.openPorts

/-! #### The ports, and every step -/

theorem owner {p : Port} {tag : Nat} {b : ReqBody} (h : HoursLaw s) : HoursLaw (s.owner p tag b).1 := by
  cases b with
  | book b => exact h.book
  | amend b => exact h.amend
  | cancel ref => exact h.cancel
  | detach ref => exact h.detach
  | override ref set supervisor => exact h.override
  | deliveryRead ref => exact h.deliveryRead
  | driverRegister n day => exact h.driverRegister
  | driverRemove n => exact h.driverRemove
  | productDefine b => exact h.productDefine
  | productState code target => exact h.productState
  | settingsWrite b => exact h.settingsWrite
  | timeSet n => exact h.timeSet
  | shutdownClear => exact h.shutdownClear
  | logAck n => exact h.frame rfl rfl rfl
  | reclaim n => exact h.reclaim
  | bayRead n => exact h.bayRead
  | restart kind => exact h.restart
  | arrive b => exact h.announce
  | release ref driver => exact h.release
  | driverRead n =>
    simp only [State.owner, State.driverRead]
    split
    · exact h
    · split <;> exact h
  | productRead code =>
    simp only [State.owner, State.productRead]
    split
    · exact h
    · split <;> exact h
  | logRead n count =>
    simp only [State.owner, State.logRead]
    iterate 3 (split; · exact h)
    split <;> exact h
  | hoursQuery n =>
    simp only [State.owner, State.hoursQuery]
    iterate 2 (split; · exact h)
    split <;> exact h
  | paperRead ref =>
    simp only [State.owner, State.paperRead]
    iterate 3 (split; · exact h)
    split <;> exact h
  | settingsRead | status | unknown | badLength => exact h

theorem serve {p : Port} {y : Request} (h : HoursLaw s) : HoursLaw (s.serve p y) := by
  have taken : HoursLaw (s.setService p (some (y.tag, y.code))) := h.setPort
  refine setPort ?_
  split
  · exact taken
  · exact taken.owner

theorem serveNext {p : Port} (h : HoursLaw s) : HoursLaw (s.serveNext p) := by
  unfold State.serveNext
  split
  · exact h
  · dsimp only
    split
    · exact h.setPort.serve
    · exact .setPort (.setPort h.setPort)

theorem arrive {p : Port} {y : Request} (h : HoursLaw s) : HoursLaw (s.arrive p y) :=
  ((h.setPort.ite fun _ => h.setPort).ite fun _ => h.setPort).ite fun _ => h.serve

theorem discard {p : Port} (h : HoursLaw s) : HoursLaw (s.discard p) := .setPort h.setPort

theorem frameComplete {p : Port} {ys : List Byte} (h : HoursLaw s) : HoursLaw (s.frameComplete p ys) := by
  unfold State.frameComplete
  split
  · exact h.discard
  · exact h.setPort.arrive

theorem receiveByte {p : Port} {y : Byte} {stop : Bool} (h : HoursLaw s) : HoursLaw (s.receiveByte p y stop) := by
  unfold State.receiveByte
  split
  · exact (h.discard.ite fun _ => h.setPort).ite fun _ => h
  · refine h.discard.ite fun _ => ?_
    exact (h.frameComplete.ite fun _ => h.setPort).ite fun _ => h.discard

theorem gapExpired {p : Port} (h : HoursLaw s) : HoursLaw (s.gapExpired p) := by
  unfold State.gapExpired
  split
  · exact h
  · exact .discard (h.frame rfl rfl rfl)

theorem frameSent {p : Port} (h : HoursLaw s) : HoursLaw (s.frameSent p) := by
  unfold State.frameSent
  split
  · exact h
  · dsimp only
    split
    · exact h.setPort.begin
    · exact h.setPort.ite fun _ => .serveNext (.setPort h.setPort)

/-- Every command keeps the law. -/
theorem exec (h : HoursLaw s) (c : Instr) : ∃ t, Machine.exec c s = .next t ∧ HoursLaw t := by
  cases c with
  | frameReceived p xs => exact ⟨_, rfl, h.ite fun _ => h.frameComplete⟩
  | portByteGapExpiry p => exact ⟨_, rfl, h.ite fun _ => h.gapExpired⟩
  | frameSent p => exact ⟨_, rfl, h.ite fun _ => h.frameSent⟩
  | portByteReceived p x stop => exact ⟨_, rfl, h.ite fun _ => h.receiveByte⟩
  | exchangeStart => exact ⟨_, rfl, h.ite fun _ => h.beginExchange⟩
  | allStopBroadcast => exact ⟨_, rfl, h.ite fun _ => h.sendAllStop⟩
  | answerReceived words =>
    change ∃ t, execAnswerReceived words s = .next t ∧ HoursLaw t
    unfold execAnswerReceived
    split
    · exact ⟨_, rfl, h.ite fun _ => h.endByAnswer⟩
    · exact ⟨_, rfl, h⟩
  | answerWindowExpiry =>
    change ∃ t, execAnswerWindowExpiry s = .next t ∧ HoursLaw t
    unfold execAnswerWindowExpiry
    split
    · exact ⟨_, rfl, h.ite fun _ => .endByWindow (h.frame rfl rfl rfl)⟩
    · exact ⟨_, rfl, h⟩
  | permitWindowExpiry i k => exact ⟨_, rfl, h.expire fun _ h => h.permitExpired⟩
  | flowingLimitExpiry i k => exact ⟨_, rfl, h.expire fun _ h => h.flowingExpired⟩
  | settleIntervalExpiry x => exact ⟨_, rfl, h.expire fun _ h => h.settleExpired⟩
  | stopDeadlineExpiry x => exact ⟨_, rfl, h.expire fun _ h => h.stopExpired⟩
  | shutdownInputAsserted => exact ⟨_, rfl, h.assertInput.ite fun _ => h⟩
  | shutdownInputDeasserted => exact ⟨_, rfl, h.frame rfl rfl rfl⟩
  | terminalTimeAdvance => exact ⟨_, rfl, h.advanceTime⟩
  | writeComplete => exact ⟨_, rfl, h.ite fun _ => h.writeDone⟩
  | collectionWindowExpiry => exact ⟨_, rfl, h.ite fun _ => .takePages (h.frame rfl rfl rfl)⟩
  | eraseSuspend => exact ⟨_, rfl, h.ite fun _ => h.frame rfl rfl rfl⟩
  | eraseComplete => exact ⟨_, rfl, h.ite fun _ => h.eraseDone⟩
  | eraseVerifyFailure => exact ⟨_, rfl, h.ite fun _ => h.eraseFailed⟩
  | resetAsserted => exact ⟨_, rfl, h.assertReset⟩
  | resetDeasserted => exact ⟨_, rfl, h.deassertReset⟩
  | powerLoss cut => exact ⟨_, rfl, h.ite fun _ => h.frame rfl rfl rfl⟩
  | powerReturn x => exact ⟨_, rfl, h.regainPower⟩
  | startUpEraseEnd v => exact ⟨_, rfl, h.ite fun _ => h.startErase⟩
  | startUpScanEnd slot => exact ⟨_, rfl, h.ite fun _ => h.scanEnd⟩
  | _ => exact ⟨_, rfl, h.ite fun _ => h.arrive⟩

theorem step (h : HoursLaw s) (ht : Machine.step s = .next t) : HoursLaw t := by
  unfold Machine.step at ht
  split at ht
  · obtain rfl := Host.Outcome.next.inj ht
    exact h.ite fun _ => h.frame rfl rfl rfl
  · rename_i c rest _
    have taken : HoursLaw { s with pending := rest } := h.frame rfl rfl rfl
    obtain ⟨u, hu, law⟩ := taken.exec c
    obtain rfl := Host.Outcome.next.inj (hu.symm.trans ht)
    exact law

end HoursLaw

/-- Settles O57: a record is followed by one that binds the same driver or by one whose predecessor bound none, a slot
is freed after its driver was unbound, ARRIVE binds a driver to a delivery that it makes name the driver, and what a
declaration or a commit writes into a ring is clamped and of no later day. -/
theorem theHoursTableStaysLawful : Obligations.TheHoursTableStaysLawful := by
  intro s t hd hr ht
  exact (hoursLaw_iff t).1 (((hoursLaw_iff s).2 ⟨hd, hr⟩).step ht)

end Sys2Proof.Machine

namespace Sys2Proof.Machine

/-! ### The merge of a declaration (R115) -/

/-- Two days of one window have different slots (R106). -/
theorem ringIndex_inj {today a b : Nat} (ha : a ≤ today) (ha' : today ≤ a + 13) (hb : b ≤ today) (hb' : today ≤ b + 13)
    (h : a % 14 = b % 14) : a = b := by omega

theorem get_writeDay (ring : Vector DayEntry 14) (e : DayEntry) (day : Nat) :
    (writeDay ring e).get (ringIndex day) = if day % 14 = e.day % 14 then e else ring.get (ringIndex day) :=
  (get_set ring (ringIndex e.day) (ringIndex day) e).trans (by simp only [ringIndex, Fin.ext_iff])

/-- Entries of one window written in order: the slot of a day holds the last that names it. -/
theorem get_foldl_writeDay {today day : Nat} (hd : day ≤ today) (hd' : today ≤ day + 13) (ring : Vector DayEntry 14)
    (es : List DayEntry) (hes : ∀ e ∈ es, validOn today e = true) :
    (es.foldl writeDay ring).get (ringIndex day) =
      ((es.filter fun e => e.day == day).getLast?).getD (ring.get (ringIndex day)) := by
  induction es using List.reverseRecOn with
  | nil => rfl
  | append_singleton es e ih =>
    obtain ⟨hes, he⟩ : (∀ x ∈ es, validOn today x = true) ∧ validOn today e = true := by
      simpa [List.mem_append, or_imp, forall_and] using hes
    simp only [validOn, Bool.and_eq_true, decide_eq_true_eq] at he
    rw [List.foldl_concat, get_writeDay, ih hes, List.filter_append]
    by_cases h : e.day = day
    · simp [h]
    · have apart : ¬ day % 14 = e.day % 14 := fun hm => h (ringIndex_inj he.2 he.1 hd hd' hm.symm)
      simp [h, apart]

/-- After a merge the slot of a day of the window holds the last entry that names the day, clamped (R115). -/
theorem get_mergeRing (ring : Vector DayEntry 14) (y : Declaration) {today day : Nat} (hd : day ≤ today)
    (hd' : today ≤ day + 13) : (mergeRing ring y today).get (ringIndex day) =
      (((y.days.filter fun e => e.day == day).getLast?).map clampDay).getD (ring.get (ringIndex day)) := by
  have window : ∀ e ∈ remainingDays y today, validOn today e = true := fun e he => by
    obtain ⟨f, hf, rfl⟩ := List.mem_map.1 he
    exact (List.mem_filter.1 hf).2
  have named : (remainingDays y today).filter (fun e => e.day == day) =
      (y.days.filter fun e => e.day == day).map clampDay := by
    rw [remainingDays, List.filter_map, List.filter_filter]
    refine congrArg _ (List.filter_congr fun e _ => ?_)
    by_cases h : e.day = day
    · simp [clampDay, validOn, h, hd, hd']
    · simp [clampDay, h]
  rw [mergeRing, get_foldl_writeDay hd hd' ring _ window, named, List.getLast?_map]

/-! ### The projection (R116 to R118) -/

/-- R of a projection sums the driving of the days of the window. -/
theorem Driver.rolling_eq (x : Driver) (d : Nat) : x.rolling d =
    ((x.ring.toList.filter fun e => decide (d ≤ e.day + 13 ∧ e.day ≤ d)).map DayEntry.driving).sum := by
  have window : ∀ e, validOn d e = decide (d ≤ e.day + 13 ∧ e.day ≤ d) := fun e => by simp [validOn]
  simp only [Driver.rolling, List.sum_map_ite, Driver.slots, Vector.toList, window, List.map_const', List.sum_replicate,
    smul_zero, add_zero, decide_eq_true_eq]

theorem endorsed_false {expiry d : Nat} {dangerous : Bool} :
    (!endorsed expiry d dangerous) = true ↔ dangerous = true ∧ (expiry = 0 ∨ expiry < d) := by
  cases dangerous
  · simp [endorsed]
  · simp [endorsed]

/-- Settles O14: the writes of a declaration go to different slots for different days of the window; each check of the
projection asks for the sign of its margin. -/
theorem hoursAreMergedAndProjected : Obligations.HoursAreMergedAndProjected := by
  refine ⟨fun ring y today day hd hd' => ?_,
    fun st now driving duty today held window x dangerous f m ht hh hw hp => ?_⟩
  · refine (get_mergeRing ring y hd hd').trans ?_
    cases hl : (y.days.filter fun e => e.day == day).getLast? with
    | none => rfl
    | some e =>
      have named : e.day = day := by simpa using (List.mem_filter.1 (List.mem_of_getLast? hl)).2
      exact congrArg (DayEntry.mk · _ _) named
  · obtain ⟨rfl, rfl⟩ := Projection.mk.inj hp
    subst ht
    have daily : x.drivingOn (now / 86400) = held := hh.symm
    have rolling : x.rolling (now / 86400) = window := (x.rolling_eq _).trans hw.symm
    have dailyMargin : (margins st now x driving duty).daily = (st.daily : Int) - held - driving := by
      rw [← daily]
      rfl
    have rollingMargin : (margins st now x driving duty).rolling = (st.rolling : Int) - window - driving := by
      rw [← rolling]
      rfl
    refine ⟨dailyMargin, ?_, rollingMargin, ?_, fun start hs => ?_, fun hs => ?_, endorsed_false, rfl, rfl, rfl⟩
    · refine decide_eq_true_iff.trans ?_
      rw [dailyMargin]
      omega
    · refine decide_eq_true_iff.trans ?_
      rw [rollingMargin]
      omega
    · have shiftMargin : (margins st now x driving duty).shift =
          some (max (-2147483648) ((st.shift : Int) - ((now - start) / 60 : Nat) - duty)) := by
        simp [margins, Driver.sinceShift, Machine.shiftMargin, hs]
      refine ⟨shiftMargin, ?_⟩
      rw [shiftMargin]
      refine decide_eq_true_iff.trans ?_
      omega
    · have noMargin : (margins st now x driving duty).shift = none := by simp [margins, Driver.sinceShift, hs]
      exact ⟨noMargin, by rw [noMargin]⟩

/-! ### ARRIVE (R112 to R114) -/

/-- An ARRIVE whose checks pass is accepted. -/
theorem State.announce_accepted {s : State} {b : ArriveBody} {now : Nat} {i : SlotNo} {d : Delivery} {x : Driver}
    (hr : b.ref ≠ 0) (hn : driverNumber b.driver)
    (hy : ∀ w, b.declaration = some w → 1 ≤ w.days.length ∧ w.days.length ≤ 14) (ht : s.time = some now)
    (hd : s.holdsAt i d) (hdr : d.ref = b.ref) (ho : s.owned d = false) (hs : d.state = .booked)
    (hm : d.driver = none ∨ d.driver = some b.driver) (hx : s.driver b.driver = some x) (hb : x.bound = none)
    (hstart : b.declaration = none → x.shiftStart ≠ none) (ha : s.log.accepts) :
    s.announce b = s.acceptArrive b now i d x := by
  have fields : ¬ badArrive b = true := by
    rw [← badArrive_eq_true]
    rintro (h | h | h | ⟨w, hw, h | h⟩)
    · exact hr h
    · unfold driverNumber at hn; omega
    · unfold driverNumber at hn; omega
    · have := hy w hw; simp [h] at this
    · have := hy w hw; omega
  have free : ¬ (s.owned d || (s.driver b.driver).any s.driverOwned) = true := by
    simp [ho, hx, State.driverOwned, hb]
  have passes : arriveRefusal d b (some x) = none := by
    rw [arriveRefusal_some, if_neg fun h => ?_, if_neg (not_not.2 hb), if_neg fun h => hstart h.2 h.1]
    exact hm.elim h.1 h.2
  unfold State.announce
  rw [if_neg fields, ht]
  dsimp only
  rw [← hdr, State.find_of_holdsAt hd]
  dsimp only
  rw [if_neg free, if_neg (not_not.2 hs), hx, passes]
  dsimp only
  rw [LogStore.requesterRefusal_eq ha]

/-- An accepted ARRIVE leaves the delivery ARRIVED, the driver's entry as `z`, and the log with its entries (R114). -/
theorem State.acceptArrive_eq {s : State} {b : ArriveBody} {now start : Nat} {i : SlotNo} {d : Delivery} {x z : Driver}
    (hz : x.arrive b.declaration now i = z) (hs : z.shiftStart = some start) : s.acceptArrive b now i d x =
      ({ s with
        dispatch := s.dispatch.set i.val (some (d.arrive b.driver now)) i.isLt
        drivers := s.drivers.map fun w => if w.number = b.driver then z else w
        log := ((s.admitEntry d.ref 0 (.arrive d.vehicle start b.declaration.isSome)).offerDeclaration d.ref z now
          b.declaration).log },
      .done (.arrived now start (z.drivingOn (now / 86400)) (z.rolling (now / 86400)) ((now - start) / 60)
        { daily := (s.settings.daily : Int) - z.drivingOn (now / 86400) - d.driving
          rolling := (s.settings.rolling : Int) - z.rolling (now / 86400) - d.driving
          shift := some (max (-2147483648)
            ((s.settings.shift : Int) - ((now - start) / 60 : Nat) - d.duty)) })) := by
  have since : z.sinceShift now = some ((now - start) / 60) := by rw [Driver.sinceShift, hs]; rfl
  unfold State.acceptArrive margins
  dsimp only
  rw [State.offerDeclaration_frame, hz, hs, since]
  rfl

/-- Settles O13: the request reaches its owner at once, which accepts it. -/
theorem arriveBindsTheDriver : Obligations.ArriveBindsTheDriver := by
  rintro s tag ref n now start y i d x z hready hr hn hy ht hd rfl ho hs hm hx hb hold hnew ha hz
  have begun : z.shiftStart = some start := by rw [hz]
  have arrived : x.arrive y now i = z := by
    rw [hz]
    cases y with
    | none => simp only [Driver.arrive, ← hold rfl]
    | some w => rw [hnew w rfl]; rfl
  have accepted := State.announce_accepted (s := s.serving .gate tag 0x20) (b := ⟨d.ref, n, y⟩) hr hn hy ht hd rfl ho hs
    hm hx hb (fun h => by simp [hold h]) ha
  rw [State.acceptArrive_eq arrived begun] at accepted
  refine congrArg Host.Outcome.next ((State.request_answered (body := .arrive ⟨d.ref, n, y⟩) hready rfl (by simp)
    accepted).trans ?_)
  cases y with
  | none => rfl
  | some w =>
    have logged := State.offer_log_congr
      (s := s.admitEntry d.ref 0 (.arrive d.vehicle start true))
      (t := (s.serving .gate tag 0x20).admitEntry d.ref 0 (.arrive d.vehicle start true)) rfl rfl rfl rfl d.ref 0
    have payload : declarationPayload z w now = .declaration start (decide (now < w.restEnd)) w.days.length
        (keptDays w (now / 86400)) (alteredDays w (now / 86400)) (z.drivingOn (now / 86400))
        (z.rolling (now / 86400)) := by
      rw [declarationPayload, begun]
      rfl
    dsimp only [State.offerDeclaration, Option.isSome_some]
    rw [logged, payload]
    rfl

/-! ### DRIVER_REGISTER and DRIVER_REMOVE (R108, R110) -/

/-- A registered driver who is not owned is renewed. -/
theorem State.driverRegister_renewed {s : State} {n day : Nat} {x : Driver} (hn : driverNumber n)
    (hx : s.driver n = some x) (ho : s.driverOwned x = false) : s.driverRegister n day =
      (s.updDriver n fun _ => { x with expiry := day },
        .done (.registered (s.driverView { x with expiry := day }) false)) := by
  simp [State.driverRegister, mt badDriver_iff.1 (not_not.2 hn), hx, ho]

/-- An unregistered number is entered while there is room. -/
theorem State.driverRegister_entered {s : State} {n day : Nat} (hn : driverNumber n) (hx : s.driver n = none)
    (hl : s.drivers.length < 128) : s.driverRegister n day =
      ({ s with drivers := s.drivers ++ [Driver.fresh n day] },
        .done (.registered (s.driverView (Driver.fresh n day)) true)) := by
  simp [State.driverRegister, mt badDriver_iff.1 (not_not.2 hn), hx, Config.driverEntries, hl.not_ge]

theorem State.driverRegister_failing {s : State} {n day : Nat} {y : FrameBody}
    (h : firstFailing (s.registerChecks n) y) : s.driverRegister n day = (s, y) := by
  refine h.ite badDriver_iff.symm fun _ h => ?_
  cases hx : s.driver n with
  | some x => exact h.ite (by simp [hx]) fun _ h => (h.skip (by simp [hx])).elim
  | none => exact (h.skip (by simp [hx])).ite (by simp [hx, Config.driverEntries]) fun _ h => h.elim

/-- An unbound driver is taken out. -/
theorem State.driverRemove_removed {s : State} {n : Nat} {x : Driver} (hn : driverNumber n)
    (hx : s.driver n = some x) (hb : x.bound = none) : s.driverRemove n =
      ({ s with drivers := s.drivers.filter fun y => y.number != n }, .done .removed) := by
  simp [State.driverRemove, mt badDriver_iff.1 (not_not.2 hn), hx, hb, State.driverOwned]

theorem State.driverRemove_failing {s : State} {n : Nat} {y : FrameBody}
    (h : firstFailing (s.removeChecks n) y) : s.driverRemove n = (s, y) := by
  refine h.ite badDriver_iff.symm fun _ h => ?_
  cases hx : s.driver n with
  | none => rw [h.answer hx]
  | some x =>
    refine (h.skip (by simp [hx])).ite (by simp [hx]) fun _ h => ?_
    exact h.ite (by simp [hx, Option.isSome_iff_ne_none]) fun _ h => h.elim

/-- Settles O15: each request reaches its owner, which accepts it or refuses it by the first check that fails. -/
theorem driversAreRegisteredAndRemoved : Obligations.DriversAreRegisteredAndRemoved := by
  refine ⟨fun s tag n day h h1 h2 => ⟨fun x hx ho => ?_, fun hx hl => ?_, fun x hx hb => ?_⟩, fun s tag n day y h =>
    ⟨fun hf => ?_, fun hf => ?_⟩⟩
  · exact congrArg Host.Outcome.next ((State.request_answered (body := .driverRegister n day) h rfl (by simp)
      (State.driverRegister_renewed (s := s.serving .office tag 0x07) ⟨h1, h2⟩ hx ho)).trans rfl)
  · exact congrArg Host.Outcome.next ((State.request_answered (body := .driverRegister n day) h rfl (by simp)
      (State.driverRegister_entered (s := s.serving .office tag 0x07) ⟨h1, h2⟩ hx hl)).trans rfl)
  · exact congrArg Host.Outcome.next ((State.request_answered (body := .driverRemove n) h rfl (by simp)
      (State.driverRemove_removed (s := s.serving .office tag 0x08) ⟨h1, h2⟩ hx hb)).trans rfl)
  · exact congrArg Host.Outcome.next (State.request_read (body := .driverRegister n day) h rfl (by simp)
      (State.driverRegister_failing (s := s.serving .office tag 0x07) hf))
  · exact congrArg Host.Outcome.next (State.request_read (body := .driverRemove n) h rfl (by simp)
      (State.driverRemove_failing (s := s.serving .office tag 0x08) hf))

end Sys2Proof.Machine

namespace Sys2Proof.Machine

/-! ### The paper counter in the store (R125) -/

@[simp] theorem LogStore.setPage_paperCounter (l : LogStore) (p : PageNo) (x : Page) :
    (l.setPage p x).paperCounter = l.paperCounter := rfl

@[simp] theorem LogStore.fillNext_paperCounter (l : LogStore) (p : PageNo) :
    (l.fillNext p).paperCounter = l.paperCounter := by
  unfold LogStore.fillNext
  split
  · rfl
  · split <;> rfl

@[simp] theorem LogStore.rollOver_paperCounter (l : LogStore) (p : PageNo) :
    (l.rollOver p).paperCounter = l.paperCounter := by
  unfold LogStore.rollOver
  split
  · simp
  · rfl

@[simp] theorem LogStore.written_paperCounter (l : LogStore) (e : Entry) (rest : List Entry) :
    (l.written e rest).paperCounter = l.paperCounter := by
  unfold LogStore.written
  dsimp only
  split
  · rfl
  · simp

@[simp] theorem LogStore.scan_paperCounter (l : LogStore) (found : CutWrite) :
    (l.scan found).paperCounter = l.paperCounter := by
  unfold LogStore.scan LogStore.scanned
  dsimp only
  split
  · rfl
  · rw [LogStore.rollOver_paperCounter]
    split <;> rfl

@[simp] theorem LogStore.resume_paperCounter (l : LogStore) : l.resume.paperCounter = l.paperCounter := by
  unfold LogStore.resume
  split <;> rfl

@[simp] theorem LogStore.findFilling_paperCounter (l : LogStore) : l.findFilling.paperCounter = l.paperCounter := by
  unfold LogStore.findFilling
  split
  · rfl
  · split
    · unfold LogStore.fillFirst
      split <;> rfl
    · simp

/-- An erase that a loss of power cuts short has written the marker area of pages alone (R187). -/
theorem State.cutErase_paperCounter (s : State) (marked : Bool) {f : LogStore → PageNo → LogStore}
    (hf : ∀ l p, (f l p).paperCounter = l.paperCounter) :
    (s.cutErase marked f).paperCounter = s.log.paperCounter := by
  unfold State.cutErase
  split
  · split
    · rfl
    · exact hf ..
  · rfl

/-- A cut loses no number: at most the counter was raised for a paper that was not stored (R125, R187). -/
theorem State.paperCounter_le_cutAt (s : State) (cut : EventCut) :
    s.log.paperCounter ≤ (s.cutAt cut).paperCounter := by
  have erased : ∀ {marked f}, (∀ l p, LogStore.paperCounter (f l p) = l.paperCounter) →
      s.log.paperCounter ≤ (s.cutErase marked f).paperCounter := fun hf => (s.cutErase_paperCounter _ hf).ge
  unfold State.cutAt
  cases cut with
  | betweenEvents => exact le_rfl
  | inPaperIssue =>
    dsimp only
    split
    · exact Nat.le_succ _
    · exact le_rfl
  | inEraseFailure marked => exact erased fun _ _ => rfl
  | inEraseCompletion marked => exact erased fun _ _ => rfl
  | inScan slot =>
    dsimp only
    split <;> exact le_rfl

/-! ### Papers with different numbers (R125, R126, R128) -/

/-- The paper of the delivery in a slot. -/
def State.paperIn (s : State) (i : SlotNo) : Option Paper := (s.slot i).bind Delivery.paper

theorem State.paperIn_eq_some {s : State} {i : SlotNo} {p : Paper} :
    s.paperIn i = some p ↔ ∃ d, s.slot i = some d ∧ d.paper = some p := Option.bind_eq_some_iff

theorem State.paperIn_of_slot {s : State} {i : SlotNo} {d : Delivery} (h : s.slot i = some d) :
    s.paperIn i = d.paper := by rw [State.paperIn, h]; rfl

theorem State.paperIn_setSlot (s : State) (i j : SlotNo) (x : Option Delivery) :
    (s.setSlot i x).paperIn j = if j = i then x.bind Delivery.paper else s.paperIn j := by
  unfold State.paperIn
  rw [State.slot_setSlot]
  split <;> rfl

/-- The papers of the table carry different numbers from 1 to the paper counter, which stands at `n` or above. -/
structure Numbered (n : Nat) (s : State) : Prop where
  range : ∀ i p, s.paperIn i = some p → 1 ≤ p.number ∧ p.number ≤ s.log.paperCounter ∧ 1 ≤ p.version
  differ : ∀ i j p q, s.paperIn i = some p → s.paperIn j = some q → p.number = q.number → i = j
  counter : n ≤ s.log.paperCounter

theorem numbered_iff {n : Nat} {s : State} : Numbered n s ↔ PaperLaw s ∧ n ≤ s.log.paperCounter := by
  constructor
  · rintro ⟨range, differ, counter⟩
    exact ⟨⟨fun i d p hd hp => range i p (State.paperIn_eq_some.2 ⟨d, hd, hp⟩), fun i j d e p q hd he hp hq =>
      differ i j p q (State.paperIn_eq_some.2 ⟨d, hd, hp⟩) (State.paperIn_eq_some.2 ⟨e, he, hq⟩)⟩, counter⟩
  · rintro ⟨⟨range, differ⟩, counter⟩
    refine ⟨fun i p hp => ?_, fun i j p q hp hq => ?_, counter⟩
    · obtain ⟨d, hd, hp⟩ := State.paperIn_eq_some.1 hp
      exact range i d p hd hp
    · obtain ⟨d, hd, hp⟩ := State.paperIn_eq_some.1 hp
      obtain ⟨e, he, hq⟩ := State.paperIn_eq_some.1 hq
      exact differ i j d e p q hd he hp hq

namespace Numbered

variable {n : Nat} {s t : State}

/-- Papers may leave the table, and the counter may rise. -/
theorem keep (m : Numbered n s) (hp : ∀ i p, t.paperIn i = some p → s.paperIn i = some p)
    (hc : s.log.paperCounter ≤ t.log.paperCounter) : Numbered n t where
  range i p h := by
    obtain ⟨one, top, version⟩ := m.range i p (hp i p h)
    exact ⟨one, top.trans hc, version⟩
  differ i j p q h k := m.differ i j p q (hp i p h) (hp j q k)
  counter := m.counter.trans hc

/-- The dispatch table and the counter are all that it reads. -/
theorem frame (m : Numbered n s) (hd : t.dispatch = s.dispatch) (hc : t.log.paperCounter = s.log.paperCounter) :
    Numbered n t :=
  m.keep (fun i p h => by rwa [State.paperIn, State.slot, hd] at h) hc.ge

/-- A slot written with the paper that it has, or with none. -/
theorem setSlot {i : SlotNo} {x : Option Delivery} (m : Numbered n s)
    (hx : ∀ p, x.bind Delivery.paper = some p → s.paperIn i = some p) : Numbered n (s.setSlot i x) := by
  refine m.keep (fun j p h => ?_) le_rfl
  rw [State.paperIn_setSlot] at h
  split at h
  · rename_i hj
    exact hj ▸ hx p h
  · exact h

theorem setRecord {i : SlotNo} {d e : Delivery} (m : Numbered n s) (hd : s.slot i = some d) (he : e.paper = d.paper) :
    Numbered n (s.setSlot i (some e)) :=
  m.setSlot fun p hp => by rw [State.paperIn_of_slot hd, ← he]; exact hp

theorem freeSlot {i : SlotNo} (m : Numbered n s) : Numbered n (s.setSlot i none) := m.setSlot nofun

/-- Every record changed, each keeping its paper. -/
theorem mapSlots {f : Delivery → Delivery} (m : Numbered n s) (hd : ∀ i, t.slot i = (s.slot i).map f)
    (hf : ∀ d, (f d).paper = d.paper) (hc : t.log.paperCounter = s.log.paperCounter) : Numbered n t := by
  refine m.keep (fun i p h => ?_) hc.ge
  rw [State.paperIn, hd, Option.bind_map] at h
  rwa [show Delivery.paper ∘ f = Delivery.paper from funext hf] at h

theorem ite {p : Prop} [Decidable p] (m : Numbered n s) (h : p → Numbered n t) : Numbered n (if p then t else s) := by
  split
  · exact h ‹_›
  · exact m

theorem foldl {α : Type} {f : State → α → State} (hf : ∀ s y, Numbered n s → Numbered n (f s y)) {ys : List α}
    (m : Numbered n s) : Numbered n (ys.foldl f s) := by
  induction ys generalizing s with
  | nil => exact m
  | cons y ys ih => exact ih (hf s y m)

/-! #### Bays, compartments, the log and the ports -/

theorem setBay {b : BayNo} {q : BayRecord} (m : Numbered n s) : Numbered n (s.setBay b q) := m.frame rfl rfl

theorem setArm {b : BayNo} {a : Arm} {y : ArmRecord} (m : Numbered n s) : Numbered n (s.setArm b a y) := m.setBay

theorem updComp {i : SlotNo} {k : Nat} {f : Compartment → Compartment} (m : Numbered n s) :
    Numbered n (s.updComp i k f) := by
  cases hd : s.slot i with
  | none => rwa [State.updComp, State.updDelivery, hd]
  | some d =>
    rw [State.updComp_of_some hd]
    exact m.setRecord hd rfl

theorem updOrphan {b : BayNo} {a : Arm} {f : Orphan → Orphan} (m : Numbered n s) : Numbered n (s.updOrphan b a f) := by
  rw [State.updOrphan_eq]
  exact m.setArm

theorem freeArm {y : Option ArmRef} (m : Numbered n s) : Numbered n (s.freeArm y) := by
  cases y with
  | none => exact m
  | some y => exact m.setArm

theorem admitEntry {ref driver : Nat} {y : Payload} (m : Numbered n s) : Numbered n (s.admitEntry ref driver y) :=
  m.frame rfl (LogStore.admit_paperCounter ..)

theorem offer {ref driver : Nat} {y : Payload} (m : Numbered n s) : Numbered n (s.offer ref driver y) :=
  ite (m.frame rfl rfl) fun _ => m.admitEntry

theorem setPort {p : Port} {y : PortState} (m : Numbered n s) : Numbered n (s.setPort p y) := by
  cases p <;> exact m.frame rfl rfl

theorem enqueue {b : BayNo} {rule : List Message → List Message} (m : Numbered n s) : Numbered n (s.enqueue b rule) :=
  m.ite fun _ => m.setBay

theorem stopIf {y : Bool} {b : BayNo} {a : Arm} (m : Numbered n s) : Numbered n (s.stopIf y b a) :=
  m.ite fun _ => m.enqueue

theorem replyPage {p : PageNo} {y : PageOutcome} (m : Numbered n s) : Numbered n (s.replyPage p y) := m.frame rfl rfl

theorem replyAwaited {k : Nat} {b : FrameBody} (m : Numbered n s) : Numbered n (s.replyAwaited k b) := m.frame rfl rfl

theorem beginWrite (m : Numbered n s) : Numbered n s.beginWrite := m.frame rfl (LogStore.beginWrite_paperCounter ..)

theorem settleRound (m : Numbered n s) : Numbered n s.settleRound := m.ite fun _ => m.frame rfl rfl

theorem endVisit (m : Numbered n s) : Numbered n s.endVisit := settleRound (m.frame rfl rfl)

/-! #### Papers, sessions and reports -/

/-- A version stored under a number that the counter has given, and that no other slot's paper carries. -/
theorem issuePaper {i : SlotNo} {d : Delivery} {k v : Nat} (m : Numbered n s) (hk : 1 ≤ k ∧ k ≤ s.log.paperCounter)
    (hv : 1 ≤ v) (other : ∀ j q, j ≠ i → s.paperIn j = some q → q.number ≠ k) : Numbered n (s.issuePaper i d k v) := by
  have stored : ∀ j q,
      (s.setSlot i (some { d.paperReadouts with paper := some (s.buildPaper d k v) })).paperIn j = some q →
        (j = i ∧ q.number = k ∧ q.version = v) ∨ (j ≠ i ∧ s.paperIn j = some q) := by
    intro j q h
    rw [State.paperIn_setSlot] at h
    split at h
    · obtain rfl := Option.some.inj h
      exact .inl ⟨‹_›, rfl, rfl⟩
    · exact .inr ⟨‹_›, h⟩
  refine offer ⟨fun j q h => ?_, fun j l p q hp hq hn => ?_, m.counter⟩
  · rcases stored j q h with ⟨-, hq, hw⟩ | ⟨-, h⟩
    · rw [hq, hw]
      exact ⟨hk.1, hk.2, hv⟩
    · exact m.range j q h
  · rcases stored j p hp with ⟨hj, hpk, -⟩ | ⟨hj, hp⟩ <;> rcases stored l q hq with ⟨hl, hqk, -⟩ | ⟨hl, hq⟩
    · rw [hj, hl]
    · exact absurd (hn.symm.trans hpk) (other l q hl hq)
    · exact absurd (hn.trans hqk) (other j p hj hp)
    · exact m.differ j l p q hp hq hn

/-- A rebuild keeps its paper's number (R128). -/
theorem rebuild {i : SlotNo} (m : Numbered n s) : Numbered n (s.rebuild i) := by
  unfold State.rebuild
  split
  · exact m
  · rename_i d hd
    split
    · exact m
    · rename_i p hp
      have own : s.paperIn i = some p := State.paperIn_eq_some.2 ⟨d, hd, hp⟩
      obtain ⟨one, top, -⟩ := m.range i p own
      exact m.issuePaper ⟨one, top⟩ (Nat.le_add_left ..) fun j q hj hq hn => hj (m.differ j i q p hq own hn)

/-- A first issue takes the number after the counter, which every paper's number stays below (R125). -/
theorem firstIssue {i : SlotNo} {d : Delivery} (m : Numbered n s) : Numbered n (s.firstIssue i d) := by
  have raised : Numbered n { s with log := { s.log with paperCounter := s.log.paperCounter + 1 } } :=
    m.keep (fun _ _ h => h) (Nat.le_succ _)
  refine ite (raised.issuePaper ⟨Nat.le_add_left .., le_rfl⟩ le_rfl fun j q _ hq => ?_) fun _ => m
  obtain ⟨-, top, -⟩ := m.range j q hq
  exact (Nat.lt_succ_of_le top).ne

theorem endSession {i : SlotNo} (m : Numbered n s) : Numbered n (s.endSession i) := by
  unfold State.endSession
  split
  · exact m
  · rename_i d hd
    have session : Numbered n (s.setSlot i (some d.afterSession)) := m.setRecord hd rfl
    have ended : Numbered n ((s.setSlot i (some d.afterSession)).unbindBay d.bay) := by
      cases d.bay with
      | none => exact session
      | some b => exact session.setBay
    exact ended.ite fun _ => ended.firstIssue

theorem reachDone {i : SlotNo} {k : Nat} (m : Numbered n s) : Numbered n (s.reachDone i k) := by
  unfold State.reachDone
  iterate 2 (split; · exact m)
  rename_i c _
  have freed : Numbered n ((s.updComp i k fun _ => c.ended).freeArm c.arm) := m.updComp.freeArm
  have logged : ∀ {ref driver : Nat} {y : Payload},
      Numbered n (((s.updComp i k fun _ => c.ended).freeArm c.arm).offer ref driver y) := freed.offer
  dsimp only
  split <;> split
  · exact freed.rebuild
  · exact logged.rebuild
  · exact freed
  · exact logged

theorem clearOrphan {b : BayNo} {a : Arm} (m : Numbered n s) : Numbered n (s.clearOrphan b a) := by
  unfold State.clearOrphan
  split
  · exact m.offer.setArm
  · exact m

theorem moveComp {b : BayNo} {a : Arm} {i : SlotNo} {k : Nat} {y : Move} (m : Numbered n s) :
    Numbered n (s.moveComp b a i k y) := by
  cases y with
  | keep => exact m
  | flow | await | settle => exact m.updComp
  | reopen => exact m.updComp.enqueue
  | finish => exact m.reachDone

theorem moveOrphan {b : BayNo} {a : Arm} {y : Move} (m : Numbered n s) : Numbered n (s.moveOrphan b a y) := by
  cases y with
  | keep | flow => exact m
  | await | settle => exact m.updOrphan
  | reopen => exact m.updOrphan.enqueue
  | finish => exact m.clearOrphan

theorem report {b : BayNo} {y : Report} (m : Numbered n s) : Numbered n (s.report b y) := by
  unfold State.report
  split
  · exact m.ite fun _ => m.offer.enqueue
  · unfold State.reportComp
    split
    · exact m
    · exact m.ite fun _ => m.updComp.stopIf.moveComp
  · exact m.updOrphan.stopIf.moveOrphan

/-! #### Interruption, the latch, and loading deadlines -/

theorem interruptArm {b : BayNo} {a : Arm} (m : Numbered n s) : Numbered n (s.interruptArm b a) := by
  unfold State.interruptArm
  split
  · exact m
  · exact m.updComp
  · exact m.updOrphan

theorem latchEvent (m : Numbered n s) : Numbered n s.latchEvent :=
  m.mapSlots (State.slot_latchEvent s) (fun _ => rfl) (by rw [State.latchEvent_frame])

theorem addCause {c : Cause} (m : Numbered n s) : Numbered n (s.addCause c) := by
  have latched : Numbered n { s with latch := s.latch.add c } := m.frame rfl rfl
  exact ite (latched.latchEvent.offer.ite fun _ => latched.offer) fun _ => m

theorem permitExpired {i : SlotNo} {k : Nat} (m : Numbered n s) : Numbered n (s.permitExpired i k) := by
  unfold State.permitExpired
  split
  · exact m
  · dsimp only
    split
    · exact m.updComp.freeArm
    · exact m.updComp.freeArm.enqueue

theorem flowingExpired {i : SlotNo} {k : Nat} (m : Numbered n s) : Numbered n (s.flowingExpired i k) := by
  unfold State.flowingExpired
  split
  · exact m
  · dsimp only
    split
    · exact m.updComp
    · exact m.updComp.enqueue

theorem settleExpired {y : DeadlineOf} (m : Numbered n s) : Numbered n (s.settleExpired y) := by
  cases y with
  | compartment i k => exact m.reachDone
  | orphan b a => exact m.clearOrphan

theorem stopExpired {y : DeadlineOf} (m : Numbered n s) : Numbered n (s.stopExpired y) := by
  cases y with
  | compartment i k => exact m.updComp.reachDone.addCause
  | orphan b a => exact m.updOrphan.clearOrphan.addCause

theorem expire {y : Option Deadline} {k : DeadlineKind} {f : State → State} (m : Numbered n s)
    (hf : ∀ t, Numbered n t → Numbered n (f t)) : Numbered n (s.expire y k f) := by
  unfold State.expire
  split
  · exact m
  · exact m.ite fun _ => hf _ (m.frame rfl rfl)

theorem assertInput (m : Numbered n s) : Numbered n s.assertInput := by
  have asserted : Numbered n { s with shutdownInput := true } := m.frame rfl rfl
  exact asserted.ite fun _ => asserted.addCause

/-! #### Bay requests -/

theorem takeClaim {b : BayNo} {ref : Nat} (m : Numbered n s) : Numbered n (s.takeClaim b ref) := by
  unfold State.takeClaim
  split
  · exact m.enqueue
  · rename_i hf
    iterate 4 (split; · exact m.enqueue)
    exact enqueue (offer (setBay (m.setRecord (State.find_some hf).1 rfl)))

theorem takeStart {b : BayNo} {a : Arm} {k p : Nat} (m : Numbered n s) : Numbered n (s.takeStart b a k p) := by
  unfold State.takeStart
  iterate 4 (split; · exact m.enqueue)
  split
  · exact enqueue (m.ite fun _ => m.offer)
  · exact m.updComp.setArm.enqueue.enqueue

theorem takeFinish {b : BayNo} (m : Numbered n s) : Numbered n (s.takeFinish b) := by
  unfold State.takeFinish
  iterate 4 (split; · exact m.enqueue)
  exact m.endSession.enqueue

theorem faultArm {b : BayNo} {a : Arm} (m : Numbered n s) : Numbered n (s.faultArm b a) := by
  unfold State.faultArm
  split
  · exact m
  · split
    · exact m
    · dsimp only
      split
      · exact m.updComp.updComp.enqueue
      · exact m.updComp.updComp.enqueue
      · exact m.updComp.enqueue
      · exact m.updComp
      all_goals exact m
  · dsimp only
    split
    · exact m.updOrphan.enqueue
    · exact m.updOrphan

theorem takeFault {b : BayNo} {code : Nat} (m : Numbered n s) : Numbered n (s.takeFault b code) := by
  have granted : Numbered n (s.grantFault b code) := m.faultArm.faultArm.offer.enqueue
  unfold State.takeFault
  iterate 2 (split; · exact granted)
  exact granted.ite fun _ => m.enqueue

/-! #### Exchanges -/

theorem takeAnswer {b : BayNo} {a : Answer} (m : Numbered n s) : Numbered n (s.takeAnswer b a) := by
  cases a with
  | status ys => exact m.foldl fun _ _ m => m.report
  | claim ref => exact m.ite fun _ => m.takeClaim
  | start a k p => exact m.ite fun _ => m.takeStart
  | finish => exact m.ite fun _ => m.takeFinish
  | fault code => exact m.ite fun _ => m.takeFault

theorem miss {b : BayNo} {y : Bool} (m : Numbered n s) : Numbered n (s.miss b y) := by
  unfold State.miss
  dsimp only
  split
  · exact m.setBay
  · exact ite (m.setBay.setBay.interruptArm.interruptArm.offer) fun _ => m.setBay
  · exact m.setBay

theorem answered {b : BayNo} (m : Numbered n s) : Numbered n (s.answered b) := by
  have stops : Numbered n (s.returnStops b) := m.setBay.offer.stopIf.stopIf
  exact m.setBay.ite fun _ => stops.ite fun _ => stops.enqueue

theorem endByAnswer {v : Visit} {e : Exchange} {words : List RxWord} (m : Numbered n s) :
    Numbered n (s.endByAnswer v e words) := by
  unfold State.endByAnswer
  split
  · exact m.endVisit
  · split
    · exact m.miss.endVisit
    · rename_i a _
      have taken : Numbered n (s.validAnswer v.bay e.sent a) := by
        refine takeAnswer ?_
        rw [State.removeSent_eq]
        exact m.answered.setBay
      exact ite (taken.frame rfl rfl) fun _ => taken.endVisit

theorem endByWindow {v : Visit} (m : Numbered n s) : Numbered n (s.endByWindow v) :=
  m.miss.endVisit.ite fun _ => m.endVisit

theorem beginExchange (m : Numbered n s) : Numbered n s.beginExchange := by
  unfold State.beginExchange
  split
  · exact m
  · exact m.frame rfl rfl

theorem sendAllStop (m : Numbered n s) : Numbered n s.sendAllStop := ite (m.frame rfl rfl) fun _ => m.frame rfl rfl

/-! #### The requests of the office and the gate -/

theorem acceptDeferred {p : Port} {tag code ref driver : Nat} {y : Payload} (m : Numbered n s) :
    Numbered n (s.acceptDeferred p tag code ref driver y).1 := setPort m.admitEntry

/-- A delivery enters its slot without a paper. -/
theorem book {b : BookBody} (m : Numbered n s) : Numbered n (s.book b).1 := by
  unfold State.book
  iterate 3 (split; · exact m)
  split
  · exact m
  · exact m
  · split
    · exact m
    · exact m.admitEntry.setSlot nofun

theorem amend {b : AmendBody} (m : Numbered n s) : Numbered n (s.amend b).1 := by
  unfold State.amend
  split
  · exact m
  · split
    · exact m
    · rename_i i d hf
      iterate 4 (split; · exact m)
      exact m.admitEntry.setRecord (d := d) (State.find_some hf).1 rfl

theorem dismissBay {i : SlotNo} {b : Option BayNo} (m : Numbered n s) : Numbered n (s.dismissBay i b) := by
  cases b with
  | none => exact m
  | some b =>
    unfold State.dismissBay State.queueDismiss
    exact m.setBay.enqueue

theorem cancel {p : Port} {tag ref : Nat} (m : Numbered n s) : Numbered n (s.cancel p tag ref).1 := by
  unfold State.cancel
  split
  · exact m
  · rename_i i d hf
    iterate 3 (split; · exact m)
    exact dismissBay (m.acceptDeferred.setRecord (d := d)
      ((State.slot_acceptDeferred ..).trans (State.find_some hf).1) rfl)

theorem detach {ref : Nat} (m : Numbered n s) : Numbered n (s.detach ref).1 := by
  unfold State.detach
  iterate 4 (split; · exact m)
  exact m.admitEntry.endSession

theorem override {p : Port} {tag ref set supervisor : Nat} (m : Numbered n s) :
    Numbered n (s.override p tag ref set supervisor).1 := by
  unfold State.override
  iterate 6 (split; · exact m)
  exact m.acceptDeferred

theorem deliveryRead {ref : Nat} (m : Numbered n s) : Numbered n (s.deliveryRead ref).1 := by
  unfold State.deliveryRead
  split
  · exact m
  · rename_i hf
    exact m.setRecord (State.find_some hf).1 rfl

theorem driverRegister {k day : Nat} (m : Numbered n s) : Numbered n (s.driverRegister k day).1 := by
  unfold State.driverRegister
  split
  · exact m
  · split
    all_goals
      split
      · exact m
      · exact m.frame rfl rfl

theorem driverRemove {k : Nat} (m : Numbered n s) : Numbered n (s.driverRemove k).1 := by
  unfold State.driverRemove
  iterate 4 (split; · exact m)
  exact m.frame rfl rfl

theorem setProduct {k : Nat} {e : Product} (m : Numbered n s) : Numbered n (s.setProduct k e) := by
  rw [State.setProduct_frame]
  exact m.frame rfl rfl

theorem productDefine {b : ProductBody} (m : Numbered n s) : Numbered n (s.productDefine b).1 := by
  unfold State.productDefine
  iterate 3 (split; · exact m)
  exact m.setProduct

theorem productState {code target : Nat} (m : Numbered n s) : Numbered n (s.productState code target).1 := by
  unfold State.productState
  iterate 3 (split; · exact m)
  exact m.setProduct

theorem settingsWrite {b : SettingsBody} (m : Numbered n s) : Numbered n (s.settingsWrite b).1 := by
  unfold State.settingsWrite
  split
  · exact m
  · exact settleRound (m.frame rfl rfl)

theorem expireSlot {i : SlotNo} (m : Numbered n s) : Numbered n (s.expireSlot i) := by
  unfold State.expireSlot
  split
  · exact m
  · rename_i hd
    exact m.ite fun _ => m.admitEntry.setRecord hd rfl

theorem moveTime {k : Nat} (m : Numbered n s) : Numbered n (s.moveTime k) :=
  foldl (fun _ _ m => m.expireSlot) (m.frame rfl rfl)

theorem timeSet {k : Nat} (m : Numbered n s) : Numbered n (s.timeSet k).1 := by
  unfold State.timeSet
  iterate 3 (split; · exact m)
  exact m.admitEntry.moveTime.ite fun _ => m.admitEntry

theorem advanceTime (m : Numbered n s) : Numbered n s.advanceTime := by
  unfold State.advanceTime
  split
  · exact m
  · exact m.ite fun _ => ite (m.frame rfl rfl) fun _ => m.moveTime

theorem shutdownClear (m : Numbered n s) : Numbered n s.shutdownClear.1 := by
  unfold State.shutdownClear
  split
  · exact m
  · split
    · exact .offer (m.frame rfl rfl)
    · exact m

theorem reclaim {p : Port} {tag k : Nat} (m : Numbered n s) : Numbered n (s.reclaim p tag k).1 := by
  unfold State.reclaim
  split
  · iterate 2 (split; · exact m)
    exact .setPort (m.frame rfl rfl)
  · exact m

theorem bayRead {k : Nat} (m : Numbered n s) : Numbered n (s.bayRead k).1 := by
  unfold State.bayRead
  split
  · exact m.updOrphan.updOrphan
  · split <;> exact m

theorem restart {k : Nat} (m : Numbered n s) : Numbered n (s.restart k).1 := by
  unfold State.restart
  split
  · exact m
  · exact m
  · split <;> exact m

theorem offerDeclaration {ref now : Nat} {x : Driver} {y : Option Declaration} (m : Numbered n s) :
    Numbered n (s.offerDeclaration ref x now y) := by
  cases y with
  | none => exact m
  | some y => exact m.offer

theorem announce {b : ArriveBody} (m : Numbered n s) : Numbered n (s.announce b).1 := by
  unfold State.announce
  iterate 2 (split; · exact m)
  split
  · exact m
  · rename_i i d hf
    iterate 3 (split; · exact m)
    split
    · exact m
    · exact m
    · have logged : ∀ {k : Nat} {y : Driver}, Numbered n ((s.admitEntry d.ref 0
          (.arrive d.vehicle (y.shiftStart.getD 0) b.declaration.isSome)).offerDeclaration d.ref y k b.declaration) :=
        m.admitEntry.offerDeclaration
      exact setRecord (d := d) (logged.frame rfl rfl)
        ((State.slot_offerDeclaration ..).trans (State.find_some hf).1) rfl

theorem makeOrphans {d : Delivery} {cs : List Compartment} (m : Numbered n s) :
    Numbered n (cs.foldl (State.makeOrphan d) s) := by
  refine m.foldl fun s c m => ?_
  unfold State.makeOrphan
  split
  · split
    · exact m
    · exact m.setArm
  · exact m

theorem release {p : Port} {tag ref driver : Nat} (m : Numbered n s) : Numbered n (s.release p tag ref driver).1 := by
  unfold State.release
  split
  · exact m
  · split
    · exact m
    · rename_i i d hf
      have hd := (State.find_some hf).1
      iterate 4 (split; · exact m)
      dsimp only
      split
      · have held : Numbered n (s.setSlot i (some { d.paperReadouts with
            state := .held, holds := (s.computeHolds d).holds })) := m.setRecord hd rfl
        exact held.offer.ite fun _ => held
      · have read : Numbered n (s.setSlot i (some d.paperReadouts)) := m.setRecord hd rfl
        unfold State.acceptRelease
        dsimp only
        split
        · exact read
        · exact makeOrphans (read.acceptDeferred.setRecord
            ((State.slot_acceptDeferred ..).trans (State.slot_setSlot_self ..)) rfl)

/-! #### The log store -/

theorem commit {d : Delivery} (m : Numbered n s) : Numbered n (s.commit d) := by
  rw [State.commit_frame]
  exact m.frame rfl rfl

theorem complete {e : Entry} (m : Numbered n s) : Numbered n (s.complete e) := by
  unfold State.complete
  split
  · exact m
  · rename_i hf
    unfold State.completeFor
    split
    · exact m.ite fun _ => m.commit.replyAwaited.freeSlot
    · exact m.ite fun _ => freeSlot (m.frame rfl rfl)
    · exact m.ite fun _ => m.freeSlot
    · exact replyAwaited (m.setRecord (State.find_some hf).1 rfl)
    · exact m

theorem writeDone (m : Numbered n s) : Numbered n s.writeDone := by
  unfold State.writeDone
  split
  · exact m
  · rename_i e rest _
    have done : Numbered n ({ s with log := s.log.written e rest }.complete e) :=
      complete (m.frame rfl (LogStore.written_paperCounter ..))
    exact beginWrite (done.frame rfl (LogStore.resume_paperCounter _))

theorem takePages {ps : List PageNo} (m : Numbered n s) : Numbered n (State.takePages ps s) := by
  induction ps generalizing s with
  | nil => exact m.frame rfl rfl
  | cons p ps ih =>
    unfold State.takePages
    split
    · exact ih m.replyPage
    · exact m.frame rfl rfl

theorem eraseDone (m : Numbered n s) : Numbered n s.eraseDone := by
  unfold State.eraseDone
  split
  · exact m
  · exact .beginWrite (.takePages (m.frame rfl rfl))

theorem eraseFailed (m : Numbered n s) : Numbered n s.eraseFailed := by
  unfold State.eraseFailed
  split
  · exact m
  · exact .beginWrite (.takePages (.replyPage (.offer (m.frame rfl rfl))))

theorem suspendErase (m : Numbered n s) : Numbered n s.suspendErase := beginWrite (m.frame rfl rfl)

/-! #### Starts -/

theorem enterStep2 (m : Numbered n s) : Numbered n s.enterStep2 :=
  ite (m.frame rfl rfl) fun _ => m.frame rfl (LogStore.findFilling_paperCounter _)

theorem enterStep1 (m : Numbered n s) : Numbered n s.enterStep1 := m.enterStep2.ite fun _ => m.frame rfl rfl

/-- A start of either kind keeps the counter; a warm one keeps every paper, a cold one none (R24, R25, R150). -/
theorem begin {kind : StartKind} (m : Numbered n s) : Numbered n (s.begin kind) := by
  cases kind with
  | warm =>
    have warm : Numbered n s.warmState := m.mapSlots (fun i => get_mapTable ..) (fun _ => rfl) rfl
    exact warm.enterStep1
  | cold =>
    have cold : Numbered n s.coldState := m.keep (fun i p h => by
      rw [State.paperIn, show s.coldState.slot i = none from get_replicate ..] at h
      cases h) le_rfl
    exact cold.enterStep1

theorem startErase {v : Bool} (m : Numbered n s) : Numbered n (s.startErase v) := by
  unfold State.startErase
  split
  · exact m
  · exact enterStep2 (ite (m.frame rfl rfl) fun _ => m.frame rfl rfl)

theorem deassertReset (m : Numbered n s) : Numbered n s.deassertReset := by
  have free : Numbered n { s with resetInput := false } := m.frame rfl rfl
  exact free.ite fun _ => free.enterStep2

theorem assertReset (m : Numbered n s) : Numbered n s.assertReset := by
  have asserted : Numbered n { s with resetInput := true } := m.frame rfl rfl
  exact (asserted.ite fun _ => asserted.begin).ite fun _ => m

theorem regainPower {x : Bool} (m : Numbered n s) : Numbered n (s.regainPower x) :=
  (m.begin.ite fun _ => m.begin).ite fun _ => m

theorem losePower {cut : EventCut} (m : Numbered n s) : Numbered n (s.losePower cut) :=
  m.ite fun _ => m.keep (fun _ _ h => h) (s.paperCounter_le_cutAt cut)

theorem dropWritten {es : List Entry} (m : Numbered n s) : Numbered n (State.dropWritten es s) := by
  induction es generalizing s with
  | nil => exact m
  | cons e es ih => exact m.ite fun _ => ih (complete (m.frame rfl rfl))

theorem withdrawExpiry {e : Entry} (m : Numbered n s) : Numbered n (s.withdrawExpiry e) := by
  unfold State.withdrawExpiry
  split
  · rename_i hf
    exact m.ite fun _ => m.setRecord (State.find_some hf).1 rfl
  · exact m

theorem dropBack (m : Numbered n s) : Numbered n s.dropBack := by
  unfold State.dropBack
  split
  · exact m
  · exact m.ite fun _ => withdrawExpiry (m.frame rfl rfl)

theorem scanEnd {found : CutWrite} (m : Numbered n s) : Numbered n (s.scanEnd found) := by
  have scanned : Numbered n { s with log := s.log.scan found } := m.frame rfl (LogStore.scan_paperCounter ..)
  have after : Numbered n (s.scanStep found) := scanned.dropWritten.dropBack.frame rfl rfl
  have decided : Numbered n (s.scanStep found).decideStatus := after.frame rfl rfl
  have logged : ∀ {k l : Nat}, Numbered n ((s.scanStep found).decideStatus.logStart k l) :=
    offer (decided.frame rfl rfl)
  exact settleRound (beginWrite (logged.frame rfl rfl))

/-! #### The ports, and every step -/

theorem owner {p : Port} {tag : Nat} {b : ReqBody} (m : Numbered n s) : Numbered n (s.owner p tag b).1 := by
  cases b with
  | book b => exact m.book
  | amend b => exact m.amend
  | cancel ref => exact m.cancel
  | detach ref => exact m.detach
  | override ref set supervisor => exact m.override
  | deliveryRead ref => exact m.deliveryRead
  | driverRegister k day => exact m.driverRegister
  | driverRemove k => exact m.driverRemove
  | productDefine b => exact m.productDefine
  | productState code target => exact m.productState
  | settingsWrite b => exact m.settingsWrite
  | timeSet k => exact m.timeSet
  | shutdownClear => exact m.shutdownClear
  | logAck k => exact m.frame rfl rfl
  | reclaim k => exact m.reclaim
  | bayRead k => exact m.bayRead
  | restart kind => exact m.restart
  | arrive b => exact m.announce
  | release ref driver => exact m.release
  | driverRead k =>
    simp only [State.owner, State.driverRead]
    split
    · exact m
    · split <;> exact m
  | productRead code =>
    simp only [State.owner, State.productRead]
    split
    · exact m
    · split <;> exact m
  | logRead k count =>
    simp only [State.owner, State.logRead]
    iterate 3 (split; · exact m)
    split <;> exact m
  | hoursQuery k =>
    simp only [State.owner, State.hoursQuery]
    iterate 2 (split; · exact m)
    split <;> exact m
  | paperRead ref =>
    simp only [State.owner, State.paperRead]
    iterate 3 (split; · exact m)
    split <;> exact m
  | settingsRead | status | unknown | badLength => exact m

theorem serve {p : Port} {y : Request} (m : Numbered n s) : Numbered n (s.serve p y) := by
  have taken : Numbered n (s.setService p (some (y.tag, y.code))) := m.setPort
  refine setPort ?_
  split
  · exact taken
  · exact taken.owner

theorem serveNext {p : Port} (m : Numbered n s) : Numbered n (s.serveNext p) := by
  unfold State.serveNext
  split
  · exact m
  · dsimp only
    split
    · exact m.setPort.serve
    · exact .setPort (.setPort m.setPort)

theorem arrive {p : Port} {y : Request} (m : Numbered n s) : Numbered n (s.arrive p y) :=
  ((m.setPort.ite fun _ => m.setPort).ite fun _ => m.setPort).ite fun _ => m.serve

theorem discard {p : Port} (m : Numbered n s) : Numbered n (s.discard p) := .setPort m.setPort

theorem frameComplete {p : Port} {ys : List Byte} (m : Numbered n s) : Numbered n (s.frameComplete p ys) := by
  unfold State.frameComplete
  split
  · exact m.discard
  · exact m.setPort.arrive

theorem receiveByte {p : Port} {y : Byte} {stop : Bool} (m : Numbered n s) : Numbered n (s.receiveByte p y stop) := by
  unfold State.receiveByte
  split
  · exact (m.discard.ite fun _ => m.setPort).ite fun _ => m
  · refine m.discard.ite fun _ => ?_
    exact (m.frameComplete.ite fun _ => m.setPort).ite fun _ => m.discard

theorem gapExpired {p : Port} (m : Numbered n s) : Numbered n (s.gapExpired p) := by
  unfold State.gapExpired
  split
  · exact m
  · exact .discard (m.frame rfl rfl)

theorem frameSent {p : Port} (m : Numbered n s) : Numbered n (s.frameSent p) := by
  unfold State.frameSent
  split
  · exact m
  · dsimp only
    split
    · exact m.setPort.begin
    · exact m.setPort.ite fun _ => .serveNext (.setPort m.setPort)

/-- Every command keeps the law. -/
theorem exec (m : Numbered n s) (c : Instr) : ∃ t, Machine.exec c s = .next t ∧ Numbered n t := by
  cases c with
  | frameReceived p xs => exact ⟨_, rfl, m.ite fun _ => m.frameComplete⟩
  | portByteGapExpiry p => exact ⟨_, rfl, m.ite fun _ => m.gapExpired⟩
  | frameSent p => exact ⟨_, rfl, m.ite fun _ => m.frameSent⟩
  | portByteReceived p x stop => exact ⟨_, rfl, m.ite fun _ => m.receiveByte⟩
  | exchangeStart => exact ⟨_, rfl, m.ite fun _ => m.beginExchange⟩
  | allStopBroadcast => exact ⟨_, rfl, m.ite fun _ => m.sendAllStop⟩
  | answerReceived words =>
    change ∃ t, execAnswerReceived words s = .next t ∧ Numbered n t
    unfold execAnswerReceived
    split
    · exact ⟨_, rfl, m.ite fun _ => m.endByAnswer⟩
    · exact ⟨_, rfl, m⟩
  | answerWindowExpiry =>
    change ∃ t, execAnswerWindowExpiry s = .next t ∧ Numbered n t
    unfold execAnswerWindowExpiry
    split
    · exact ⟨_, rfl, m.ite fun _ => .endByWindow (m.frame rfl rfl)⟩
    · exact ⟨_, rfl, m⟩
  | permitWindowExpiry i k => exact ⟨_, rfl, m.expire fun _ m => m.permitExpired⟩
  | flowingLimitExpiry i k => exact ⟨_, rfl, m.expire fun _ m => m.flowingExpired⟩
  | settleIntervalExpiry x => exact ⟨_, rfl, m.expire fun _ m => m.settleExpired⟩
  | stopDeadlineExpiry x => exact ⟨_, rfl, m.expire fun _ m => m.stopExpired⟩
  | shutdownInputAsserted => exact ⟨_, rfl, m.assertInput.ite fun _ => m⟩
  | shutdownInputDeasserted => exact ⟨_, rfl, m.frame rfl rfl⟩
  | terminalTimeAdvance => exact ⟨_, rfl, m.advanceTime⟩
  | writeComplete => exact ⟨_, rfl, m.ite fun _ => m.writeDone⟩
  | collectionWindowExpiry => exact ⟨_, rfl, m.ite fun _ => .takePages (m.frame rfl rfl)⟩
  | eraseSuspend => exact ⟨_, rfl, m.ite fun _ => m.suspendErase⟩
  | eraseComplete => exact ⟨_, rfl, m.ite fun _ => m.eraseDone⟩
  | eraseVerifyFailure => exact ⟨_, rfl, m.ite fun _ => m.eraseFailed⟩
  | resetAsserted => exact ⟨_, rfl, m.assertReset⟩
  | resetDeasserted => exact ⟨_, rfl, m.deassertReset⟩
  | powerLoss cut => exact ⟨_, rfl, m.losePower⟩
  | powerReturn x => exact ⟨_, rfl, m.regainPower⟩
  | startUpEraseEnd v => exact ⟨_, rfl, m.ite fun _ => m.startErase⟩
  | startUpScanEnd slot => exact ⟨_, rfl, m.ite fun _ => m.scanEnd⟩
  | _ => exact ⟨_, rfl, m.ite fun _ => m.arrive⟩

theorem step (m : Numbered n s) (ht : Machine.step s = .next t) : Numbered n t := by
  unfold Machine.step at ht
  split at ht
  · obtain rfl := Host.Outcome.next.inj ht
    exact m.ite fun _ => m.frame rfl rfl
  · rename_i c rest _
    have taken : Numbered n { s with pending := rest } := m.frame rfl rfl
    obtain ⟨u, hu, kept⟩ := taken.exec c
    obtain rfl := Host.Outcome.next.inj (hu.symm.trans ht)
    exact kept

end Numbered

/-- Settles O59: a first issue takes the number after the counter, which every paper's number stays below, a rebuild
keeps the number of its paper, no other change brings a paper into the table, and nothing lowers the counter. -/
theorem paperNumbersAreNotUsedTwice : Obligations.PaperNumbersAreNotUsedTwice :=
  fun _ _ law ht => numbered_iff.1 (Numbered.step (numbered_iff.2 ⟨law, le_rfl⟩) ht)

end Sys2Proof.Machine

namespace Sys2Proof.Machine

/-! ### RELEASE held, and OVERRIDE (R132 to R135, R140, R141) -/

/-- A RELEASE at the gate port that leaves holds: the record is HELD with them, and a HOLD entry is offered where they
are others than before (R135). -/
theorem State.hold_gate (s : State) (tag : Nat) (i : SlotNo) {h : Holds} {n : Nat} {p : Paper}
    (hn : h.record.driver = some n) (hp : h.record.paper = some p) : (s.serving .gate tag 0x22).hold i h =
      ({ s with
        dispatch := s.dispatch.set i.val (some { h.record with state := .held, holds := h.holds }) i.isLt
        log := if h.holds = h.record.holds then s.log
          else (s.offer h.record.ref n (.hold h.holds h.record.holds h.margins.daily h.margins.rolling
            (h.margins.shift.getD 0))).log
        gate := { s.gate with inService := some (tag, 0x22) } },
        .refusedHeld h.holds h.raised h.margins p.number p.version) := by
  have logged := fun r => State.offer_log_congr (s := s) (t := (s.serving .gate tag 0x22).setSlot i (some r))
    rfl rfl rfl rfl h.record.ref n
  unfold State.hold
  simp only [hn, hp, Option.getD_some, Option.map_some]
  split
  · rfl
  · rw [State.offer_frame, logged]
    rfl

/-- Settles O23: the request reaches its owner whatever its tag, and its hold computation leaves holds. -/
theorem releaseIsHeldByItsHolds : Obligations.ReleaseIsHeldByItsHolds := by
  rintro s tag n i d e paper raised holds m hfree hr hn hd ho hs hp hdr hc rfl rfl hraised rfl hne
  have computed := State.release_computed (s := s.serving .gate tag 0x22) (p := .gate) (tag := tag)
    hd hr hn ho (hs.imp_left fun h => ⟨h, by simp [hp]⟩) hdr hc
  have found : (s.serving .gate tag 0x22).computeHolds d =
      ⟨d.withReadouts, raised, raised.without d.overrides, (s.projectFor d).margins⟩ := by
    rw [State.computeHolds_eq, hraised]
    rfl
  rw [found, if_pos hne, State.hold_gate s tag i (n := n) (p := paper) hdr hp] at computed
  refine congrArg Host.Outcome.next ((State.request_owner_deferrable (body := .release d.ref n) hfree rfl (by simp)
    rfl).trans ?_)
  rw [State.owner, computed]
  rfl

/-- An override mask of five bits is the set of its bits (R140). -/
theorem HoldSet.ofOverrideMask_eq {set : Nat} (h : set < 32) : HoldSet.ofOverrideMask set =
    some ⟨set.testBit 0, set.testBit 1, set.testBit 2, set.testBit 3, set.testBit 4, false, false⟩ :=
  if_pos h

/-- An OVERRIDE whose checks pass is accepted (R140). -/
theorem State.override_accepted {s : State} {p : Port} {tag set supervisor : Nat} {i : SlotNo} {d : Delivery}
    {new : HoldSet} (hm : HoldSet.ofOverrideMask set = some new) (hd : s.holdsAt i d) (hr : d.ref ≠ 0)
    (hs : supervisor ≠ 0) (ho : s.owned d = false) (hb : d.state ≠ .booked)
    (ha : s.deferrableRefusal p tag = none) : s.override p tag d.ref set supervisor =
      s.acceptDeferred p tag 0x05 d.ref (d.driver.getD 0) (.override new d.overrides supervisor) := by
  simp [State.override, hm, hr, hs, State.find_of_holdsAt hd, ho, hb, ha]

/-- Settles O24: the request reaches its owner at once, which accepts it. -/
theorem overrideWaitsForItsEntry : Obligations.OverrideWaitsForItsEntry := by
  intro s tag set supervisor i d hready hroom hr hsup hset hd ho hb ha
  have accepted := State.override_accepted (s := s.serving .office tag 0x05) (HoldSet.ofOverrideMask_eq hset) hd hr
    hsup ho hb (State.deferrableRefusal_eq hready hroom ha)
  exact congrArg Host.Outcome.next ((State.request_answered (body := .override d.ref set supervisor) hready rfl
    (by simp) accepted).trans rfl)

end Sys2Proof.Machine

namespace Sys2Proof.Machine

/-! ### The pages of the store, written one at a time (R145, R146) -/

/-- A page written keeps the pages lawful where its slots suit its state and no other page is FILLING beside it. -/
theorem LogStore.lawfulPages.setPage {l : LogStore} (h : l.lawfulPages) {p : PageNo} {x : Page} (hx : x.lawful)
    (hf : x.state = .filling → ∀ q, q ≠ p → (l.page q).state ≠ .filling) : (l.setPage p x).lawfulPages := by
  refine ⟨fun q => ?_, fun q r hq hr => ?_⟩
  · rw [LogStore.page_setPage]
    split
    · exact hx
    · exact h.1 q
  · rw [LogStore.page_setPage] at hq hr
    split at hq <;> split at hr
    · simp_all
    · exact absurd hr (hf hq r ‹_›)
    · exact absurd hq (hf hr q ‹_›)
    · exact h.2 q r hq hr

/-- A FREE page that becomes FILLING is empty (R145). -/
theorem LogStore.lawfulPages.fill {l : LogStore} (h : l.lawfulPages) {p : PageNo} (hp : (l.page p).state = .free)
    (hn : ∀ q, (l.page q).state ≠ .filling) : (l.setPage p ⟨.filling, (l.page p).used⟩).lawfulPages := by
  refine h.setPage ?_ fun _ q _ => hn q
  rw [used_nil h (.inl hp)]
  exact (by decide : 0 < 32)

theorem LogStore.lawfulPages.fillNext {l : LogStore} (h : l.lawfulPages) (p : PageNo)
    (hn : ∀ q, (l.page q).state ≠ .filling) : (l.fillNext p).lawfulPages := by
  unfold LogStore.fillNext
  split
  · exact h
  · split
    · exact h.fill ‹_› hn
    · exact h

theorem LogStore.lawfulPages.fillFirst {l : LogStore} (h : l.lawfulPages) (hn : ∀ q, (l.page q).state ≠ .filling) :
    l.fillFirst.lawfulPages := by
  unfold LogStore.fillFirst
  split
  · exact h
  · rename_i p hp
    exact h.fill (by simpa using List.find?_some hp) hn

theorem LogStore.lawfulPages.findFilling {l : LogStore} (h : l.lawfulPages) : l.findFilling.lawfulPages := by
  unfold LogStore.findFilling
  split
  · exact h
  · rename_i hf
    have hn := Machine.filling_none.1 hf
    split
    · exact h.fillFirst hn
    · exact h.fillNext _ hn

/-- A lawful FILLING page has an empty slot, so nothing rolls over (R145). -/
theorem LogStore.rollOver_filling {l : LogStore} (h : l.lawfulPages) {p : PageNo} (hp : (l.page p).state = .filling) :
    l.rollOver p = l := by
  have room : (l.page p).used.length < Config.pageSlots := by
    have := h.1 p
    rwa [Page.lawful, hp] at this
  exact if_neg (Nat.not_le.2 room)

/-- A slot of the FILLING page used: with slot 31 the page is FULL and the next one may be FILLING (R146, R154). -/
theorem LogStore.lawfulPages.useSlot {l : LogStore} (h : l.lawfulPages) {p : PageNo}
    (hp : (l.page p).state = .filling) (u : PageSlot) :
    ((l.setPage p ⟨.filling, (l.page p).used ++ [u]⟩).rollOver p).lawfulPages := by
  have room : (l.page p).used.length < Config.pageSlots := by
    have := h.1 p
    rwa [Page.lawful, hp] at this
  have other : ∀ q, q ≠ p → (l.page q).state ≠ .filling := fun q hq hf => hq (h.2 q p hf hp)
  unfold LogStore.rollOver
  rw [LogStore.page_setPage_self]
  split
  · rename_i full
    have hlen : ((l.page p).used ++ [u]).length = Config.pageSlots := by
      rw [List.length_append, List.length_singleton] at full ⊢
      omega
    have twice : (l.setPage p ⟨.filling, (l.page p).used ++ [u]⟩).setPage p ⟨.full, (l.page p).used ++ [u]⟩ =
        l.setPage p ⟨.full, (l.page p).used ++ [u]⟩ := by simp [LogStore.setPage]
    rw [twice]
    refine LogStore.lawfulPages.fillNext (h.setPage (x := ⟨.full, (l.page p).used ++ [u]⟩) hlen nofun) p fun q => ?_
    rw [LogStore.page_setPage]
    split
    · simp
    · exact other q ‹_›
  · rename_i free
    exact h.setPage (Nat.lt_of_not_le free) fun _ => other

/-! ### Pages that are not taken -/

/-- A page that is RECLAIMING in `m` is as in `l`. -/
def LogStore.TakesNone (l m : LogStore) : Prop := ∀ p, (m.page p).state = .reclaiming → m.page p = l.page p

theorem LogStore.TakesNone.trans {l m n : LogStore} (h : l.TakesNone m) (k : m.TakesNone n) : l.TakesNone n :=
  fun p hp => (k p hp).trans (h p (k p hp ▸ hp))

theorem LogStore.TakesNone.setPage (l : LogStore) (p : PageNo) {x : Page} (hx : x.state ≠ .reclaiming) :
    l.TakesNone (l.setPage p x) := by
  intro q hq
  rw [LogStore.page_setPage] at hq ⊢
  split at hq
  · exact absurd hq hx
  · rw [if_neg ‹_›]

theorem LogStore.TakesNone.fillNext (l : LogStore) (p : PageNo) : l.TakesNone (l.fillNext p) := by
  unfold LogStore.fillNext
  split
  · exact fun _ _ => rfl
  · split
    · exact .setPage _ _ nofun
    · exact fun _ _ => rfl

theorem LogStore.TakesNone.findFilling (l : LogStore) : l.TakesNone l.findFilling := by
  unfold LogStore.findFilling LogStore.fillFirst
  split
  · exact fun _ _ => rfl
  · split
    · split
      · exact fun _ _ => rfl
      · exact .setPage _ _ nofun
    · exact .fillNext l _

theorem LogStore.TakesNone.rollOver (l : LogStore) (p : PageNo) : l.TakesNone (l.rollOver p) := by
  unfold LogStore.rollOver
  split
  · exact .trans (.setPage l p (x := ⟨.full, (l.page p).used⟩) nofun) (.fillNext _ p)
  · exact fun _ _ => rfl

/-! ### What a written page leaves of the store -/

theorem LogStore.fillNext_frame (l : LogStore) (p : PageNo) :
    l.fillNext p = { l with pages := (l.fillNext p).pages } := by
  unfold LogStore.fillNext
  split
  · rfl
  · split <;> rfl

theorem LogStore.rollOver_frame (l : LogStore) (p : PageNo) :
    l.rollOver p = { l with pages := (l.rollOver p).pages } := by
  unfold LogStore.rollOver
  split
  · rw [LogStore.fillNext_frame]
    rfl
  · rfl

theorem LogStore.findFilling_frame (l : LogStore) : l.findFilling = { l with pages := l.findFilling.pages } := by
  unfold LogStore.findFilling LogStore.fillFirst
  split
  · rfl
  · split
    · split <;> rfl
    · exact LogStore.fillNext_frame ..

/-- The entry written joins the store, which is else as it was (R154). -/
theorem LogStore.written_frame (l : LogStore) (e : Entry) (rest : List Entry) :
    l.written e rest = l.stored e rest (l.written e rest).pages := by
  unfold LogStore.written
  dsimp only
  split
  · rfl
  · rw [LogStore.rollOver_frame]
    rfl

theorem LogStore.scanned_frame (l : LogStore) (slot : Option PageSlot) (p : PageNo) :
    l.scanned slot p = { l with pages := (l.scanned slot p).pages } := by
  unfold LogStore.scanned
  rw [LogStore.rollOver_frame]
  split <;> rfl

/-- The scan writes pages and the last written number (R191). -/
theorem LogStore.scan_frame (l : LogStore) (found : CutWrite) :
    l.scan found = { l with
      pages := (l.scan found).pages
      cutWrite := none
      everWritten := (l.scan found).everWritten
      lastWritten := (l.scan found).lastWritten } := by
  unfold LogStore.scan
  dsimp only
  split
  · rfl
  · rw [LogStore.scanned_frame]

theorem LogStore.lawfulPages.written {l : LogStore} (h : l.lawfulPages) (e : Entry) (rest : List Entry) :
    (l.written e rest).lawfulPages := by
  unfold LogStore.written
  dsimp only
  split
  · exact h
  · exact h.useSlot (filling_state ‹_›) (.entry e)

theorem LogStore.TakesNone.written (l : LogStore) (e : Entry) (rest : List Entry) : l.TakesNone (l.written e rest) := by
  unfold LogStore.written
  dsimp only
  split
  · exact fun _ _ => rfl
  · rename_i p _
    exact .trans (.setPage l p (x := ⟨.filling, (l.page p).used ++ [.entry e]⟩) nofun) (.rollOver _ p)

theorem LogStore.lawfulPages.scan {l : LogStore} (h : l.lawfulPages) (found : CutWrite) :
    (l.scan found).lawfulPages := by
  unfold LogStore.scan LogStore.scanned
  dsimp only
  split
  · exact h
  · rename_i p hf
    have hp := filling_state hf
    split
    · change (l.rollOver p).lawfulPages
      rwa [LogStore.rollOver_filling h hp]
    · exact h.useSlot hp _

theorem LogStore.TakesNone.scan (l : LogStore) (found : CutWrite) : l.TakesNone (l.scan found) := by
  unfold LogStore.scan LogStore.scanned
  dsimp only
  split
  · exact fun _ _ => rfl
  · rename_i p _
    split
    · exact .rollOver l p
    · rename_i u _
      exact .trans (.setPage l p (x := ⟨.filling, (l.page p).used ++ [u]⟩) nofun) (.rollOver _ p)

end Sys2Proof.Machine

namespace Sys2Proof.Machine

/-! ### The laws of the store, as laws of the log alone -/

/-- The engine is ERASING or SUSPENDED (R159). -/
def Engine.working (x : Engine) : Prop := x.state = .erasing ∨ x.state = .suspended

/-- The bounds of the queue and the lost count (R151, R152). -/
def LogStore.bounded (l : LogStore) : Prop := l.queue.length ≤ Config.queueCapacity ∧ l.lostCount ≤ 255

/-- The numbers of the queued entries and the next number (R149). -/
def LogStore.numbered (l : LogStore) : Prop :=
  l.queue.map Entry.seq = numbersAfter l.lastWritten l.queue.length
    ∧ l.nextNumber = (l.lastWritten + 1 + l.queue.length) % Config.wrap32

/-- A RECLAIMING page is the one that the engine works on (R161). -/
def LogStore.engaged (l : LogStore) : Prop :=
  ∀ p, (l.page p).state = .reclaiming → l.engine.working ∧ l.engine.set.head? = some p

/-- No page is RECLAIMING. -/
def LogStore.unreclaimed (l : LogStore) : Prop := ∀ p, (l.page p).state ≠ .reclaiming

theorem queueLaw_iff (s : State) : QueueLaw s ↔ s.log.bounded := Iff.rfl

theorem numberLaw_iff (s : State) : NumberLaw s ↔ s.log.numbered := Iff.rfl

/-- Before step 2 of start-up has ended a RECLAIMING page may stand alone; at step 3 there is none (R145, R190). -/
theorem pageLaw_iff (s : State) : PageLaw s ↔
    s.log.lawfulPages ∧ (s.phase = .running → s.log.engaged) ∧ (s.phase = .step3 → s.log.unreclaimed) := by
  constructor
  · rintro ⟨lawful, one, work⟩
    exact ⟨⟨lawful, one⟩, fun hr p hp => (work (.inr hr) p hp).2, fun h3 p hp => by
      have := (work (.inl h3) p hp).1
      rw [h3] at this
      cases this⟩
  · rintro ⟨⟨lawful, one⟩, running, step3⟩
    refine ⟨lawful, one, fun h p hp => ?_⟩
    rcases h with h | h
    · exact absurd hp (step3 h p)
    · exact ⟨h, running h p hp⟩

/-! ### What leaves the pages as they are -/

/-- The slots that the FILLING page and the usable FREE pages have (R147). -/
def LogStore.slots (l : LogStore) : Nat := l.emptySlots + Config.pageSlots * l.usablePages

theorem LogStore.slots_congr {l m : LogStore} (hp : m.pages = l.pages) (hl : m.lastWritten = l.lastWritten) :
    m.slots = l.slots := by
  have page : ∀ p, m.page p = l.page p := fun p => by unfold LogStore.page; rw [hp]
  have filling : m.filling = l.filling := by unfold LogStore.filling; simp only [page]
  have tail : m.tail = l.tail := by unfold LogStore.tail LogStore.pageOf; rw [filling, hl]; simp only [page]
  unfold LogStore.slots LogStore.emptySlots LogStore.usablePages
  rw [filling, tail]
  simp only [page]

/-- What admissions, losses and beginnings of writes make of the store: the pages, the last written number, the mark
and the page that the engine works on stay, and queue and numbers keep their laws (R149, R151 to R154). -/
structure LogStore.Grows (l m : LogStore) : Prop where
  pages : m.pages = l.pages
  last : m.lastWritten = l.lastWritten
  mark : m.exportMark = l.exportMark
  working : m.engine.working ↔ l.engine.working
  set : l.engine.working → m.engine.set = l.engine.set
  bounded : l.bounded → m.bounded
  numbered : l.numbered → m.numbered
  room : l.queue.length ≤ l.slots → m.queue.length ≤ l.slots

namespace LogStore.Grows

variable {l m n : LogStore}

theorem refl (l : LogStore) : l.Grows l := ⟨rfl, rfl, rfl, Iff.rfl, fun _ => rfl, id, id, id⟩

theorem trans (h : l.Grows m) (k : m.Grows n) : l.Grows n where
  pages := k.pages.trans h.pages
  last := k.last.trans h.last
  mark := k.mark.trans h.mark
  working := k.working.trans h.working
  set hl := (k.set (h.working.2 hl)).trans (h.set hl)
  bounded := k.bounded ∘ h.bounded
  numbered := k.numbered ∘ h.numbered
  room hr := by
    have same := LogStore.slots_congr h.pages h.last
    exact same ▸ k.room (same ▸ h.room hr)

/-- An engine that works on the same page, or still on none. -/
theorem withEngine {x : Engine} (hw : x.working ↔ l.engine.working) (hs : l.engine.working → x.set = l.engine.set) :
    l.Grows { l with engine := x } := ⟨rfl, rfl, rfl, hw, hs, id, id, id⟩

theorem lose (l : LogStore) : l.Grows l.lose :=
  ⟨rfl, rfl, rfl, Iff.rfl, fun _ => rfl, fun h => ⟨h.1, Nat.min_le_left ..⟩, id, id⟩

theorem beginWrite (l : LogStore) (r : Bool) : l.Grows (l.beginWrite r) where
  pages := by simp
  last := by simp
  mark := by simp
  working := by simp
  set _ := by simp
  bounded h := by
    refine ⟨(l.beginWrite_length r).symm ▸ h.1, ?_⟩
    rcases l.beginWrite_lostCount r with hl | hl <;> rw [hl]
    · exact h.2
    · exact Nat.zero_le _
  numbered h := by simpa [LogStore.numbered] using h
  room := by simp

theorem admitEntry (hq : l.queue.length < Config.queueCapacity) (hf : 1 ≤ l.freeSpace) (r : Bool)
    (t n ref d : Nat) (x : Payload) : l.Grows (l.admitEntry r t n ref d x) := by
  obtain ⟨state, set, -⟩ := l.admit_engine r t n ref d x
  refine ⟨by simp, by simp, by simp, by rw [Engine.working, state]; rfl, fun _ => set, fun h => ?_, fun h => ?_, ?_⟩
  · refine ⟨by rw [LogStore.admit_length]; exact hq, ?_⟩
    rcases LogStore.beginWrite_lostCount r _ with hl | hl <;> rw [LogStore.admitEntry, hl]
    · exact h.2
    · exact Nat.zero_le _
  · obtain ⟨seqs, next⟩ := h
    refine ⟨?_, ?_⟩
    · rw [LogStore.admit_seqs, LogStore.admit_lastWritten, LogStore.admit_length, seqs, numbersAfter_succ, next]
    · rw [LogStore.admit_nextNumber, LogStore.admit_lastWritten, LogStore.admit_length, next]
      simp only [nextSeq, Config.wrap32]
      omega
  · intro _
    rw [LogStore.admit_length]
    unfold LogStore.freeSpace at hf
    unfold LogStore.slots
    omega

theorem page (h : l.Grows m) (p : PageNo) : m.page p = l.page p := by unfold LogStore.page; rw [h.pages]

theorem lawfulPages (h : l.Grows m) (hp : l.lawfulPages) : m.lawfulPages := by
  simpa only [LogStore.lawfulPages, h.page] using hp

theorem unreclaimed (h : l.Grows m) (hn : l.unreclaimed) : m.unreclaimed := fun p => (h.page p).symm ▸ hn p

theorem engaged (h : l.Grows m) (he : l.engaged) : m.engaged := by
  intro p hp
  obtain ⟨work, head⟩ := he p (h.page p ▸ hp)
  exact ⟨h.working.2 work, (h.set work).symm ▸ head⟩

theorem ordered (h : l.Grows m) (ho : l.Ordered) : m.Ordered :=
  ho.congr h.pages h.last h.working.1 (fun hw => h.set (h.working.1 hw)) (h.room ho.room)

theorem marked (h : l.Grows m) (hk : l.marked) : m.marked := hk.congr h.pages h.last h.mark

end LogStore.Grows

/-! ### What the running part keeps -/

/-- The store once the engine has been put to rest. -/
def LogStore.rested (l : LogStore) : LogStore := { l with engine := Engine.idle }

theorem not_working_idle : ¬ Engine.idle.working := by simp [Engine.working, Engine.idle]

theorem LogStore.engaged_rested {l : LogStore} : l.rested.engaged ↔ l.unreclaimed :=
  ⟨fun h p hp => not_working_idle (h p hp).1, fun h p hp => absurd hp (h p)⟩

theorem LogStore.Grows.rested {l m : LogStore} (h : l.Grows m) : l.rested.Grows m.rested :=
  ⟨h.pages, h.last, h.mark, Iff.rfl, fun _ => rfl, h.bounded, h.numbered, fun hr => h.room hr⟩

/-- What an event of the running part makes of the store `l`: every law that holds of `l` holds of `m`, the
mark stays, and the pages are lawful. -/
structure LogStore.Kept (l m : LogStore) : Prop where
  mark : m.exportMark = l.exportMark
  bounded : l.bounded → m.bounded
  pages : m.lawfulPages
  engaged : m.engaged
  numbered : l.numbered → m.numbered
  ordered : l.numbered → l.Ordered → m.Ordered
  marked : l.numbered → l.Ordered → l.marked → m.marked

namespace LogStore.Kept

variable {l m n : LogStore}

theorem refl (hp : l.lawfulPages) (he : l.engaged) : l.Kept l := ⟨rfl, id, hp, he, id, fun _ => id, fun _ _ => id⟩

theorem grow (h : l.Kept m) (k : m.Grows n) : l.Kept n where
  mark := k.mark.trans h.mark
  bounded := k.bounded ∘ h.bounded
  pages := k.lawfulPages h.pages
  engaged := k.engaged h.engaged
  numbered := k.numbered ∘ h.numbered
  ordered hn ho := k.ordered (h.ordered hn ho)
  marked hn ho hk := k.marked (h.marked hn ho hk)

end LogStore.Kept

/-! ### The taking of a page (R160, R161) -/

/-- The engine takes a page that is FULL, or RECLAIMING already, exported, and the head (R161). -/
theorem LogStore.skips_eq_none {l : LogStore} {p : PageNo} (h : l.skips p = none) :
    (l.page p).state.holds = true ∧ l.exported p = true ∧ l.head = some p := by
  rw [LogStore.skips_eq, LogStore.outcomeOf] at h
  split_ifs at h with hbad hopen hlast hhead
  refine ⟨?_, ?_, not_not.1 hhead⟩
  · cases hs : (l.page p).state <;> simp [hs] at hbad hopen <;> rfl
  · rw [Bool.not_eq_false] at hlast
    unfold LogStore.exported
    cases he : (l.page p).lastEntry with
    | none => rfl
    | some e => rwa [he] at hlast

/-- Of the pages taken in order either none is erased, and the engine rests, or the one before which all are skipped
is marked for its erase (R160, R161). -/
theorem State.takePages_cases (ps : List PageNo) (s : State) :
    (s.takePages ps).phase = s.phase ∧ ((s.takePages ps).log = s.log.rested
      ∨ ∃ p rest, s.log.skips p = none ∧ (s.takePages ps).log = s.log.beginErase p (p :: rest)) := by
  induction ps generalizing s with
  | nil => exact ⟨rfl, .inl rfl⟩
  | cons p ps ih =>
    unfold State.takePages
    split
    · exact ih _
    · exact ⟨rfl, .inr ⟨p, ps, ‹_›, rfl⟩⟩

theorem LogStore.page_beginErase (l : LogStore) (p q : PageNo) (set : List PageNo) :
    (l.beginErase p set).page q = if q = p then ⟨.reclaiming, (l.page p).used⟩ else l.page q :=
  LogStore.page_setPage ..

theorem LogStore.working_beginErase (l : LogStore) (p : PageNo) (set : List PageNo) :
    (l.beginErase p set).engine.working := by
  unfold LogStore.beginErase Engine.working
  dsimp only
  split <;> simp

/-- A page marked for its erase has every slot used (R145, R161). -/
theorem LogStore.lawfulPages.beginErase {l : LogStore} (h : l.lawfulPages) {p : PageNo} (hp : l.skips p = none)
    (set : List PageNo) : (l.beginErase p set).lawfulPages := by
  have full : (l.page p).used.length = Config.pageSlots := by
    have holds := (LogStore.skips_eq_none hp).1
    have lawful := h.1 p
    unfold Page.lawful at lawful
    cases hs : (l.page p).state <;> simp_all [PageState.holds]
  exact h.setPage (x := ⟨.reclaiming, (l.page p).used⟩) full nofun

/-- The taking of pages by an engine that works on none. -/
theorem LogStore.Kept.take {l : LogStore} {s : State} (h : l.Kept s.log.rested) (ps : List PageNo) :
    l.Kept (s.takePages ps).log := by
  have none := LogStore.engaged_rested.1 h.engaged
  rcases (State.takePages_cases ps s).2 with rests | ⟨p, rest, hp, taken⟩
  · rw [rests]
    exact h
  · obtain ⟨holds, exported, head⟩ := LogStore.skips_eq_none hp
    have full : (s.log.page p).state = .full := by
      have := none p
      cases hs : (s.log.page p).state <;> simp_all [PageState.holds]
    have pages := LogStore.lawfulPages.beginErase (l := s.log) h.pages hp (p :: rest)
    have page := fun q => s.log.page_beginErase p q (p :: rest)
    have take := fun ho => ordered_take (l := s.log.rested) (m := s.log.beginErase p (p :: rest)) (rest := rest) ho
      none head full page rfl rfl rfl
    rw [taken]
    refine ⟨h.mark, h.bounded, pages, fun q hq => ?_, h.numbered, fun hn ho => (take (h.ordered hn ho)).1,
      fun hn ho hk => ?_⟩
    · refine ⟨s.log.working_beginErase .., ?_⟩
      rw [page] at hq
      split at hq
      · exact congrArg some (Eq.symm ‹_›)
      · exact absurd hq (none q)
    · exact take_marked (l := s.log.rested) h.pages (h.ordered hn ho) pages (h.marked hn ho hk) full head exported page
        (take (h.ordered hn ho)).2 rfl rfl

/-! ### The end of an erase (R163, R164) -/

/-- With no page FILLING the page being erased is the next to fill (R146, R163). -/
theorem LogStore.lawfulPages.fillsAtOnce {l : LogStore} (h : l.lawfulPages) (ho : l.Ordered) {p : PageNo}
    (hp : (l.page p).state = .reclaiming) (hf : l.filling = none) : l.fillsAtOnce p = true := by
  have head := ho.oldest p hp
  cases ht : l.tail with
  | none =>
    rw [LogStore.head, ht] at head
    cases head
  | some t =>
    obtain ⟨a, b, hr, ha⟩ := head_split h ht head (by rw [hp]; rfl)
    have next : l.nextPage t = some p := by
      refine List.find?_eq_some_iff_append.2 ⟨by rw [hp]; rfl, a, b, hr, fun q hq => ?_⟩
      have bad := (ha q hq).resolve_left (ho.full (by simp [ht]) hf q)
      simp [bad]
    simp [LogStore.fillsAtOnce, hf, ht, next]

/-- The erase of the engine's page has ended: no page is RECLAIMING, and with no page FILLING the one erased is FREE
only if it is not the next to fill (R146, R163). -/
theorem LogStore.Kept.clear {l m : LogStore} {p : PageNo} {rest : List PageNo} {st : PageState} (hp : l.lawfulPages)
    (he : l.engaged) (hw : l.engine.working) (hs : l.engine.set = p :: rest)
    (hst : (st = .free ∧ ¬ l.fillsAtOnce p) ∨ (st = .filling ∧ l.fillsAtOnce p) ∨ st = .bad)
    (hm : m = { l with pages := (l.setPage p ⟨st, []⟩).pages, engine := Engine.idle, status := m.status }) :
    l.Kept m := by
  have page : ∀ q, m.page q = if q = p then ⟨st, []⟩ else l.page q := fun q => by
    rw [hm]
    exact LogStore.page_setPage ..
  have only : ∀ q, (l.page q).state = .reclaiming → q = p := fun q hq => by
    have := (he q hq).2
    rw [hs] at this
    exact (Option.some.inj this).symm
  have gone : m.unreclaimed := fun q hq => by
    rw [page] at hq
    split at hq
    · rcases hst with ⟨h, -⟩ | ⟨h, -⟩ | h <;> exact absurd (h.symm.trans hq) nofun
    · exact ‹q ≠ p› (only q hq)
  have lawful : m.lawfulPages := by
    have set : (l.setPage p ⟨st, []⟩).lawfulPages := by
      refine hp.setPage ?_ fun hf q _ => ?_
      · rcases hst with ⟨h, -⟩ | ⟨h, -⟩ | h <;> subst h <;> simp [Page.lawful, Config.pageSlots]
      · rcases hst with ⟨h, -⟩ | ⟨-, h⟩ | h
        · exact absurd (h.symm.trans hf) nofun
        · exact Machine.filling_none.1 (by simpa using (Bool.and_eq_true_iff.1 h).1) q
        · exact absurd (h.symm.trans hf) nofun
    rw [hm]
    exact set
  have rest_engine : m.engine = Engine.idle := by rw [hm]
  have last : m.lastWritten = l.lastWritten := by rw [hm]
  have mark : m.exportMark = l.exportMark := by rw [hm]
  have queue : m.queue = l.queue := by rw [hm]
  have cleared : l.Ordered → m.Ordered ∧ (l.page p).state = .reclaiming
      ∧ l.inOrder = (l.page p).entries ++ m.inOrder := by
    intro ho
    obtain ⟨p', rest', hs', hr⟩ := ho.working hw
    obtain rfl : p = p' := (List.cons.inj (hs.symm.trans hs')).1
    have filled : (st = .free ∧ l.filling ≠ none) ∨ (st = .filling ∧ l.filling = none) ∨ st = .bad := by
      rcases hst with ⟨h, hf⟩ | ⟨h, hf⟩ | h
      · refine .inl ⟨h, fun hn => hf ?_⟩
        exact hp.fillsAtOnce ho hr hn
      · exact .inr (.inl ⟨h, by simpa using (Bool.and_eq_true_iff.1 hf).1⟩)
      · exact .inr (.inr h)
    obtain ⟨order, -, entries⟩ := cleared_ordered hp ho hr page filled last queue rest_engine
    exact ⟨order, hr, entries⟩
  refine ⟨mark, fun h => ?_, lawful, fun q hq => absurd hq (gone q), fun h => ?_, fun _ ho => (cleared ho).1,
    fun _ ho hk => ?_⟩
  · rw [hm]
    exact h
  · rw [hm]
    exact h
  · obtain ⟨-, hr, entries⟩ := cleared ho
    exact cleared_marked hp ho lawful hk hr entries last mark gone

end Sys2Proof.Machine

namespace Sys2Proof.Machine

/-! ### The store at the events of the running part -/

/-- An automatic entry is admitted where a slot is left for it, or lost (R151). -/
theorem LogStore.Grows.offer (s : State) (ref driver : Nat) (x : Payload) :
    s.log.Grows (s.offer ref driver x).log := by
  rcases s.offer_cases ref driver x with ⟨admits, h⟩ | ⟨-, h⟩ <;> rw [h]
  · obtain ⟨room, free⟩ := Bool.and_eq_true_iff.1 admits
    exact .admitEntry (of_decide_eq_true room) (of_decide_eq_true free) ..
  · exact .lose _

theorem LogStore.Grows.resume (l : LogStore) : l.Grows l.resume := by
  unfold LogStore.resume
  split
  · rename_i h
    exact .withEngine (iff_of_true (.inl rfl) (.inr h.1)) fun _ => rfl
  · exact .refl l

theorem LogStore.Grows.endErase {l : LogStore} (h : l.engine.working) : l.Grows l.endErase :=
  .withEngine (iff_of_true (.inr rfl) h) fun _ => rfl

/-- The numbers after one, the first apart (R149). -/
theorem numbersAfter_cons (x n : Nat) :
    numbersAfter x (n + 1) = (x + 1) % Config.wrap32 :: numbersAfter ((x + 1) % Config.wrap32) n := by
  rw [Nat.add_comm n 1, numbersAfter_add, numbersAfter_congr (y := (x + 1) % Config.wrap32) n (Nat.mod_mod ..).symm]
  simp [numbersAfter]

/-- The front entry of the queue takes the number after the last written one, and the rest follow it (R149). -/
theorem LogStore.numbered.front {l : LogStore} (h : l.numbered) {e : Entry} {rest : List Entry}
    (hq : l.queue = e :: rest) : e.seq = (l.lastWritten + 1) % Config.wrap32
      ∧ rest.map Entry.seq = numbersAfter e.seq rest.length := by
  have seqs := h.1
  rw [hq, List.length_cons, numbersAfter_cons, List.map_cons] at seqs
  obtain ⟨head, tail⟩ := List.cons.inj seqs
  exact ⟨head, head ▸ tail⟩

/-- The completion of a write (R146, R149, R154). -/
theorem LogStore.Kept.written {l : LogStore} (hp : l.lawfulPages) (he : l.engaged) {e : Entry} {rest : List Entry}
    (hq : l.queue = e :: rest) : l.Kept (l.written e rest) := by
  have frame := l.written_frame e rest
  have pages := hp.written e rest
  have untaken := LogStore.TakesNone.written l e rest
  have order := fun hn : l.numbered => fun ho => written_ordered hp ho (hn.front hq).1 hq
  have mark : (l.written e rest).exportMark = l.exportMark := by rw [frame]; rfl
  refine ⟨mark, fun h => ?_, pages, fun p hr => ?_, fun h => ?_, fun hn ho => (order hn ho).1, fun hn ho hk => ?_⟩
  · obtain ⟨queue, lost⟩ := h
    rw [hq] at queue
    rw [frame]
    exact ⟨(Nat.le_succ _).trans queue, lost⟩
  · rw [frame]
    exact he p (untaken p hr ▸ hr)
  · obtain ⟨head, tail⟩ := h.front hq
    have next := h.2
    rw [hq, List.length_cons] at next
    rw [frame]
    refine ⟨tail, next.trans ?_⟩
    change _ = (e.seq + 1 + rest.length) % Config.wrap32
    rw [head]
    simp only [Config.wrap32]
    omega
  · exact written_marked hp ho pages hk (order hn ho).2 (hn.front hq).1 mark untaken

section
variable {s : State} (hp : s.log.lawfulPages) (he : s.log.engaged)
include hp he

/-- A write completion, and what it hands on (R154, R162). -/
theorem State.writeDone_kept : s.writeDone.phase = s.phase ∧ s.log.Kept s.writeDone.log := by
  unfold State.writeDone
  split
  · exact ⟨rfl, .refl hp he⟩
  · rename_i e rest hq
    obtain ⟨log, phase, -⟩ := State.complete_frame { s with log := s.log.written e rest } e
    refine ⟨phase, ?_⟩
    dsimp only [State.beginWrite]
    rw [log]
    exact (LogStore.Kept.written hp he hq).grow (.trans (.resume _) (.beginWrite ..))

/-- Pages taken at the end of the collection window (R160, R161). -/
theorem State.windowExpired_kept (hw : ¬ s.log.engine.working) :
    s.windowExpired.phase = s.phase ∧ s.log.Kept s.windowExpired.log := by
  have rested : s.log.Kept s.log.rested :=
    (LogStore.Kept.refl hp he).grow (.withEngine (iff_of_false not_working_idle hw) fun h => absurd h hw)
  exact ⟨(State.takePages_cases ..).1, rested.take (s := { s with log := { s.log with
    engine := ⟨.erasing, s.log.takingOrder, none, none⟩ } }) _⟩

/-- An erase suspended (R162). -/
theorem State.suspendErase_kept (hw : s.log.engine.working) : s.log.Kept s.suspendErase.log :=
  (LogStore.Kept.refl hp he).grow (.trans (.endErase hw) (.beginWrite ..))

/-- An erase completed (R163). -/
theorem State.eraseDone_kept (hw : s.log.engine.working) :
    s.eraseDone.phase = s.phase ∧ s.log.Kept s.eraseDone.log := by
  unfold State.eraseDone
  split
  · exact ⟨rfl, .refl hp he⟩
  · rename_i p rest hs
    have freed : s.log.Kept (s.log.freePage p).rested := by
      refine .clear hp he hw hs (st := if s.log.fillsAtOnce p then .filling else .free) ?_ rfl
      split
      · exact .inr (.inl ⟨rfl, ‹_›⟩)
      · exact .inl ⟨rfl, ‹_›⟩
    refine ⟨(State.takePages_cases ..).1, .grow (.take ?_ rest) (.beginWrite ..)⟩
    exact freed

/-- An erase that was not verified (R164). -/
theorem State.eraseFailed_kept (hw : s.log.engine.working) :
    s.eraseFailed.phase = s.phase ∧ s.log.Kept s.eraseFailed.log := by
  unfold State.eraseFailed
  split
  · exact ⟨rfl, .refl hp he⟩
  · rename_i p rest hs
    dsimp only
    generalize hm : ({ s with log := { (s.log.setPage p ⟨.bad, []⟩).endErase with
      status := (s.log.setPage p ⟨.bad, []⟩).endErase.status.degrade } } : State) = marked
    have bad : s.log.Kept marked.log.rested := by
      subst hm
      exact .clear hp he hw hs (st := .bad) (.inr (.inr rfl)) rfl
    have phase : marked.phase = s.phase := by subst hm; rfl
    refine ⟨(State.takePages_cases ..).1.trans ?_, .grow (.take ?_ rest) (.beginWrite ..)⟩
    · rw [State.offer_frame]
      exact phase
    · exact bad.grow (LogStore.Grows.offer marked ..).rested

end

end Sys2Proof.Machine

namespace Sys2Proof.Machine

/-! ### The store at a start (R165, R187 to R193) -/

/-- The store within its bounds, its pages lawful, the exportMark at `k`: what a start keeps (R145, R150, R151). -/
structure LogStore.Sound (k : Nat) (l : LogStore) : Prop where
  bounded : l.bounded
  pages : l.lawfulPages
  mark : l.exportMark = k

namespace LogStore.Sound

variable {k : Nat} {l m : LogStore}

/-- Pages and mark stay, and the bounds are kept. -/
theorem same (h : l.Sound k) (hp : m.pages = l.pages) (hm : m.exportMark = l.exportMark)
    (hb : l.bounded → m.bounded) : m.Sound k := by
  refine ⟨hb h.bounded, ?_, hm.trans h.mark⟩
  have page : ∀ p, m.page p = l.page p := fun p => by unfold LogStore.page; rw [hp]
  simpa only [LogStore.lawfulPages, page] using h.pages

/-- The pages alone are written. -/
theorem withPages (h : l.Sound k) (hm : m.lawfulPages) (hf : m = { l with pages := m.pages }) : m.Sound k :=
  ⟨by rw [hf]; exact h.bounded, hm, by rw [hf]; exact h.mark⟩

theorem grow (h : l.Sound k) (g : l.Grows m) : m.Sound k := h.same g.pages g.mark g.bounded

end LogStore.Sound

/-- A part that is starting, or has no power, at a sound store; at step 3 no page is RECLAIMING (R188, R190). -/
structure State.Starting (k : Nat) (s : State) : Prop where
  sound : s.log.Sound k
  phase : s.phase ≠ .running
  step3 : s.phase = .step3 → s.log.unreclaimed

theorem LogStore.unreclaimed_of_isEmpty {l : LogStore} (h : l.reclaiming.isEmpty = true) : l.unreclaimed :=
  fun _ hp => absurd (h.symm.trans (LogStore.reclaiming_isEmpty_false hp)) nofun

theorem LogStore.TakesNone.unreclaimed {l m : LogStore} (h : l.TakesNone m) (hl : l.unreclaimed) : m.unreclaimed :=
  fun p hp => hl p (h p hp ▸ hp)

section
variable {k : Nat} {s : State}

/-- Step 2 lasts while a page is RECLAIMING, and then finds the page to fill (R190). -/
theorem State.Starting.enterStep2 (h : s.log.Sound k) : s.enterStep2.Starting k := by
  unfold State.enterStep2
  split
  · rename_i none
    exact ⟨h.withPages h.pages.findFilling s.log.findFilling_frame, nofun,
      fun _ => (LogStore.TakesNone.findFilling s.log).unreclaimed (LogStore.unreclaimed_of_isEmpty none)⟩
  · exact ⟨h, nofun, nofun⟩

theorem State.Starting.enterStep1 (h : s.log.Sound k) : s.enterStep1.Starting k := by
  unfold State.enterStep1
  split
  · exact ⟨h, nofun, nofun⟩
  · exact .enterStep2 h

/-- A start of either kind keeps the pages; a cold one empties the queue (R25, R165, R189). -/
theorem State.Starting.begin (h : s.log.Sound k) (kind : StartKind) : (s.begin kind).Starting k := by
  cases kind with
  | warm => exact .enterStep1 (s := s.warmState) (h.same rfl rfl id)
  | cold => exact .enterStep1 (s := s.coldState) (h.same rfl rfl fun _ => ⟨Nat.zero_le _, Nat.zero_le _⟩)

/-- An erase of step 2 leaves its page FREE or BAD, and empty (R190). -/
theorem State.Starting.startErase (h : s.Starting k) (verified : Bool) : (s.startErase verified).Starting k := by
  unfold State.startErase
  split
  · exact h
  · rename_i p _ _
    refine .enterStep2 ?_
    split
    · exact h.sound.withPages (h.sound.pages.setPage (p := p) (x := Page.free) rfl nofun) rfl
    · exact h.sound.withPages (h.sound.pages.setPage (p := p) (x := ⟨.bad, []⟩) rfl nofun) rfl

theorem State.Starting.regainPower (h : s.Starting k) (failed : Bool) : (s.regainPower failed).Starting k := by
  unfold State.regainPower
  split
  · exact h
  · split <;> exact .begin h.sound _

/-- The page of an erase that has ended is empty, FREE or the one to fill (R163). -/
theorem LogStore.lawfulPages.freePage {l : LogStore} (h : l.lawfulPages) (p : PageNo) : (l.freePage p).lawfulPages := by
  unfold LogStore.freePage
  split
  · rename_i fills
    exact h.setPage (x := ⟨.filling, []⟩) (by decide : 0 < 32) fun _ q _ =>
      Machine.filling_none.1 (by simpa using (Bool.and_eq_true_iff.1 fills).1) q
  · exact h.setPage (x := ⟨.free, []⟩) rfl nofun

/-- An erase cut short leaves its page, and perhaps the mark of the next one (R161, R187). -/
theorem State.cutErase_sound (h : s.log.Sound k) (marked : Bool) {f : LogStore → PageNo → LogStore}
    (hf : ∀ p, (f s.log p).lawfulPages) (hs : ∀ p, f s.log p = { s.log with pages := (f s.log p).pages }) :
    (s.cutErase marked f).Sound k := by
  unfold State.cutErase
  split
  · rename_i p rest _ _
    split
    · have cases := (State.takePages_cases rest { s with log := f s.log p }).2
      generalize (State.takePages rest { s with log := f s.log p }).log = taken at cases
      refine h.withPages (m := { s.log with pages := taken.pages }) ?_ rfl
      rcases cases with rfl | ⟨q, more, hq, rfl⟩
      · exact hf p
      · exact LogStore.lawfulPages.beginErase (hf p) hq (q :: more)
    · exact h.withPages (hf p) (hs p)
  · exact h

/-- The store that a loss of power leaves (R187). -/
theorem State.cutAt_sound (h : s.log.Sound k) (cut : EventCut) : (s.cutAt cut).Sound k := by
  unfold State.cutAt
  cases cut with
  | betweenEvents => exact h
  | inPaperIssue =>
    dsimp only
    split
    · exact h.same rfl rfl id
    · exact h
  | inEraseFailure marked =>
    exact State.cutErase_sound h marked (fun p => h.pages.setPage (x := ⟨.bad, []⟩) rfl nofun) fun _ => rfl
  | inEraseCompletion marked =>
    exact State.cutErase_sound h marked (fun p => h.pages.freePage p) fun _ => rfl
  | inScan slot =>
    dsimp only
    split
    · exact ⟨h.bounded, h.pages.scan (slotTest slot), h.mark⟩
    · exact h

theorem State.Starting.losePower (h : s.log.Sound k) (hp : s.powered = true) (cut : EventCut) :
    (s.losePower cut).Starting k := by
  unfold State.losePower
  rw [if_pos hp]
  exact ⟨State.cutAt_sound h cut, nofun, nofun⟩

/-! ### The end of the scan (R191 to R193) -/

/-- Entries found written leave the front of the queue (R191). -/
theorem State.dropWritten_sound {es : List Entry} (h : s.log.Sound k) (hes : es.length ≤ s.log.queue.length) :
    (State.dropWritten es s).log.Sound k ∧ (State.dropWritten es s).log.pages = s.log.pages := by
  induction es generalizing s with
  | nil => exact ⟨h, rfl⟩
  | cons e es ih =>
    unfold State.dropWritten
    split
    · have shorter : es.length ≤ s.log.queue.length := (Nat.le_succ _).trans hes
      have log := (State.complete_frame { s with log := { s.log with queue := es } } e).1
      have left : LogStore.Sound k { s.log with queue := es } :=
        h.same rfl rfl fun hb => ⟨shorter.trans hb.1, hb.2⟩
      obtain ⟨sound, pages⟩ := ih (s := { s with log := { s.log with queue := es } }.complete e)
        (by rw [log]; exact left) (by rw [log])
      exact ⟨sound, pages.trans (by rw [log])⟩
    · exact ⟨h, rfl⟩

/-- An entry dropped from the back of the queue is counted as lost (R152, R191). -/
theorem State.dropBack_sound (h : s.log.Sound k) : s.dropBack.log.Sound k ∧ s.dropBack.log.pages = s.log.pages := by
  unfold State.dropBack
  split
  · exact ⟨h, rfl⟩
  · split
    · have dropped : LogStore.Sound k { s.log with queue := s.log.queue.dropLast }.lose :=
        h.same rfl rfl fun hb => by
          refine ⟨?_, Nat.min_le_left 255 _⟩
          change s.log.queue.dropLast.length ≤ _
          rw [List.length_dropLast]
          exact (Nat.sub_le ..).trans hb.1
      rw [State.withdrawExpiry_frame]
      exact ⟨dropped, rfl⟩
    · exact ⟨h, rfl⟩

/-- The entries left are numbered and the status decided (R191, R192). -/
theorem State.numbered_decideStatus_sound (h : s.log.Sound k) :
    ({ s with log := s.log.number } : State).decideStatus.log.Sound k ∧
      ({ s with log := s.log.number } : State).decideStatus.log.pages = s.log.pages :=
  ⟨h.same rfl rfl id, rfl⟩

/-- Steps 3 and 4 of start-up leave the scanned pages (R191, R192). -/
theorem State.scanStep_decideStatus_sound {found : CutWrite} (h : (s.log.scan found).Sound k) :
    (s.scanStep found).decideStatus.log.Sound k ∧
      (s.scanStep found).decideStatus.log.pages = (s.log.scan found).pages := by
  obtain ⟨left, leftPages⟩ := State.dropWritten_sound (s := { s with log := s.log.scan found }) h le_rfl
  obtain ⟨kept, keptPages⟩ := State.dropBack_sound left
  obtain ⟨decided, pages⟩ := State.numbered_decideStatus_sound kept
  exact ⟨decided, pages.trans (keptPages.trans leftPages)⟩

/-- The START_UP entry is offered and the first write begins (R193). -/
theorem State.logStart_openPorts_grows (s : State) (voided dropped : Nat) :
    LogStore.Grows s.log (s.logStart voided dropped).openPorts.log := by
  unfold State.openPorts State.logStart
  rw [State.settleRound_frame]
  exact .trans (.offer { s with latch := s.latch.sample s.shutdownInput } ..) (.beginWrite ..)

/-- Steps 3 to 6 of start-up take no page and keep the bounds (R191 to R193). -/
theorem State.scanEnd_sound (h : s.log.Sound k) (hn : s.log.unreclaimed) (found : CutWrite) :
    (s.scanEnd found).log.Sound k ∧ (s.scanEnd found).log.unreclaimed := by
  have frame := s.log.scan_frame found
  have scanned : (s.log.scan found).Sound k :=
    ⟨by rw [frame]; exact h.bounded, h.pages.scan found, by rw [frame]; exact h.mark⟩
  obtain ⟨decided, pages⟩ := State.scanStep_decideStatus_sound scanned
  have grows : LogStore.Grows (s.scanStep found).decideStatus.log (s.scanEnd found).log :=
    State.logStart_openPorts_grows ..
  refine ⟨decided.grow grows, grows.unreclaimed fun p hp => ?_⟩
  have page : (s.scanStep found).decideStatus.log.page p = (s.log.scan found).page p := by
    rw [LogStore.page, LogStore.page, pages]
  exact (LogStore.TakesNone.scan s.log found).unreclaimed hn p (page ▸ hp)

end

end Sys2Proof.Machine

namespace Sys2Proof.Machine

/-! ### Entries admitted and offered at every event but the store's own (R151) -/

/-- A requester entry that is not refused finds room in the queue and a free slot (R151). -/
theorem LogStore.room_of_requester {l : LogStore} (h : l.requesterRefusal = none) :
    l.queue.length < Config.queueCapacity ∧ 1 ≤ l.freeSpace := by
  unfold LogStore.requesterRefusal at h
  split at h
  · cases h
  · rename_i queue
    split at h
    · cases h
    · rename_i free
      exact ⟨(Nat.lt_of_not_le queue).trans (by decide), (Nat.le_add_left ..).trans (Nat.le_of_not_lt free)⟩

theorem State.requester_of_deferrable {s : State} {p : Port} {tag : Nat} (h : s.deferrableRefusal p tag = none) :
    s.log.requesterRefusal = none := by
  unfold State.deferrableRefusal at h
  split at h
  · cases h
  · exact h

/-- The store of `s` has grown from `l`, and the phase is still `r`. -/
structure Grown (l : LogStore) (r : Phase) (s : State) : Prop where
  phase : s.phase = r
  log : l.Grows s.log

namespace Grown

variable {l : LogStore} {r : Phase} {s t : State}

/-- The log and the phase are all that it reads. -/
theorem frame (m : Grown l r s) (hl : t.log = s.log) (hp : t.phase = s.phase) : Grown l r t :=
  ⟨hp.trans m.phase, hl ▸ m.log⟩

theorem grow (m : Grown l r s) (hl : s.log.Grows t.log) (hp : t.phase = s.phase) : Grown l r t :=
  ⟨hp.trans m.phase, m.log.trans hl⟩

theorem ite {p : Prop} [Decidable p] (m : Grown l r s) (h : p → Grown l r t) : Grown l r (if p then t else s) := by
  split
  · exact h ‹_›
  · exact m

theorem foldl {α : Type} {f : State → α → State} (hf : ∀ s y, Grown l r s → Grown l r (f s y)) {ys : List α}
    (m : Grown l r s) : Grown l r (ys.foldl f s) := by
  induction ys generalizing s with
  | nil => exact m
  | cons y ys ih => exact ih (hf s y m)

/-! #### Slots, bays and the log -/

theorem setSlot {i : SlotNo} {x : Option Delivery} (m : Grown l r s) : Grown l r (s.setSlot i x) := m.frame rfl rfl

theorem setBay {b : BayNo} {q : BayRecord} (m : Grown l r s) : Grown l r (s.setBay b q) := m.frame rfl rfl

theorem setArm {b : BayNo} {a : Arm} {y : ArmRecord} (m : Grown l r s) : Grown l r (s.setArm b a y) := m.setBay

theorem updComp {i : SlotNo} {k : Nat} {f : Compartment → Compartment} (m : Grown l r s) :
    Grown l r (s.updComp i k f) := by
  rw [State.updComp_frame]
  exact m.frame rfl rfl

theorem updOrphan {b : BayNo} {a : Arm} {f : Orphan → Orphan} (m : Grown l r s) : Grown l r (s.updOrphan b a f) := by
  rw [State.updOrphan_frame]
  exact m.frame rfl rfl

theorem freeArm {y : Option ArmRef} (m : Grown l r s) : Grown l r (s.freeArm y) := by
  rw [State.freeArm_frame]
  exact m.frame rfl rfl

theorem setPort {p : Port} {y : PortState} (m : Grown l r s) : Grown l r (s.setPort p y) := by
  rw [State.setPort_frame]
  exact m.frame rfl rfl

theorem setProduct {k : Nat} {e : Product} (m : Grown l r s) : Grown l r (s.setProduct k e) := by
  rw [State.setProduct_frame]
  exact m.frame rfl rfl

theorem enqueue {b : BayNo} {rule : List Message → List Message} (m : Grown l r s) :
    Grown l r (s.enqueue b rule) := by
  rw [State.enqueue_frame]
  exact m.frame rfl rfl

theorem stopIf {y : Bool} {b : BayNo} {a : Arm} (m : Grown l r s) : Grown l r (s.stopIf y b a) := by
  rw [State.stopIf_frame]
  exact m.frame rfl rfl

theorem settleRound (m : Grown l r s) : Grown l r s.settleRound := by
  rw [State.settleRound_frame]
  exact m.frame rfl rfl

theorem endVisit (m : Grown l r s) : Grown l r s.endVisit := settleRound (m.frame rfl rfl)

theorem offer {ref driver : Nat} {y : Payload} (m : Grown l r s) : Grown l r (s.offer ref driver y) :=
  m.grow (.offer ..) (by rw [State.offer_frame])

/-- An entry that the queue and the pages have room for. -/
theorem admitEntry {ref driver : Nat} {y : Payload} (m : Grown l r s)
    (h : s.log.queue.length < Config.queueCapacity ∧ 1 ≤ s.log.freeSpace) : Grown l r (s.admitEntry ref driver y) :=
  m.grow (.admitEntry h.1 h.2 ..) rfl

/-- A requester entry (R151). -/
theorem request {ref driver : Nat} {y : Payload} (m : Grown l r s) (h : s.log.requesterRefusal = none) :
    Grown l r (s.admitEntry ref driver y) := m.admitEntry (LogStore.room_of_requester h)

/-! #### Papers, sessions and reports -/

theorem issuePaper {i : SlotNo} {d : Delivery} {k v : Nat} (m : Grown l r s) : Grown l r (s.issuePaper i d k v) :=
  offer (m.frame rfl rfl)

theorem rebuild {i : SlotNo} (m : Grown l r s) : Grown l r (s.rebuild i) := by
  unfold State.rebuild
  iterate 2 (split; · exact m)
  exact m.issuePaper

theorem firstIssue {i : SlotNo} {d : Delivery} (m : Grown l r s) : Grown l r (s.firstIssue i d) := by
  unfold State.firstIssue
  split
  · exact m
  · exact issuePaper (m.grow ⟨rfl, rfl, rfl, Iff.rfl, fun _ => rfl, id, id, id⟩ rfl)

theorem endSession {i : SlotNo} (m : Grown l r s) : Grown l r (s.endSession i) := by
  unfold State.endSession
  split
  · exact m
  · rename_i d _
    have ended : Grown l r ((s.setSlot i (some d.afterSession)).unbindBay d.bay) := by
      cases d.bay with
      | none => exact m.setSlot
      | some b => exact m.setSlot.setBay
    exact ended.ite fun _ => ended.firstIssue

theorem reachDone {i : SlotNo} {k : Nat} (m : Grown l r s) : Grown l r (s.reachDone i k) := by
  unfold State.reachDone
  iterate 2 (split; · exact m)
  rename_i c _
  have freed : Grown l r ((s.updComp i k fun _ => c.ended).freeArm c.arm) := m.updComp.freeArm
  dsimp only
  split <;> split
  · exact freed.rebuild
  · exact freed.offer.rebuild
  · exact freed
  · exact freed.offer

theorem clearOrphan {b : BayNo} {a : Arm} (m : Grown l r s) : Grown l r (s.clearOrphan b a) := by
  unfold State.clearOrphan
  split
  · exact m.offer.setArm
  · exact m

theorem moveComp {b : BayNo} {a : Arm} {i : SlotNo} {k : Nat} {y : Move} (m : Grown l r s) :
    Grown l r (s.moveComp b a i k y) := by
  cases y with
  | keep => exact m
  | flow | await | settle => exact m.updComp
  | reopen => exact m.updComp.enqueue
  | finish => exact m.reachDone

theorem moveOrphan {b : BayNo} {a : Arm} {y : Move} (m : Grown l r s) : Grown l r (s.moveOrphan b a y) := by
  cases y with
  | keep | flow => exact m
  | await | settle => exact m.updOrphan
  | reopen => exact m.updOrphan.enqueue
  | finish => exact m.clearOrphan

theorem report {b : BayNo} {y : Report} (m : Grown l r s) : Grown l r (s.report b y) := by
  unfold State.report
  split
  · exact m.ite fun _ => m.offer.enqueue
  · unfold State.reportComp
    split
    · exact m
    · exact m.ite fun _ => m.updComp.stopIf.moveComp
  · exact m.updOrphan.stopIf.moveOrphan

/-! #### Interruption, the latch, and loading deadlines -/

theorem interruptArm {b : BayNo} {a : Arm} (m : Grown l r s) : Grown l r (s.interruptArm b a) := by
  rw [State.interruptArm_frame]
  exact m.frame rfl rfl

theorem latchEvent (m : Grown l r s) : Grown l r s.latchEvent := by
  rw [State.latchEvent_frame]
  exact m.frame rfl rfl

theorem addCause {c : Cause} (m : Grown l r s) : Grown l r (s.addCause c) := by
  have latched : Grown l r { s with latch := s.latch.add c } := m.frame rfl rfl
  exact ite (latched.latchEvent.offer.ite fun _ => latched.offer) fun _ => m

theorem permitExpired {i : SlotNo} {k : Nat} (m : Grown l r s) : Grown l r (s.permitExpired i k) := by
  unfold State.permitExpired
  split
  · exact m
  · dsimp only
    split
    · exact m.updComp.freeArm
    · exact m.updComp.freeArm.enqueue

theorem flowingExpired {i : SlotNo} {k : Nat} (m : Grown l r s) : Grown l r (s.flowingExpired i k) := by
  unfold State.flowingExpired
  split
  · exact m
  · dsimp only
    split
    · exact m.updComp
    · exact m.updComp.enqueue

theorem settleExpired {y : DeadlineOf} (m : Grown l r s) : Grown l r (s.settleExpired y) := by
  cases y with
  | compartment i k => exact m.reachDone
  | orphan b a => exact m.clearOrphan

theorem stopExpired {y : DeadlineOf} (m : Grown l r s) : Grown l r (s.stopExpired y) := by
  cases y with
  | compartment i k => exact m.updComp.reachDone.addCause
  | orphan b a => exact m.updOrphan.clearOrphan.addCause

theorem expire {y : Option Deadline} {k : DeadlineKind} {f : State → State} (m : Grown l r s)
    (hf : ∀ t, Grown l r t → Grown l r (f t)) : Grown l r (s.expire y k f) := by
  unfold State.expire
  split
  · exact m
  · exact m.ite fun _ => hf _ (m.frame rfl rfl)

theorem assertInput (m : Grown l r s) : Grown l r s.assertInput := by
  have asserted : Grown l r { s with shutdownInput := true } := m.frame rfl rfl
  exact asserted.ite fun _ => asserted.addCause

/-! #### Bay requests and exchanges -/

theorem takeClaim {b : BayNo} {ref : Nat} (m : Grown l r s) : Grown l r (s.takeClaim b ref) := by
  unfold State.takeClaim
  iterate 5 (split; · exact m.enqueue)
  exact m.setSlot.setBay.offer.enqueue

theorem takeStart {b : BayNo} {a : Arm} {k p : Nat} (m : Grown l r s) : Grown l r (s.takeStart b a k p) := by
  unfold State.takeStart
  iterate 4 (split; · exact m.enqueue)
  split
  · exact enqueue (m.ite fun _ => m.offer)
  · exact m.updComp.setArm.enqueue.enqueue

theorem takeFinish {b : BayNo} (m : Grown l r s) : Grown l r (s.takeFinish b) := by
  unfold State.takeFinish
  iterate 4 (split; · exact m.enqueue)
  exact m.endSession.enqueue

theorem faultArm {b : BayNo} {a : Arm} (m : Grown l r s) : Grown l r (s.faultArm b a) := by
  unfold State.faultArm
  split
  · exact m
  · split
    · exact m
    · dsimp only
      split
      · exact m.updComp.updComp.enqueue
      · exact m.updComp.updComp.enqueue
      · exact m.updComp.enqueue
      · exact m.updComp
      all_goals exact m
  · dsimp only
    split
    · exact m.updOrphan.enqueue
    · exact m.updOrphan

theorem takeFault {b : BayNo} {code : Nat} (m : Grown l r s) : Grown l r (s.takeFault b code) := by
  have granted : Grown l r (s.grantFault b code) := m.faultArm.faultArm.offer.enqueue
  unfold State.takeFault
  iterate 2 (split; · exact granted)
  exact granted.ite fun _ => m.enqueue

theorem takeAnswer {b : BayNo} {a : Answer} (m : Grown l r s) : Grown l r (s.takeAnswer b a) := by
  cases a with
  | status ys => exact m.foldl fun _ _ m => m.report
  | claim ref => exact m.ite fun _ => m.takeClaim
  | start a k p => exact m.ite fun _ => m.takeStart
  | finish => exact m.ite fun _ => m.takeFinish
  | fault code => exact m.ite fun _ => m.takeFault

theorem miss {b : BayNo} {y : Bool} (m : Grown l r s) : Grown l r (s.miss b y) := by
  unfold State.miss
  dsimp only
  split
  · exact m.setBay
  · exact ite (m.setBay.setBay.interruptArm.interruptArm.offer) fun _ => m.setBay
  · exact m.setBay

theorem answered {b : BayNo} (m : Grown l r s) : Grown l r (s.answered b) := by
  have stops : Grown l r (s.returnStops b) := m.setBay.offer.stopIf.stopIf
  exact m.setBay.ite fun _ => stops.ite fun _ => stops.enqueue

theorem endByAnswer {v : Visit} {e : Exchange} {words : List RxWord} (m : Grown l r s) :
    Grown l r (s.endByAnswer v e words) := by
  unfold State.endByAnswer
  split
  · exact m.endVisit
  · split
    · exact m.miss.endVisit
    · rename_i a _
      have taken : Grown l r (s.validAnswer v.bay e.sent a) := by
        refine takeAnswer ?_
        rw [State.removeSent_eq]
        exact m.answered.setBay
      exact ite (taken.frame rfl rfl) fun _ => taken.endVisit

theorem endByWindow {v : Visit} (m : Grown l r s) : Grown l r (s.endByWindow v) :=
  m.miss.endVisit.ite fun _ => m.endVisit

theorem beginExchange (m : Grown l r s) : Grown l r s.beginExchange := by
  unfold State.beginExchange
  split
  · exact m
  · exact m.frame rfl rfl

theorem sendAllStop (m : Grown l r s) : Grown l r s.sendAllStop := ite (m.frame rfl rfl) fun _ => m.frame rfl rfl

/-! #### The requests of the office and the gate -/

theorem acceptDeferred {p : Port} {tag code ref driver : Nat} {y : Payload} (m : Grown l r s)
    (h : s.deferrableRefusal p tag = none) : Grown l r (s.acceptDeferred p tag code ref driver y).1 :=
  setPort (m.request (State.requester_of_deferrable h))

theorem book {b : BookBody} (m : Grown l r s) : Grown l r (s.book b).1 := by
  unfold State.book
  iterate 3 (split; · exact m)
  split
  · exact m
  · exact m
  · split
    · exact m
    · exact setSlot (m.request ‹_›)

theorem amend {b : AmendBody} (m : Grown l r s) : Grown l r (s.amend b).1 := by
  unfold State.amend
  iterate 6 (split; · exact m)
  exact setSlot (m.request ‹_›)

theorem dismissBay {i : SlotNo} {b : Option BayNo} (m : Grown l r s) : Grown l r (s.dismissBay i b) := by
  cases b with
  | none => exact m
  | some b =>
    unfold State.dismissBay State.queueDismiss
    exact m.setBay.enqueue

theorem cancel {p : Port} {tag ref : Nat} (m : Grown l r s) : Grown l r (s.cancel p tag ref).1 := by
  unfold State.cancel
  iterate 4 (split; · exact m)
  exact dismissBay (setSlot (m.acceptDeferred ‹_›))

theorem detach {ref : Nat} (m : Grown l r s) : Grown l r (s.detach ref).1 := by
  unfold State.detach
  iterate 4 (split; · exact m)
  exact endSession (m.request ‹_›)

theorem override {p : Port} {tag ref set supervisor : Nat} (m : Grown l r s) :
    Grown l r (s.override p tag ref set supervisor).1 := by
  unfold State.override
  iterate 6 (split; · exact m)
  exact m.acceptDeferred ‹_›

theorem deliveryRead {ref : Nat} (m : Grown l r s) : Grown l r (s.deliveryRead ref).1 := by
  unfold State.deliveryRead
  split
  · exact m
  · exact m.setSlot

theorem driverRegister {k day : Nat} (m : Grown l r s) : Grown l r (s.driverRegister k day).1 := by
  unfold State.driverRegister
  split
  · exact m
  · split
    all_goals
      split
      · exact m
      · exact m.frame rfl rfl

theorem driverRemove {k : Nat} (m : Grown l r s) : Grown l r (s.driverRemove k).1 := by
  unfold State.driverRemove
  iterate 4 (split; · exact m)
  exact m.frame rfl rfl

theorem productDefine {b : ProductBody} (m : Grown l r s) : Grown l r (s.productDefine b).1 := by
  unfold State.productDefine
  iterate 3 (split; · exact m)
  exact m.setProduct

theorem productState {code target : Nat} (m : Grown l r s) : Grown l r (s.productState code target).1 := by
  unfold State.productState
  iterate 3 (split; · exact m)
  exact m.setProduct

theorem settingsWrite {b : SettingsBody} (m : Grown l r s) : Grown l r (s.settingsWrite b).1 := by
  unfold State.settingsWrite
  split
  · exact m
  · exact settleRound (m.frame rfl rfl)

/-- An EXPIRE entry is admitted only as an automatic entry may be (R14, R151). -/
theorem expireSlot {i : SlotNo} (m : Grown l r s) : Grown l r (s.expireSlot i) := by
  unfold State.expireSlot
  split
  · exact m
  · refine m.ite fun h => setSlot (m.admitEntry ?_)
    obtain ⟨room, free⟩ := Bool.and_eq_true_iff.1 h.2
    exact ⟨of_decide_eq_true room, of_decide_eq_true free⟩

theorem moveTime {k : Nat} (m : Grown l r s) : Grown l r (s.moveTime k) :=
  foldl (fun _ _ m => m.expireSlot) (m.frame rfl rfl)

theorem timeSet {k : Nat} (m : Grown l r s) : Grown l r (s.timeSet k).1 := by
  unfold State.timeSet
  iterate 3 (split; · exact m)
  exact (moveTime (m.request ‹_›)).ite fun _ => m.request ‹_›

theorem advanceTime (m : Grown l r s) : Grown l r s.advanceTime := by
  unfold State.advanceTime
  split
  · exact m
  · exact m.ite fun _ => ite (m.frame rfl rfl) fun _ => m.moveTime

theorem shutdownClear (m : Grown l r s) : Grown l r s.shutdownClear.1 := by
  unfold State.shutdownClear
  split
  · exact m
  · split
    · exact .offer (m.frame rfl rfl)
    · exact m

/-- A page collected: the engine works on none, before and after (R159). -/
theorem reclaim {p : Port} {tag k : Nat} (m : Grown l r s) : Grown l r (s.reclaim p tag k).1 := by
  unfold State.reclaim
  split
  · split
    · exact m
    · rename_i collects
      have none : ¬ s.log.engine.working := by
        rintro (h | h) <;> rw [h] at collects <;> exact collects rfl
      split
      · exact m
      · exact .setPort (m.grow (.withEngine (iff_of_false (by simp [Engine.working, Engine.collect]) none)
          fun h => absurd h none) rfl)
  · exact m

theorem bayRead {k : Nat} (m : Grown l r s) : Grown l r (s.bayRead k).1 := by
  unfold State.bayRead
  split
  · exact m.updOrphan.updOrphan
  · split <;> exact m

theorem restart {k : Nat} (m : Grown l r s) : Grown l r (s.restart k).1 := by
  unfold State.restart
  split
  · exact m
  · exact m
  · split <;> exact m

theorem offerDeclaration {ref now : Nat} {x : Driver} {y : Option Declaration} (m : Grown l r s) :
    Grown l r (s.offerDeclaration ref x now y) := by
  cases y with
  | none => exact m
  | some y => exact m.offer

theorem announce {b : ArriveBody} (m : Grown l r s) : Grown l r (s.announce b).1 := by
  unfold State.announce
  iterate 6 (split; · exact m)
  split
  · exact m
  · exact m
  · exact setSlot (frame (offerDeclaration (m.request ‹_›)) rfl rfl)

theorem makeOrphans {d : Delivery} {cs : List Compartment} (m : Grown l r s) :
    Grown l r (cs.foldl (State.makeOrphan d) s) := by
  refine m.foldl fun s c m => ?_
  unfold State.makeOrphan
  split
  · split
    · exact m
    · exact m.setArm
  · exact m

theorem release {p : Port} {tag ref driver : Nat} (m : Grown l r s) : Grown l r (s.release p tag ref driver).1 := by
  unfold State.release
  iterate 6 (split; · exact m)
  dsimp only
  split
  · exact m.setSlot.offer.ite fun _ => m.setSlot
  · unfold State.acceptRelease
    dsimp only
    split
    · exact m.setSlot
    · exact makeOrphans (setSlot (m.setSlot.acceptDeferred ‹_›))

end Grown

end Sys2Proof.Machine

namespace Sys2Proof.Machine

/-! ### A request served (R158, R168) -/

/-- The store once a LOG_ACK has named `n` (R158). -/
def LogStore.acked (l : LogStore) (n : Nat) : LogStore :=
  { l with exportMark := later l.exportMark (earlier n l.lastWritten) }

/-- The one request that a port has served from the store `l` in the phase `r` was a LOG_ACK, or the store has
grown. -/
structure Served (l : LogStore) (r : Phase) (s : State) : Prop where
  phase : s.phase = r
  log : l.Grows s.log ∨ ∃ n, s.log = l.acked n

namespace Served

variable {l : LogStore} {r : Phase} {s t : State}

theorem grown (m : Grown l r s) : Served l r s := ⟨m.phase, .inl m.log⟩

theorem frame (m : Served l r s) (hl : t.log = s.log) (hp : t.phase = s.phase) : Served l r t :=
  ⟨hp.trans m.phase, hl ▸ m.log⟩

theorem setPort {p : Port} {y : PortState} (m : Served l r s) : Served l r (s.setPort p y) := by
  rw [State.setPort_frame]
  exact m.frame rfl rfl

theorem ite {p : Prop} [Decidable p] (m : Served l r s) (h : p → Served l r t) :
    Served l r (if p then t else s) := by
  split
  · exact h ‹_›
  · exact m

/-- What an owner makes of the store that it finds. -/
theorem owner (s : State) (p : Port) (tag : Nat) (b : ReqBody) : Served s.log s.phase (s.owner p tag b).1 := by
  have m : Grown s.log s.phase s := ⟨rfl, .refl _⟩
  cases b with
  | logAck n => exact ⟨rfl, .inr ⟨n, rfl⟩⟩
  | book b => exact grown m.book
  | amend b => exact grown m.amend
  | cancel ref => exact grown m.cancel
  | detach ref => exact grown m.detach
  | override ref set supervisor => exact grown m.override
  | deliveryRead ref => exact grown m.deliveryRead
  | driverRegister k day => exact grown m.driverRegister
  | driverRemove k => exact grown m.driverRemove
  | productDefine b => exact grown m.productDefine
  | productState code target => exact grown m.productState
  | settingsWrite b => exact grown m.settingsWrite
  | timeSet k => exact grown m.timeSet
  | shutdownClear => exact grown m.shutdownClear
  | reclaim k => exact grown m.reclaim
  | bayRead k => exact grown m.bayRead
  | restart kind => exact grown m.restart
  | arrive b => exact grown m.announce
  | release ref driver => exact grown m.release
  | driverRead k =>
    simp only [State.owner, State.driverRead]
    split
    · exact grown m
    · split <;> exact grown m
  | productRead code =>
    simp only [State.owner, State.productRead]
    split
    · exact grown m
    · split <;> exact grown m
  | logRead k count =>
    simp only [State.owner, State.logRead]
    iterate 3 (split; · exact grown m)
    split <;> exact grown m
  | hoursQuery k =>
    simp only [State.owner, State.hoursQuery]
    iterate 2 (split; · exact grown m)
    split <;> exact grown m
  | paperRead ref =>
    simp only [State.owner, State.paperRead]
    iterate 3 (split; · exact grown m)
    split <;> exact grown m
  | settingsRead | status | unknown | badLength => exact grown m

section
variable (hl : s.log = l) (hp : s.phase = r)
include hl hp

theorem same : Served l r s := ⟨hp, .inl (hl ▸ .refl _)⟩

theorem serve {p : Port} {y : Request} : Served l r (s.serve p y) := by
  refine setPort ?_
  split
  · exact (same hl hp).setPort
  · obtain ⟨phase, log⟩ := owner (s.setService p (some (y.tag, y.code))) p y.tag y.body
    have left : (s.setService p (some (y.tag, y.code))).log = s.log := State.setPort_log ..
    have same : (s.setService p (some (y.tag, y.code))).phase = s.phase := State.setPort_phase ..
    exact ⟨phase.trans (same.trans hp), hl ▸ left ▸ log⟩

theorem serveNext {p : Port} : Served l r (s.serveNext p) := by
  unfold State.serveNext
  split
  · exact same hl hp
  · dsimp only
    split
    · exact serve ((State.setPort_log ..).trans hl) ((State.setPort_phase ..).trans hp)
    · exact (same hl hp).setPort.setPort.setPort

theorem arrive {p : Port} {y : Request} : Served l r (s.arrive p y) :=
  have m := same hl hp
  ((m.setPort.ite fun _ => m.setPort).ite fun _ => m.setPort).ite fun _ => serve hl hp

theorem frameComplete {p : Port} {ys : List Byte} : Served l r (s.frameComplete p ys) := by
  unfold State.frameComplete
  split
  · exact (same hl hp).setPort.setPort
  · exact arrive ((State.setPort_log ..).trans hl) ((State.setPort_phase ..).trans hp)

theorem receiveByte {p : Port} {y : Byte} {stop : Bool} : Served l r (s.receiveByte p y stop) := by
  have m := same hl hp
  have discard : Served l r (s.discard p) := m.setPort.setPort
  unfold State.receiveByte
  split
  · exact (discard.ite fun _ => m.setPort).ite fun _ => m
  · refine discard.ite fun _ => ?_
    exact ((frameComplete hl hp).ite fun _ => m.setPort).ite fun _ => discard

theorem gapExpired {p : Port} : Served l r (s.gapExpired p) := by
  unfold State.gapExpired
  split
  · exact same hl hp
  · exact setPort (setPort ((same hl hp).frame rfl rfl))

end

end Served

/-! ### What a step keeps of the store -/

/-- What a step from `s` to `t` keeps of the log store, as far as `s` has it (R145 to R147, R149, R151, R152, R158). -/
structure StoreKept (s t : State) : Prop where
  queue : QueueLaw t
  pages : PageLaw t
  mark : atOrBefore s.log.exportMark t.log.exportMark = true
  order : s.phase = .running → t.phase = .running → NumberLaw s →
    NumberLaw t ∧ (OrderLaw s → OrderLaw t ∧ (MarkLaw s → MarkLaw t))

/-- An event of the running part. -/
theorem StoreKept.of_kept {s t : State} (hq : QueueLaw s) (hr : s.phase = .running)
    (k : t.phase = s.phase ∧ s.log.Kept t.log) : StoreKept s t := by
  obtain ⟨phase, k⟩ := k
  refine ⟨k.bounded hq, (pageLaw_iff t).2 ⟨k.pages, fun _ => k.engaged, fun h => ?_⟩, ?_, fun _ _ hn =>
    ⟨k.numbered hn, fun ho => ⟨k.ordered hn ho, k.marked hn ho⟩⟩⟩
  · rw [phase, hr] at h
    cases h
  · rw [k.mark]
    exact atOrBefore_refl _

section
variable {s t : State} (hq : QueueLaw s) (hp : PageLaw s)
include hq hp

/-- An event in any phase that leaves the pages, but for a LOG_ACK. -/
theorem StoreKept.of_served (m : Served s.log s.phase t) : StoreKept s t := by
  obtain ⟨pages, running, step3⟩ := (pageLaw_iff s).1 hp
  obtain ⟨phase, g | ⟨n, acked⟩⟩ := m
  · refine ⟨g.bounded hq, (pageLaw_iff t).2 ⟨g.lawfulPages pages, fun h => g.engaged (running (phase ▸ h)),
      fun h => g.unreclaimed (step3 (phase ▸ h))⟩, ?_, fun _ _ hn =>
        ⟨g.numbered hn, fun ho => ⟨g.ordered ho, g.marked⟩⟩⟩
    rw [g.mark]
    exact atOrBefore_refl _
  · have order : OrderLaw s → t.log.Ordered := fun ho => LogStore.Ordered.congr ho
      (by rw [acked]; rfl) (by rw [acked]; rfl)
      (by rw [acked]; exact id) (fun _ => by rw [acked]; rfl) (by rw [acked]; exact ho.room)
    have lawful : t.log.lawfulPages := by rw [acked]; exact pages
    refine ⟨by rw [QueueLaw, acked]; exact hq, (pageLaw_iff t).2 ⟨lawful, fun h => ?_, fun h => ?_⟩, ?_,
      fun _ _ hn => ⟨by rw [NumberLaw, acked]; exact hn, fun ho => ⟨order ho, fun hk =>
        ack_marked pages ho lawful (order ho) hk acked⟩⟩⟩
    · rw [acked]
      exact running (phase ▸ h)
    · rw [acked]
      exact step3 (phase ▸ h)
    · rw [acked]
      change atOrBefore _ (later _ _) = true
      unfold later
      split
      · assumption
      · exact atOrBefore_refl _

theorem StoreKept.of_grown (m : Grown s.log s.phase t) : StoreKept s t := .of_served hq hp (.grown m)

theorem StoreKept.same : StoreKept s s := .of_grown hq hp ⟨rfl, .refl _⟩

theorem StoreKept.ite {p : Prop} [Decidable p] (h : p → StoreKept s t) : StoreKept s (if p then t else s) := by
  split
  · exact h ‹_›
  · exact .same hq hp

theorem State.sound_log : s.log.Sound s.log.exportMark := ⟨hq, ((pageLaw_iff s).1 hp).1, rfl⟩

theorem State.starting_of (h : s.phase ≠ .running) : s.Starting s.log.exportMark :=
  ⟨State.sound_log hq hp, h, ((pageLaw_iff s).1 hp).2.2⟩

end

/-- A start, or a loss of power (R187 to R190). -/
theorem StoreKept.of_starting {s t : State} (h : t.Starting s.log.exportMark) : StoreKept s t := by
  obtain ⟨⟨bounded, pages, mark⟩, phase, step3⟩ := h
  refine ⟨bounded, (pageLaw_iff t).2 ⟨pages, fun h => absurd h phase, step3⟩, ?_, fun _ h => absurd h phase⟩
  rw [mark]
  exact atOrBefore_refl _

section
variable {s : State} (hq : QueueLaw s) (hp : PageLaw s)
include hq hp

/-- The ports open on a store that is sound (R191 to R193). -/
theorem StoreKept.scanEnd (h : s.phase = .step3) (found : CutWrite) : StoreKept s (s.scanEnd found) := by
  obtain ⟨sound, none⟩ := State.scanEnd_sound (State.sound_log hq hp) (((pageLaw_iff s).1 hp).2.2 h) found
  have running := s.scanEnd_phase found
  refine ⟨sound.bounded, (pageLaw_iff _).2 ⟨sound.pages, fun _ p hp => absurd hp (none p), fun _ => none⟩, ?_,
    fun hr => absurd (h.symm.trans hr) nofun⟩
  rw [sound.mark]
  exact atOrBefore_refl _

/-- A frame sent brings the next request into service, or begins a start (R168, R175). -/
theorem StoreKept.frameSent (p : Port) : StoreKept s (s.frameSent p) := by
  have m : Served s.log s.phase s := .same rfl rfl
  unfold State.frameSent
  split
  · exact .same hq hp
  · dsimp only
    split
    · refine .of_starting (.begin ?_ _)
      rw [State.setPort_log]
      exact State.sound_log hq hp
    · refine .of_served hq hp (m.setPort.ite fun _ => .serveNext ?_ ?_)
      · exact (State.setPort_log ..).trans (State.setPort_log ..)
      · exact (State.setPort_phase ..).trans (State.setPort_phase ..)

theorem StoreKept.assertReset : StoreKept s s.assertReset := by
  have asserted : Grown s.log s.phase { s with resetInput := true } := ⟨rfl, .refl _⟩
  unfold State.assertReset
  split
  · exact .same hq hp
  · split
    · exact .of_starting (.begin (s := { s with resetInput := true }) (State.sound_log hq hp) .warm)
    · exact .of_grown hq hp asserted

theorem StoreKept.deassertReset : StoreKept s s.deassertReset := by
  unfold State.deassertReset
  dsimp only
  split
  · exact .of_starting (.enterStep2 (State.sound_log (s := s) hq hp))
  · exact .of_grown hq hp ⟨rfl, .refl _⟩

theorem StoreKept.losePower (cut : EventCut) : StoreKept s (s.losePower cut) := by
  by_cases h : s.powered = true
  · exact .of_starting (.losePower (State.sound_log hq hp) h cut)
  · rw [State.losePower, if_neg h]
    exact .same hq hp

theorem StoreKept.regainPower (failed : Bool) : StoreKept s (s.regainPower failed) := by
  by_cases h : s.powered = true
  · rw [State.regainPower, if_pos h]
    exact .same hq hp
  · refine .of_starting (.regainPower (State.starting_of hq hp fun hr => h ?_) failed)
    simp [State.powered, hr]

/-- Every command keeps the laws of the store. -/
theorem StoreKept.exec (c : Instr) : ∃ t, Machine.exec c s = .next t ∧ StoreKept s t := by
  have m : Grown s.log s.phase s := ⟨rfl, .refl _⟩
  obtain ⟨pages, engaged, -⟩ := (pageLaw_iff s).1 hp
  have grown : ∀ {t}, Grown s.log s.phase t → StoreKept s t := .of_grown hq hp
  have served : ∀ {t}, Served s.log s.phase t → StoreKept s t := .of_served hq hp
  have erasing : s.erasing = true → s.phase = .running ∧ s.log.engine.working := fun h => by
    obtain ⟨running, erasing⟩ := Bool.and_eq_true_iff.1 h
    exact ⟨by simpa using running, .inl (by simpa using erasing)⟩
  cases c with
  | frameReceived p xs => exact ⟨_, rfl, .ite hq hp fun _ => served (.frameComplete rfl rfl)⟩
  | portByteGapExpiry p => exact ⟨_, rfl, .ite hq hp fun _ => served (.gapExpired rfl rfl)⟩
  | frameSent p => exact ⟨_, rfl, .ite hq hp fun _ => .frameSent hq hp p⟩
  | portByteReceived p x stop => exact ⟨_, rfl, .ite hq hp fun _ => served (.receiveByte rfl rfl)⟩
  | exchangeStart => exact ⟨_, rfl, grown (m.ite fun _ => m.beginExchange)⟩
  | allStopBroadcast => exact ⟨_, rfl, grown (m.ite fun _ => m.sendAllStop)⟩
  | answerReceived words =>
    change ∃ t, execAnswerReceived words s = .next t ∧ StoreKept s t
    unfold execAnswerReceived
    split
    · exact ⟨_, rfl, grown (m.ite fun _ => m.endByAnswer)⟩
    · exact ⟨_, rfl, grown m⟩
  | answerWindowExpiry =>
    change ∃ t, execAnswerWindowExpiry s = .next t ∧ StoreKept s t
    unfold execAnswerWindowExpiry
    split
    · exact ⟨_, rfl, grown (m.ite fun _ => .endByWindow (m.frame rfl rfl))⟩
    · exact ⟨_, rfl, grown m⟩
  | permitWindowExpiry i k => exact ⟨_, rfl, grown (m.expire fun _ m => m.permitExpired)⟩
  | flowingLimitExpiry i k => exact ⟨_, rfl, grown (m.expire fun _ m => m.flowingExpired)⟩
  | settleIntervalExpiry x => exact ⟨_, rfl, grown (m.expire fun _ m => m.settleExpired)⟩
  | stopDeadlineExpiry x => exact ⟨_, rfl, grown (m.expire fun _ m => m.stopExpired)⟩
  | shutdownInputAsserted => exact ⟨_, rfl, grown (m.assertInput.ite fun _ => m)⟩
  | shutdownInputDeasserted => exact ⟨_, rfl, grown (m.frame rfl rfl)⟩
  | terminalTimeAdvance => exact ⟨_, rfl, grown m.advanceTime⟩
  | writeComplete =>
    exact ⟨_, rfl, .ite hq hp fun h => .of_kept hq h.1 (State.writeDone_kept pages (engaged h.1))⟩
  | collectionWindowExpiry =>
    refine ⟨_, rfl, .ite hq hp fun h => .of_kept hq h.1 ?_⟩
    refine State.windowExpired_kept (s := s.reach _) pages (engaged h.1) ?_
    rintro (w | w) <;> exact absurd (h.2.symm.trans w) nofun
  | eraseSuspend =>
    refine ⟨_, rfl, .ite hq hp fun h => ?_⟩
    obtain ⟨running, working⟩ := erasing (Bool.and_eq_true_iff.1 h).1
    exact .of_kept hq running ⟨rfl, State.suspendErase_kept pages (engaged running) working⟩
  | eraseComplete =>
    refine ⟨_, rfl, .ite hq hp fun h => ?_⟩
    obtain ⟨running, working⟩ := erasing h
    exact .of_kept hq running (State.eraseDone_kept pages (engaged running) working)
  | eraseVerifyFailure =>
    refine ⟨_, rfl, .ite hq hp fun h => ?_⟩
    obtain ⟨running, working⟩ := erasing h
    exact .of_kept hq running (State.eraseFailed_kept pages (engaged running) working)
  | resetAsserted => exact ⟨_, rfl, .assertReset hq hp⟩
  | resetDeasserted => exact ⟨_, rfl, .deassertReset hq hp⟩
  | powerLoss cut => exact ⟨_, rfl, .losePower hq hp cut⟩
  | powerReturn x => exact ⟨_, rfl, .regainPower hq hp x⟩
  | startUpEraseEnd v =>
    refine ⟨_, rfl, .ite hq hp fun h => .of_starting (.startErase (State.starting_of hq hp ?_) v)⟩
    rw [h]
    exact nofun
  | startUpScanEnd slot => exact ⟨_, rfl, .ite hq hp fun h => .scanEnd hq hp h _⟩
  | _ => exact ⟨_, rfl, .ite hq hp fun _ => served (.arrive rfl rfl)⟩

end

/-- Settles O53: outside the store's own events the pages stay, and entries join the queue only where a slot is left
for them; a write, an erase and the taking of a page keep the order and the mark; and a start keeps bounds, pages and
mark. -/
theorem theStoreKeepsItsLaws : Obligations.TheStoreKeepsItsLaws := by
  intro s t hq hp ht
  have kept : StoreKept s t := by
    unfold Machine.step at ht
    split at ht
    · obtain rfl := Host.Outcome.next.inj ht
      exact .ite hq hp fun _ => .of_grown hq hp ⟨rfl, .refl _⟩
    · rename_i c rest _
      obtain ⟨u, hu, kept⟩ := StoreKept.exec (s := { s with pending := rest }) hq hp c
      obtain rfl := Host.Outcome.next.inj (hu.symm.trans ht)
      exact ⟨kept.queue, kept.pages, kept.mark, kept.order⟩
  exact ⟨kept.queue, kept.pages, kept.mark, kept.order⟩

end Sys2Proof.Machine

namespace Sys2Proof.Machine

/-! ### LOG_ACK and RECLAIM (R158, R159) -/

theorem EngineState.collects_eq_false {x : EngineState} : x.collects = false ↔ x = .erasing ∨ x = .suspended := by
  cases x <;> simp [EngineState.collects]

theorem EngineState.collects_iff {x : EngineState} : x.collects = true ↔ x = .idle ∨ x = .collecting := by
  cases x <;> simp [EngineState.collects]

theorem PortState.deferralRefusal_failing {x : PortState} {tag : Nat} {y : FrameBody}
    (h : firstFailing (x.deferralChecks tag) y) : x.deferralRefusal tag = some y := by
  have used : (∃ e ∈ x.deferred, e.tag = tag) ↔ (x.deferred.any fun e => e.tag == tag) = true := by simp
  unfold PortState.deferralRefusal
  by_cases ht : ∃ e ∈ x.deferred, e.tag = tag
  · rw [if_pos (used.1 ht), h.answer ht]
  · have full : 8 ≤ x.deferred.length := by_contra fun hl => (h.skip ht).skip hl
    rw [if_neg (mt used.2 ht), if_pos full, (h.skip ht).answer full]

theorem State.reclaim_refused {s : State} {p : Port} {tag n : Nat} {y : FrameBody}
    (h : firstFailing (s.log.reclaimChecks n ++ (s.port p).deferralChecks tag) y) : s.reclaim p tag n = (s, y) := by
  unfold State.reclaim
  by_cases hn : n < 64
  · rw [dif_pos hn]
    have h := h.skip (not_le.2 hn)
    refine firstFailing.ite h (by rw [Bool.not_eq_true', EngineState.collects_eq_false]) fun _ h => ?_
    rw [PortState.deferralRefusal_failing h]
  · rw [dif_neg hn, h.answer (not_lt.1 hn)]

/-- The page enters the set once and the window runs from now; the request waits for the page's outcome. -/
theorem State.reclaim_accepted {s : State} {p : Port} {tag : Nat} (page : PageNo)
    (hc : s.log.engine.state = .idle ∨ s.log.engine.state = .collecting)
    (hd : (s.port p).deferralRefusal tag = none) :
    s.reclaim p tag page.val = (({ s with log := { s.log with engine :=
        { state := .collecting
          set := if page ∈ s.log.engine.set then s.log.engine.set else s.log.engine.set ++ [page]
          window := some (s.elapsed + 500000)
          suspendBy := none } } }).defer p ⟨tag, 0x13, .page page⟩, .deferredPage page) := by
  have collects := EngineState.collects_iff.2 hc
  unfold State.reclaim
  rw [dif_pos page.isLt, collects, if_neg (by decide), hd]
  simp only [Engine.collect, List.contains_iff_mem]
  rfl

/-- Settles O21: each request reaches its owner, which moves the mark, or collects the page or refuses it. -/
theorem logRequestsMoveTheMarkAndCollectPages : Obligations.LogRequestsMoveTheMarkAndCollectPages := by
  refine ⟨fun s tag n mark hready hm => ?_, fun s tag page hready hl hc => ?_, fun s tag n y hfree h => ?_⟩
  · have acked : (s.serving .office tag 0x12).owner .office tag (.logAck n) =
        ({ s.serving .office tag 0x12 with log := { s.log with exportMark := mark } },
          .done (.acked mark s.log.lastWritten)) := by
      rw [hm]
      rfl
    exact congrArg Host.Outcome.next ((State.request_answered (body := .logAck n) hready rfl (by simp) acked).trans rfl)
  · have ⟨_, _, _, _, unused⟩ := hready
    have collected := State.reclaim_accepted (s := s.serving .office tag 0x13) (p := .office) page hc
      (PortState.deferralRefusal_eq unused hl)
    exact congrArg Host.Outcome.next ((State.request_answered (body := .reclaim page.val) hready rfl (by simp)
      collected).trans rfl)
  · exact congrArg Host.Outcome.next (State.request_refused (body := .reclaim n) hfree rfl (by simp) (.inl rfl)
      (State.reclaim_refused (s := s.serving .office tag 0x13) h))

end Sys2Proof.Machine

namespace Sys2Proof.Machine

/-! ### The admission of an entry (R149, R151, R152, R154, R162) -/

/-- An entry admitted to an idle store: its write begins, and it takes the lost count. -/
theorem State.admitEntry_idle {s : State} (hp : s.phase = .running) (hq : s.log.queue = [])
    (hw : s.log.writing = false) (he : s.log.engine.state ≠ .erasing) (ref driver : Nat) (x : Payload) :
    s.admitEntry ref driver x = { s with log := { s.log with
      queue := [⟨s.log.nextNumber, some s.log.lostCount, s.now, ref, driver, x⟩]
      lostCount := 0
      writing := true
      nextNumber := nextSeq s.log.nextNumber } } := by
  obtain ⟨-, fresh⟩ := (LogStore.beginWrite_spec true { s.log with
    queue := [⟨s.log.nextNumber, none, s.now, ref, driver, x⟩]
    nextNumber := nextSeq s.log.nextNumber }).2 _ _ rfl rfl hw he
  simp only [State.admitEntry, LogStore.admitEntry, hp, beq_self_eq_true, hq, List.nil_append, if_neg he]
  rw [fresh rfl]

/-- An entry admitted while a write is in progress waits. -/
theorem State.admitEntry_writing {s : State} (hw : s.log.writing = true) (he : s.log.engine.state ≠ .erasing)
    (ref driver : Nat) (x : Payload) :
    s.admitEntry ref driver x = { s with log := { s.log with
      queue := s.log.queue ++ [⟨s.log.nextNumber, none, s.now, ref, driver, x⟩]
      nextNumber := nextSeq s.log.nextNumber } } := by
  simp only [State.admitEntry, LogStore.admitEntry, if_neg he]
  rw [(LogStore.beginWrite_spec ..).1]
  exact .inr (.inr (.inl hw))

/-- An entry admitted while an erase is in progress waits, and the erase is to be suspended. -/
theorem State.admitEntry_erasing {s : State} (he : s.log.engine.state = .erasing) (ref driver : Nat) (x : Payload) :
    s.admitEntry ref driver x = { s with log := { s.log with
      queue := s.log.queue ++ [⟨s.log.nextNumber, none, s.now, ref, driver, x⟩]
      nextNumber := nextSeq s.log.nextNumber
      engine := { s.log.engine with
        suspendBy := some (s.log.engine.suspendBy.getD (s.elapsed + Config.suspensionBound)) } } } := by
  simp only [State.admitEntry, LogStore.admitEntry, if_pos he]
  rw [(LogStore.beginWrite_spec ..).1]
  exact .inr (.inr (.inr he))

theorem LogStore.admitsAutomatic_iff (l : LogStore) :
    l.admitsAutomatic = true ↔ l.queue.length < 24 ∧ 1 ≤ l.freeSpace := by
  unfold LogStore.admitsAutomatic Config.queueCapacity
  rw [Bool.and_eq_true, decide_eq_true_iff, decide_eq_true_iff]

/-! ### The page that follows (R146) -/

/-- The page that a search of the ring after `p` finds: the one at offset `k`, where it passes over the others. -/
theorem find_ringAfter {f : PageNo → Bool} {p q : PageNo} {k : Nat} (hq : q.val = (p.val + 1 + k) % 64) (hk : k < 64)
    (hf : f q = true) (hn : ∀ j < k, ∀ o : PageNo, o.val = (p.val + 1 + j) % 64 → f o = false) :
    (ringAfter p).find? f = some q := by
  have bound : k < (ringAfter p).length := by rw [ringAfter_length]; exact hk
  refine List.find?_eq_some_iff_getElem.2 ⟨hf, k, bound, ?_, fun j hj => ?_⟩
  · rw [ringAfter_getElem]
    exact Fin.ext hq.symm
  · rw [ringAfter_getElem, hn j hj _ rfl]
    rfl

/-- A page whose slot 31 is used becomes FULL, and the next page that is not BAD becomes FILLING if it is FREE. -/
theorem LogStore.written_full {l : LogStore} {p q : PageNo} {k : Nat} (e : Entry) (rest : List Entry)
    (hp : (l.page p).state = .filling) (hu : ∀ q, (l.page q).state = .filling → q = p)
    (hn : (l.page p).used.length = 31) (hq : q.val = (p.val + 1 + k) % 64) (hk : k < 63)
    (hg : (l.page q).state ≠ .bad)
    (hb : ∀ j < k, ∀ o : PageNo, o.val = (p.val + 1 + j) % 64 → (l.page o).state = .bad) :
    l.written e rest = l.stored e rest
      (if (l.page q).state = .free then
        (l.pages.set p.val ⟨.full, (l.page p).used ++ [.entry e]⟩ p.isLt).set q.val
          ⟨.filling, (l.page q).used⟩ q.isLt
      else l.pages.set p.val ⟨.full, (l.page p).used ++ [.entry e]⟩ p.isLt) := by
  have other : ∀ j < 63, ∀ o : PageNo, o.val = (p.val + 1 + j) % 64 → o ≠ p := by
    rintro j hj o ho rfl
    have := o.isLt
    omega
  have full : Config.pageSlots ≤ ((l.page p).used ++ [PageSlot.entry e]).length := by
    rw [List.length_append, hn]
    exact le_rfl
  obtain ⟨m, hm⟩ : ∃ m, m = l.setPage p ⟨.full, (l.page p).used ++ [.entry e]⟩ := ⟨_, rfl⟩
  have kept : ∀ o, o ≠ p → m.page o = l.page o := fun o ho => by rw [hm, LogStore.page_setPage, if_neg ho]
  have next : m.nextPage p = some q := find_ringAfter hq (by omega)
    (by rw [kept q (other k hk q hq)]; simpa using hg)
    fun j hj o ho => by
      rw [kept o (other j (by omega) o ho), hb j hj o ho]
      rfl
  have stored : (l.setPage p ⟨.filling, (l.page p).used ++ [.entry e]⟩).rollOver p = m.fillNext p := by
    rw [LogStore.rollOver, LogStore.page_setPage_self, if_pos full, hm]
    simp [LogStore.setPage]
  simp only [LogStore.written, LogStore.filling_unique hp hu, stored, LogStore.fillNext, next,
    kept q (other k hk q hq)]
  subst hm
  split <;> rfl

/-- Settles O43: an admission by what is in progress; a write completion by the slot that the entry takes. -/
theorem entriesAreAdmittedAndWritten : Obligations.EntriesAreAdmittedAndWritten := by
  refine ⟨fun s ref driver x hp => ⟨fun hq hw he => State.admitEntry_idle hp hq hw he ref driver x,
    fun hw _ he => State.admitEntry_writing hw he ref driver x, fun he => State.admitEntry_erasing he ref driver x,
    fun hl hf => if_pos (s.log.admitsAutomatic_iff.2 ⟨hl, hf⟩), fun h => if_neg fun ha => ?_⟩,
    fun s e rest p hp hw hq hfill hu => ⟨_, exec_writeComplete hp hw hq, fun h => ?_,
      fun hn => congrArg LogStore.onward (LogStore.written_eq e rest hfill hu hn),
      fun hn q k hqk hk hg hb => congrArg LogStore.onward (LogStore.written_full e rest hfill hu hn hqk hk hg hb)⟩⟩
  · obtain ⟨hl, hf⟩ := s.log.admitsAutomatic_iff.1 ha
    omega
  · have untouched : s.complete e = s := by
      rcases h with h | h
      · exact State.complete_other s h
      · unfold State.complete
        cases hf : s.find e.ref with
        | none => rfl
        | some x =>
          obtain ⟨hd, hr⟩ := State.find_some hf
          exact absurd hr (h x.1 x.2 hd)
    rw [untouched]

end Sys2Proof.Machine

namespace Sys2Proof.Machine

/-! ### The order of taking (R160) -/

theorem Page.mem_entries {x : Page} {e : Entry} : e ∈ x.entries ↔ PageSlot.entry e ∈ x.used := by
  unfold Page.entries
  rw [List.mem_filterMap]
  constructor
  · rintro ⟨u, hu, he⟩
    cases u with
    | entry f => exact Option.some.inj he ▸ hu
    | void => cases he
  · exact fun h => ⟨_, h, rfl⟩

theorem LogStore.entries_isEmpty {l : LogStore} :
    l.entries.isEmpty = true ↔ ∀ p e, PageSlot.entry e ∉ (l.page p).used := by
  rw [List.isEmpty_iff, LogStore.entries, List.flatMap_eq_nil_iff]
  simp only [List.mem_finRange, true_implies, List.eq_nil_iff_forall_not_mem, Page.mem_entries]

/-- The pages in ring order from the first. -/
theorem pagesFrom_eq (first : PageNo) :
    ((List.range 64).map fun i => (⟨(first.val + i) % 64, Nat.mod_lt _ (by decide)⟩ : PageNo)) =
      (List.finRange 64).map fun k => first + k := by
  rw [← List.map_coe_finRange_eq_range, List.map_map]
  exact List.map_congr_left fun k _ => Fin.ext (Fin.val_add first k).symm

theorem LogStore.takingOrder_eq {l : LogStore} {set : List PageNo} {first : PageNo} (hs : l.engine.set = set)
    (h : ((∃ p e, PageSlot.entry e ∈ (l.page p).used) ∧ l.head = some first)
      ∨ ((∀ p e, PageSlot.entry e ∉ (l.page p).used) ∧ l.filling = some first)) :
    l.takingOrder = ((List.finRange 64).map fun k => first + k).filter fun p => decide (p ∈ set) := by
  have start : (if l.entries.isEmpty = true then l.filling else l.head) = some first := by
    rcases h with ⟨⟨p, e, he⟩, hh⟩ | ⟨hn, hf⟩
    · rw [if_neg fun hn => LogStore.entries_isEmpty.1 hn p e he, hh]
    · rw [if_pos (LogStore.entries_isEmpty.2 hn), hf]
  unfold LogStore.takingOrder
  simp only [start, Option.getD_some, pagesFrom_eq, List.contains_eq_mem, hs]

/-! ### The next write after the engine's part (R154, R161, R162) -/

/-- A write in progress is that of the front entry, which has taken the lost count (R154). -/
def LogStore.WritesFront (l : LogStore) : Prop :=
  l.writing = true → ∃ e rest n, l.queue = e :: rest ∧ e.lost = some n

theorem LogStore.WritesFront.of_idle {l : LogStore} (h : l.writing = false) : l.WritesFront :=
  fun hw => absurd (h.symm.trans hw) nofun

/-- The next write begins as `onward` says, where no erase waits for the store to be idle. -/
theorem LogStore.beginWrite_onward {l : LogStore} (hw : l.WritesFront)
    (he : ¬ (l.engine.state = .suspended ∧ l.queue = [] ∧ l.writing = false)) : l.beginWrite true = l.onward := by
  cases h : l.writing with
  | false =>
    rw [← LogStore.onward_eq h]
    unfold LogStore.resume
    rw [if_neg he]
  | true =>
    obtain ⟨e, rest, n, hq, hl⟩ := hw h
    rw [(LogStore.beginWrite_spec ..).1 (.inr (.inr (.inl h)))]
    unfold LogStore.onward
    simp only [hq, hl]
    split
    · rfl
    · rw [← h, ← hq]

/-- The engine's next page taken, or the engine at rest, the next write begins. -/
theorem State.takePages_beginWrite {s : State} (ps : List PageNo) (hp : s.phase = .running)
    (hw : s.log.WritesFront) :
    (s.takePages ps).beginWrite = { s.pagesTaken ps with log := (s.pagesTaken ps).log.onward } := by
  obtain ⟨phase, log⟩ := State.takePages_cases ps s
  have onward : (s.takePages ps).log.beginWrite true = (s.takePages ps).log.onward := by
    rcases log with h | ⟨p, rest, -, h⟩
    · rw [h]
      exact LogStore.beginWrite_onward hw nofun
    · rw [h]
      refine LogStore.beginWrite_onward hw fun ⟨hs, hq, hn⟩ => ?_
      change s.log.queue = [] at hq
      change s.log.writing = false at hn
      simp [LogStore.beginErase, hq, hn] at hs
  have running : ((s.pagesTaken ps).phase == .running) = true := by
    rw [← State.takePages_eq, phase, hp]
    rfl
  rw [State.takePages_eq] at onward ⊢
  unfold State.beginWrite
  rw [running, onward]

/-- The engine's own record is not read where pages are taken. -/
theorem State.pagesTaken_engine (s : State) (x : Engine) (order : List PageNo) :
    State.pagesTaken { s with log := { s.log with engine := x } } order = s.pagesTaken order := rfl

/-- The page of a completed erase is free, or filled at once (R163). -/
theorem LogStore.freePage_eq {l : LogStore} {p : PageNo} {x : PageState} {next : Prop}
    (hn : next = ((∀ f, (l.page f).state ≠ .filling)
      ∧ ∃ tail, l.pageOf l.lastWritten = some tail ∧ l.nextPage tail = some p))
    (hx : (x = .filling ∧ next) ∨ (x = .free ∧ ¬ next)) : l.freePage p = l.setPage p ⟨x, []⟩ := by
  have fills := (@LogStore.fillsAtOnce_iff l p).trans (iff_of_eq hn.symm)
  unfold LogStore.freePage
  rcases hx with ⟨rfl, hx⟩ | ⟨rfl, hx⟩
  · rw [if_pos (fills.2 hx)]
  · rw [if_neg (mt fills.1 hx)]

/-- The pages left once one is BAD (R164). -/
theorem LogStore.goodPages_setPage_bad (l : LogStore) (p : PageNo) (used : List PageSlot) :
    (l.setPage p ⟨.bad, used⟩).goodPages =
      (List.finRange 64).countP fun q => q != p && (l.page q).state != .bad := by
  unfold LogStore.goodPages
  congr 1
  funext q
  rw [LogStore.page_setPage]
  by_cases hq : q = p <;> simp [hq]

theorem StoreStatus.degrade_eq (x : StoreStatus) : x.degrade = if x = .ready then .degraded else x := by
  cases x <;> rfl

theorem LogStore.beginWrite_writesFront {l : LogStore} (hw : l.writing = false) (running : Bool) :
    (l.beginWrite running).WritesFront := by
  obtain ⟨waits, begins⟩ := LogStore.beginWrite_spec running l
  by_cases idle : l.queue = [] ∨ running = false ∨ l.writing = true ∨ l.engine.state = .erasing
  · rw [waits idle]
    exact .of_idle hw
  · simp only [not_or] at idle
    obtain ⟨hq, hr, -, he⟩ := idle
    obtain ⟨e, rest, hq⟩ := List.exists_cons_of_ne_nil hq
    obtain ⟨whole, fresh⟩ := begins e rest hq (Bool.eq_true_of_not_eq_false hr) hw he
    cases hl : e.lost with
    | some n =>
      rw [whole n hl]
      exact fun _ => ⟨e, rest, n, hq, hl⟩
    | none =>
      rw [fresh hl]
      exact fun _ => ⟨_, rest, l.lostCount, rfl, rfl⟩

theorem State.offer_writesFront {s : State} (hw : s.log.writing = false) (ref driver : Nat) (x : Payload) :
    (s.offer ref driver x).log.WritesFront := by
  rcases s.offer_cases ref driver x with ⟨-, admitted⟩ | ⟨-, lost⟩
  · rw [admitted]
    refine LogStore.beginWrite_writesFront ?_ _
    exact hw
  · rw [lost]
    exact .of_idle hw

/-! ### The events of an erase (R162 to R164) -/

theorem LogStore.endErase_eq {l : LogStore} {set : List PageNo} {due : Option Nat}
    (he : l.engine = ⟨.erasing, set, none, due⟩) :
    l.endErase = { l with engine := ⟨.suspended, set, none, none⟩ } := by
  unfold LogStore.endErase
  rw [he]

section
variable {s : State} {p : PageNo} {rest : List PageNo} {due : Option Nat}
  (he : s.log.engine = ⟨.erasing, p :: rest, none, due⟩)
include he

theorem State.erasing_eq (hp : s.phase = .running) : s.erasing = true := by
  unfold State.erasing
  rw [hp, he]
  rfl

variable (hp : s.phase = .running) (hw : s.log.writing = false)
include hp hw

/-- A suspension that an admission asked for lets the next write begin. -/
theorem exec_eraseSuspend {e : Entry} {more : List Entry} (hd : due ≠ none) (hq : s.log.queue = e :: more)
    (hl : e.lost = none) :
    exec .eraseSuspend s = .next { s with log := { s.log with
      engine := ⟨.suspended, p :: rest, none, none⟩
      queue := { e with lost := some s.log.lostCount } :: more
      lostCount := 0
      writing := true } } := by
  have occasion : (s.erasing && s.log.engine.suspendBy.isSome) = true := by
    rw [State.erasing_eq he hp, he]
    exact Option.isSome_iff_ne_none.2 hd
  have running : (s.phase == .running) = true := by
    rw [hp]
    rfl
  obtain ⟨-, begins⟩ := (LogStore.beginWrite_spec (s.phase == .running)
    { s.log with engine := ⟨.suspended, p :: rest, none, none⟩ }).2 e more hq running hw nofun
  refine congrArg Host.Outcome.next ((if_pos occasion).trans ?_)
  unfold State.suspendErase
  rw [LogStore.endErase_eq he]
  exact congrArg (fun l : LogStore => ({ s with log := l } : State)) (begins hl)

/-- A completed erase leaves its page empty; then the pages left are taken and the next write begins. -/
theorem exec_eraseComplete {x : PageState} (hx : s.log.freePage p = s.log.setPage p ⟨x, []⟩) {u : State}
    (hu : u = State.pagesTaken { s with
      log := s.log.setPage p ⟨x, []⟩
      office := s.office.repliedPage p .erased } rest) :
    exec .eraseComplete s = .next { u with log := u.log.onward } := by
  refine congrArg Host.Outcome.next ((if_pos (State.erasing_eq he hp)).trans ?_)
  unfold State.eraseDone
  simp only [he, hx]
  refine (State.takePages_beginWrite rest ?_ ?_).trans ?_
  · exact hp
  · exact .of_idle hw
  · rw [hu]
    rfl

/-- A verify failure leaves its page BAD and offers its entry; then the pages left are taken and the next write
begins. -/
theorem exec_eraseVerifyFailure {bad u : State}
    (hb : bad = { s with log := { s.log.setPage p ⟨.bad, []⟩ with
      engine := ⟨.suspended, p :: rest, none, none⟩
      status := if s.log.status = .ready then .degraded else s.log.status } })
    (hu : u = State.pagesTaken { bad with
      log := (bad.offer 0 0 (.pageBad p
        ((List.finRange 64).countP fun q => q != p && (s.log.page q).state != .bad))).log
      office := s.office.repliedPage p .eraseFailed } rest) :
    exec .eraseVerifyFailure s = .next { u with log := u.log.onward } := by
  have failed : s.eraseFailed = (State.takePages rest ((bad.offer 0 0 (.pageBad p
      (s.log.setPage p ⟨.bad, []⟩).goodPages)).replyPage p .eraseFailed)).beginWrite := by
    rw [hb, ← StoreStatus.degrade_eq]
    unfold State.eraseFailed
    simp only [he]
    rw [LogStore.endErase_eq (l := s.log.setPage p ⟨.bad, []⟩) he]
    rfl
  have running : bad.phase = .running := by rw [hb]; exact hp
  have office : bad.office = s.office := by rw [hb]
  have idle : bad.log.writing = false := by rw [hb]; exact hw
  rw [← LogStore.goodPages_setPage_bad s.log p []] at hu
  refine congrArg Host.Outcome.next ((if_pos (State.erasing_eq he hp)).trans (failed.trans ?_))
  refine (State.takePages_beginWrite rest ?_ ?_).trans ?_
  · rw [State.offer_frame]
    exact running
  · exact State.offer_writesFront idle _ _ _
  · rw [hu, State.offer_frame, ← office]
    rfl

end

/-- Settles O45: the pages taken in order, and the events of an erase. -/
theorem theEngineTakesAndErasesPages : Obligations.TheEngineTakesAndErasesPages := by
  refine ⟨fun s set first w hp he hfirst => ?_, fun s p rest due hp he hw =>
    ⟨fun e more hd hq hl => exec_eraseSuspend he hp hw hd hq hl,
      fun x u next hn hx hu => exec_eraseComplete he hp hw (LogStore.freePage_eq hn hx) hu,
      fun bad u hb hu => exec_eraseVerifyFailure he hp hw hb hu⟩⟩
  have occasion : s.phase = .running ∧ s.log.engine.state = .collecting := ⟨hp, by rw [he]⟩
  refine congrArg Host.Outcome.next ((if_pos occasion).trans ?_)
  have order := LogStore.takingOrder_eq (l := (s.reach w).log) (congrArg Engine.set he) hfirst
  unfold State.windowExpired
  rw [State.takePages_eq, State.pagesTaken_engine]
  simp only [he, Option.getD_some, order]
  rfl

end Sys2Proof.Machine
